-- ==== Sys2Proof/Word.lean ====
section
/-!
DEFINITION. Words the manual treats as bits (bytes and 16-bit words), tables of fixed size, and saturating counts.
-/

namespace Sys2Proof

/-- A byte of a frame, a link message or a record. -/
abbrev Byte := BitVec 8

/-- A two-byte number as it travels, high byte first. -/
abbrev Half := BitVec 16

/-- Cell `i` of a table of `n` cells. -/
def cell {α : Type} {n : Nat} (t : Vector α n) (i : Fin n) : α := t[i.val]

/-- The table with cell `i` replaced. -/
def setCell {α : Type} {n : Nat} (t : Vector α n) (i : Fin n) (x : α) : Vector α n := t.set i.val x i.isLt

/-- The table with `f` applied to every cell. -/
def mapCells {α β : Type} {n : Nat} (f : α → β) (t : Vector α n) : Vector β n :=
  ⟨(t.toList.map f).toArray, by simp⟩

/-- The table whose cell `i` is `f i`. -/
def tabulate {α : Type} {n : Nat} (f : Fin n → α) : Vector α n :=
  ⟨((List.finRange n).map f).toArray, by simp⟩

theorem cell_setCell {α : Type} {n : Nat} (t : Vector α n) (i j : Fin n) (x : α) :
    cell (setCell t i x) j = if j = i then x else cell t j := by
  simp [cell, setCell, Vector.getElem_set, Fin.ext_iff, eq_comm]

@[simp] theorem cell_setCell_self {α : Type} {n : Nat} (t : Vector α n) (i : Fin n) (x : α) :
    cell (setCell t i x) i = x := by
  simp [cell_setCell]

theorem cell_setCell_ne {α : Type} {n : Nat} (t : Vector α n) {i j : Fin n} (x : α) (h : j ≠ i) :
    cell (setCell t i x) j = cell t j := by
  simp [cell_setCell, h]

@[simp] theorem cell_mapCells {α β : Type} {n : Nat} (f : α → β) (t : Vector α n) (i : Fin n) :
    cell (mapCells f t) i = f (cell t i) := by
  simp [cell, mapCells]

@[simp] theorem cell_tabulate {α : Type} {n : Nat} (f : Fin n → α) (i : Fin n) :
    cell (tabulate f) i = f i := by
  simp [cell, tabulate]

@[simp] theorem cell_replicate {α : Type} {n : Nat} (x : α) (i : Fin n) :
    cell (Vector.replicate n x) i = x := by
  simp [cell]

theorem table_ext {α : Type} {n : Nat} {t u : Vector α n} (h : ∀ i, cell t i = cell u i) : t = u := by
  apply Vector.ext
  intro i hi
  exact h ⟨i, hi⟩

/-- A saturating count: it stays at its maximum `m` when a further increase is due (Conventions, Counts). -/
def satInc (m n : Nat) : Nat := min m (n + 1)

end Sys2Proof
end

