-- ==== Sys2Proof/Config.lean ====
section
/-!
DEFINITION. What an implementation fixes: the figures of the part, and the types of the settings held by the
Configuration Store with their defaults (R196, R197). The manual leaves no result of a command open, so no
uninterpreted constant stands here (DEDUCED, log entry 33: unsafe if a rule was misread as complete).
-/

namespace Sys2Proof

/-- The two trolley poles, P and N. -/
inductive PoleId where
  | p
  | n
  deriving DecidableEq, Repr

/-- The other pole. -/
def PoleId.other : PoleId → PoleId
  | .p => .n
  | .n => .p

/-- A station's configured role (Introduction; codes of 12.1). -/
inductive Role where
  | pole
  | traction
  | store
  | aux
  | desk
  deriving DecidableEq, Repr

/-- The two bit rates of the coordination line (R138). -/
inductive BitRate where
  | kbit250
  | kbit500
  deriving DecidableEq, Repr

/-- Bit times in one millisecond at a bit rate (R138). -/
def BitRate.bitsPerMs : BitRate → Nat
  | .kbit250 => 250
  | .kbit500 => 500

/-- The functions an input may carry (R171, R197). -/
inductive InputFn where
  | general
  | stowed (pole : PoleId)
  | ackButton
  | stopButton
  | raiseButton
  | lowerButton
  | channelReq (k : Fin 8)
  deriving DecidableEq, Repr

/-- The functions an output may carry (R174, R197). -/
inductive OutputFn where
  | general
  | raisePole (pole : PoleId)
  | lowerPole (pole : PoleId)
  | grantEnable
  | alarmLamp
  | buzzer
  | lineLamp
  | channel (k : Fin 8)
  deriving DecidableEq, Repr

/-- What sets and clears a channel's requested flag (R74). -/
inductive RequestSource where
  | link
  | inputLevel
  | inputEdge
  deriving DecidableEq, Repr

/-- Record 0, STATION (R196), with the defaults of R197. -/
structure StationSettings where
  address : Fin 16 := 0
  role : Role := .aux
  cls : Fin 4 := 2
  roundLength : Nat := 16
  bitRate : BitRate := .kbit500
  staleMs : Nat := 60
  lostMs : Nat := 500
  lostCharge : Vector Nat 4 := #v[50, 400, 80, 100]
  deriving DecidableEq, Repr

/-- Record 1, APPORTION. -/
structure ApportionSettings where
  poleMax : Nat := 600
  vKnee : Nat := 560
  vFloor : Nat := 400
  reserve : Nat := 20
  rampStep : Nat := 20
  demandHold : Nat := 200
  overdrawMargin : Nat := 20
  overdrawMs : Nat := 500
  grantMin : Nat := 10
  deriving DecidableEq, Repr

/-- Record 2, POLE. -/
structure PoleSettings where
  contactLo : Nat := 150
  contactHi : Nat := 500
  dropStep : Nat := 40
  confirmMs : Nat := 20
  qualifyMs : Nat := 300
  raiseMax : Nat := 6000
  lowerMax : Nat := 4000
  gapMax : Nat := 1500
  tGap : Nat := 200
  tLow : Nat := 450
  hyst : Nat := 20
  lowerWaitMax : Nat := 500
  quiet : Nat := 5
  sampleTimeout : Nat := 20
  deriving DecidableEq, Repr

/-- Record 3, LADDER. -/
structure LadderSettings where
  restoreInterval : Nat := 400
  restoreMargin : Nat := 5
  rotate : Bool := false
  deriving DecidableEq, Repr

/-- Record 4, ALARM. -/
structure AlarmSettings where
  unclaimedHold : Nat := 200
  deriving DecidableEq, Repr

/-- Record 5, INPUTS. -/
structure InputSettings where
  fn : Vector InputFn 16 := Vector.replicate 16 .general
  debounce : Nat := 5
  deriving DecidableEq, Repr

/-- Record 6, OUTPUTS. -/
structure OutputSettings where
  fn : Vector OutputFn 16 := Vector.replicate 16 .general
  deriving DecidableEq, Repr

/-- Records 7 to 14, CHANNEL 0 to CHANNEL 7. -/
structure ChannelSettings where
  rating : Nat := 0
  batteryFed : Bool := false
  source : RequestSource := .link
  deriving DecidableEq, Repr

/-- The fifteen configuration records (R196). `{}` is the defaults (R197). -/
structure Settings where
  station : StationSettings := {}
  apportion : ApportionSettings := {}
  pole : PoleSettings := {}
  ladder : LadderSettings := {}
  alarm : AlarmSettings := {}
  inputs : InputSettings := {}
  outputs : OutputSettings := {}
  channels : Vector ChannelSettings 8 := Vector.replicate 8 {}
  deriving DecidableEq, Repr

namespace Figures

/-- Currents are 0 to 2047 A (Conventions, Quantities). -/
def currentMax : Nat := 2047
/-- Line voltage is 0 to 1023 V. -/
def voltageMax : Nat := 1023
/-- Ages in milliseconds saturate here (Conventions, Counts). -/
def ageMax : Nat := 65535
/-- The alarm list holds at most 24 entries (R29). -/
def alarmCapacity : Nat := 24
/-- The notice queue holds at most 8 notices (R128). -/
def queueCapacity : Nat := 8
/-- The receive FIFO holds at most 32 bytes (R182). -/
def rxCapacity : Nat := 32
/-- The transmit FIFO holds at most 64 bytes (R182). -/
def txCapacity : Nat := 64
/-- Free places a request waits for (R188). -/
def answerRoom : Nat := 52
/-- RTS is deasserted at this many bytes (R185). -/
def rtsHigh : Nat := 24
/-- RTS is asserted again at this many bytes or fewer (R185). -/
def rtsLow : Nat := 8
/-- Longest payload LENGTH may give (10.3). -/
def payloadMax : Nat := 48
/-- Entries one READ_ALARMS returns at most (R192). -/
def readAlarmsMax : Nat := 8
/-- Length of a transmit-error mute in milliseconds (R135). -/
def muteMs : Nat := 1000
/-- Length of the quiet interval in milliseconds (R16). -/
def quietMs : Nat := 20
/-- The link idle timer's limit in milliseconds (R183). -/
def linkIdleMs : Nat := 5
/-- Transmit errors that mute a station (R135). -/
def txErrorLimit : Nat := 8
/-- A break is detected at this dominant-run count (R147). -/
def breakBits : Nat := 20
/-- The count a stuck line is left at (R150). -/
def stuckBits : Nat := 257
/-- The idle count that makes a LISTEN station enter RUN (R119). -/
def idleBits : Nat := 8192
/-- The SYNC character (12.2). -/
def sync : Byte := 0xA7
/-- The START byte of a link message (12.4). -/
def start : Byte := 0x7E

end Figures

end Sys2Proof
end

