-- ==== Sys2Proof/Syntax.lean ====
section
/-!
DEFINITION. The commands the part takes, one constructor per row of spec/opcode_table.json, and their operands.
A command is an event at the part: a reset, a byte or a request of the station link, an input or sample, a timer's
expiry, or an event of the coordination line.
-/

namespace Sys2Proof

/-- The causes of an alarm (2.1; codes of 12.1). -/
inductive Cause where
  | poleDropP
  | poleDropN
  | lineLoss
  | sensorLoss
  | deskStop
  | unclaimed
  deriving DecidableEq, Repr

/-- The source of an alarm list entry (R29). -/
inductive Source where
  | station (a : Fin 16)
  | unknown
  deriving DecidableEq, Repr

/-- The two commands to the poles (R6). -/
inductive PoleAction where
  | raise
  | lower
  deriving DecidableEq, Repr

/-- Which poles a command names (R6; codes of 12.1). -/
inductive PoleSel where
  | p
  | n
  | both
  deriving DecidableEq, Repr

/-- A notice and the fields of its kind (R128). -/
inductive Notice where
  | ack (source : Source) (cause : Cause)
  | ackAll
  | clear (cause : Cause)
  | clearLost
  | command (action : PoleAction) (poles : PoleSel)
  deriving DecidableEq, Repr

/-- The coordination line is dominant or recessive (R138). -/
inductive LineLevel where
  | recessive
  | dominant
  deriving DecidableEq, Repr

/-- The 14 body bytes of a STATUS, by field (12.2). A field may hold a value the manual does not define (R204). -/
structure StatusBody where
  role : Byte
  flags : Byte
  sequence : Byte
  charge : Half
  allowance : Half
  drawn : Half
  shedDepth : Byte
  causes : Byte
  data0 : Byte
  data1 : Byte
  data2 : Byte
  deriving DecidableEq, Repr

/-- The 4 body bytes of a NOTICE (12.2). -/
structure NoticeBody where
  kind : Byte
  field1 : Byte
  field2 : Byte
  field3 : Byte
  deriving DecidableEq, Repr

/-- The 2 body bytes of an ALARM frame (12.2). -/
structure AlarmBody where
  causes : Byte
  detail : Byte
  deriving DecidableEq, Repr

/-- The kinds of frame (R140). -/
inductive FrameKind where
  | status
  | notice
  | alarm
  deriving DecidableEq, Repr

/-- A frame's contents without its SYNC, sender and check (R140). -/
inductive FrameBody where
  | status (b : StatusBody)
  | notice (b : NoticeBody)
  | alarm (b : AlarmBody)
  deriving DecidableEq, Repr

/-- How a run of complete characters ended at the receiver (R143). -/
inductive RunEnding where
  /-- the last character given is the last taken: the expected length is reached, or the header is judged -/
  | reached
  /-- the next character's stop bit was sampled dominant, and the line went recessive before 20 bit times -/
  | badStop
  /-- the line stayed recessive for more than 2 bit times after a stop bit -/
  | idle
  /-- the run goes on: since the last stop bit the line has been dominant for `dominant` bit times (0 while it is
  recessive), and nothing is decided yet -/
  | going (dominant : Nat)
  deriving DecidableEq, Repr

/-- The actions of a SET_CHANNEL request (R98). -/
inductive ChannelAction where
  | request
  | release
  | mask
  | unmask
  | shed
  | setLowest
  deriving DecidableEq, Repr

/-- A message of the link as it stands complete in the request buffer, for BAD_MESSAGE (R187, R189). -/
inductive LinkMessage where
  /-- a message broken by a loss mark or a bad LENGTH; its TYPE when one was received -/
  | damaged (type : Option Byte)
  /-- a whole message -/
  | whole (type : Byte) (payload : List Byte) (check : Byte)
  deriving DecidableEq, Repr

/-- The requests of the station link (R190). -/
inductive Request where
  | configWrite (record : Byte) (items : List Half)
  | join
  | reset
  | readStation
  | readPeer (address : Byte)
  | readAlarms (index : Byte)
  | readPoles
  | readChannels
  | readIo
  | readChanges
  | setAttnMask (mask : Byte)
  | setOutput (output : Byte) (on : Bool)
  | setDemand (amperes : Half)
  | setChannel (channel : Byte) (action : ChannelAction)
  | sendNotice (notice : Notice)
  | poleCommand (action : PoleAction) (poles : PoleSel)
  deriving DecidableEq, Repr

/-- The levels an event of the station link's bytes finds at pins outside the link: LRXD (R44) and the LRATE strap, which a
link reset taken from then on reads (R183, R202). -/
structure LinkLevels where
  line : LineLevel
  lrateHigh : Bool
  deriving DecidableEq, Repr

/-- The commands, one constructor per row of spec/opcode_table.json, in the table's order. An operand `line` is the
level of the coordination line in the event (R44). -/
inductive Instr where
  /-- POWER_ON_RESET: `lrateHigh` is the LRATE strap as the part leaves the reset (R202). -/
  | powerOnReset (lrateHigh : Bool)
  /-- PIN_RESET: `inPowerOn` says that RESETN fell while a power-on reset was held (R202). -/
  | pinReset (lrateHigh : Bool) (inPowerOn : Bool)
  | reset
  /-- LINK_BYTE_RECEIVED: `stopOk` says that the stop bit was sampled high (R183, R184). -/
  | linkByteReceived (byte : Byte) (stopOk : Bool) (levels : LinkLevels)
  | idleTimerExpiry
  /-- TRANSMIT_BYTE_START: `cts` says that CTS is asserted (R186). -/
  | transmitByteStart (cts : Bool) (levels : LinkLevels)
  | badMessage (message : LinkMessage)
  /-- CONFIG_WRITE: no items reads the record back (R198). -/
  | configWrite (record : Byte) (items : List Half)
  | join
  | readStation
  | readPeer (address : Byte)
  | readAlarms (index : Byte)
  | readPoles
  | readChannels
  | readIo
  | readChanges
  | setAttnMask (mask : Byte)
  | setOutput (output : Byte) (on : Bool)
  | setDemand (amperes : Half)
  | setChannelRequest (channel : Byte)
  | setChannelRelease (channel : Byte)
  | setChannelMask (channel : Byte)
  | setChannelUnmask (channel : Byte)
  | setChannelShed (channel : Byte)
  | setLowest (channel : Byte)
  | sendNotice (notice : Notice)
  | poleCommand (action : PoleAction) (poles : PoleSel) (line : LineLevel)
  | debouncedChange (input : Fin 16) (active : Bool) (line : LineLevel)
  | sampleWord (word : Half) (line : LineLevel)
  /-- SAMPLE_WORD_DISCARDED: `bits` is how many bits were sampled (R177). -/
  | sampleWordDiscarded (bits : Nat)
  /-- LATCH_STALE: the map of the channels whose ages reach sample_timeout in this event (R24, R179). -/
  | latchStale (channels : Byte) (line : LineLevel)
  | qualifyTimerExpiry (pole : PoleId)
  | raiseMaxExpiry (pole : PoleId)
  | confirmTimerExpiry (pole : PoleId) (line : LineLevel)
  | quietTimerExpiry (pole : PoleId)
  | lowerWaitMaxExpiry (pole : PoleId)
  | lowerMaxExpiry (pole : PoleId)
  | gapTimerExpiry (line : LineLevel)
  | restoreQualifyExpiry
  | unclaimedHoldExpiry
  | demandHoldExpiry
  | overdrawTimerExpiry
  | restoreTimerExpiry
  | peerStale (address : Fin 16)
  | peerLost (address : Fin 16)
  | muteTimerExpiry
  | idleCountExpiry
  | statusReceived (sender : Fin 16) (body : StatusBody)
  | noticeReceived (sender : Fin 16) (body : NoticeBody)
  | alarmReceived (sender : Fin 16) (body : AlarmBody)
  | duplicateAddress (body : FrameBody)
  /-- RECEIVE_ERROR: the characters taken since the line was last shown and how the run ended, or that it goes on (R136,
  R142, R143). -/
  | receiveError (chars : List Byte) (ending : RunEnding)
  | lineActivityEnd
  /-- OWN_SLOT_START: `startTaken` says that a start bit has been taken as the slot's frame (R120). -/
  | ownSlotStart (line : LineLevel) (startTaken : Bool)
  | skipInterval
  | roundEnd
  | ownStatusComplete
  | ownNoticeComplete
  | ownAlarmComplete
  /-- ECHO_MISMATCH: the number of the character and its ten bits as read back, the start bit in bit 0 (R139, R145). -/
  | echoMismatch (index : Nat) (readBack : BitVec 10)
  | abortJudgedError
  | breakAssert
  | breakRelease
  /-- BREAK_DETECTION: the characters taken since the line was last shown and before the dominant run began (R143). -/
  | breakDetection (receiving : List Byte)
  | breakEnd
  | claimPositionStart (position : Fin 16) (line : LineLevel)
  | windowComplete
  | stuckLine
  | stxByteEnd
  | inputSample (input : Fin 16) (active : Bool)
  deriving DecidableEq, Repr

end Sys2Proof
end

