-- ==== Sys2Proof/Decode.lean ====
section
/-!
DEFINITION. The command a table word spells. The part has no instruction words: its commands are events at its pins and
messages of its link, and no row of spec/opcode_table.json gives bits, so no word spells a command (DESIGN CHOICE,
log entry 34: safe). The
byte forms of its messages and frames stand in Machine/Operands.lean.
-/

namespace Sys2Proof

/-- The command a word of `nbits` bits spells by the table's bits: none, since no row gives any. -/
def decodeTableWord (_nbits _w : Nat) : Option Instr := none

end Sys2Proof
end

