-- ==== Sys2Proof/Machine/State.lean ====
section
/-!
DEFINITION. The state of the part, block by block, as plain data; the value of every item after a power-on reset; the
reasons a step could stop. Each block's structure carries its values after reset as its defaults.
-/

namespace Sys2Proof
namespace Machine

/-- A millisecond timer: `none` while stopped, otherwise the milliseconds run since it was started. -/
abbrev Timer := Option Nat

/-! ### Pole Supervisor (R1, R2) -/

/-- The pole states (1.3; codes of 12.1). -/
inductive PoleState where
  | initial
  | stowed
  | raising
  | onWire
  | suspect
  | lowerWait
  | lowering
  | stuck
  deriving DecidableEq, Repr

/-- The line voltage bands (R3). -/
inductive Band where
  | none
  | low
  | normal
  deriving DecidableEq, Repr

/-- A pole's last command outcome (R1). -/
inductive CommandOutcome where
  | none
  | accepted
  | ignoredState
  | ignoredAlarm
  | raiseFailed
  | lowerFailed
  deriving DecidableEq, Repr

/-- One pole record (R1); the defaults are R2's. `qualifying` is the model's own (DESIGN CHOICE, log entry 30: safe): an
INITIAL pole that has been settled by R4 and is being qualified. -/
structure Pole where
  state : PoleState := .initial
  elevation : Nat := 0
  bounces : Nat := 0
  drops : Nat := 0
  outcome : CommandOutcome := .none
  qualified : Bool := false
  qualifying : Bool := false
  stateTimer : Timer := none
  qualifyTimer : Timer := none
  confirmTimer : Timer := none
  quietTimer : Timer := none
  deriving DecidableEq, Repr

/-- The Pole Supervisor (R1). `supervising` is the model's own (log entry 30): the station has entered RUN since the
reset. -/
structure PoleSupervisor where
  poleP : Pole := {}
  poleN : Pole := {}
  band : Band := .none
  lineVoltage : Nat := 0
  gapFlag : Bool := false
  gapTimer : Timer := none
  restoreQualifyTimer : Timer := none
  supervising : Bool := false
  deriving DecidableEq, Repr

/-! ### Alarm List Controller (R28 to R31) -/

/-- The sample channels a SENSOR_LOSS may name (R24). -/
inductive SensorDetail where
  | elevP
  | elevN
  | lineV
  deriving DecidableEq, Repr

/-- The states of an alarm entry (R30). -/
inductive AlarmState where
  | pending
  | announced
  | acknowledged
  deriving DecidableEq, Repr

/-- How an entry came into the list (R30). -/
inductive LearnedBy where
  | localRaise
  | alarmFrame
  | status
  deriving DecidableEq, Repr

/-- An alarm list entry (R30). -/
structure AlarmEntry where
  source : Source
  cause : Cause
  detail : Option SensorDetail
  state : AlarmState
  learnedBy : LearnedBy
  age : Nat
  repeats : Nat
  deriving DecidableEq, Repr

/-- The Alarm List Controller (R28 to R31). `entries` is oldest first. `windowClaimed` is the model's own (log entry
30): the window in progress has been claimed as R48 says. -/
structure AlarmController where
  entries : List AlarmEntry := []
  unlisted : Bool := false
  breakHold : Bool := false
  unclaimedHoldTimer : Timer := none
  windowClaimed : Bool := false
  deriving DecidableEq, Repr

/-! ### Current Apportioner (R51, R52) -/

/-- The line conditions (R57). -/
inductive LineCondition where
  | alarm
  | unknown
  | offWire
  | gap
  | available
  deriving DecidableEq, Repr

/-- The Current Apportioner (R51); the defaults are R52's. -/
structure Apportioner where
  demand : Nat := 0
  demandHoldTimer : Timer := none
  ownCharge : Nat := 0
  lineCondition : LineCondition := .unknown
  poleVoltage : Option Nat := none
  budget : Nat := 0
  share : Nat := 0
  allowance : Nat := 0
  grant : Nat := 0
  overdrawTimer : Timer := none
  overdrawFlag : Bool := false
  deriving DecidableEq, Repr

/-! ### Load Ladder (R74, R75) -/

/-- The states of a load channel (R74). -/
inductive ChannelState where
  | off
  | waiting
  | on
  | shed
  | held
  | unused
  deriving DecidableEq, Repr

/-- Why a channel was last taken out (R74). -/
inductive ShedCause where
  | none
  | allowance
  | line
  | overdraw
  | request
  deriving DecidableEq, Repr

/-- The changing fields of a channel record; its rating, battery-fed attribute and request source are read from the
configuration, which R74 names as their home. After a power-on reset every rating is 0 and the channel UNUSED (R75). -/
structure Channel where
  requested : Bool := false
  masked : Bool := false
  state : ChannelState := .unused
  shedCause : ShedCause := .none
  deriving DecidableEq, Repr

/-- The Load Ladder (R74, R75). -/
structure Ladder where
  channels : Vector Channel 8 := Vector.replicate 8 {}
  lowest : Fin 8 := 7
  restoreTimer : Timer := none
  deriving DecidableEq, Repr

/-! ### Round Sequencer (R114, R115) -/

/-- The station's modes (R116). -/
inductive Mode where
  | config
  | listen
  | run
  | mute
  deriving DecidableEq, Repr

/-- Why the station is in MUTE (R114). -/
inductive MuteCause where
  | none
  | duplicate
  | txErrors
  deriving DecidableEq, Repr

/-- Which interval the Round Sequencer is timing (R114). -/
inductive LinePhase where
  | untimed
  | slot
  | roundEnd
  | brk
  | window
  deriving DecidableEq, Repr

/-- The kind of the last own-slot frame that completed (R114). -/
inductive OwnSlotKind where
  | none
  | status
  | notice
  deriving DecidableEq, Repr

/-- The Round Sequencer (R114); the defaults are R115's. `statusSent` is the model's own (log entry 30): a STATUS of the
station's has completed since the reset, before which the sequence is 0 (R126, R203). -/
structure Sequencer where
  mode : Mode := .config
  muteCause : MuteCause := .none
  phase : LinePhase := .untimed
  slotCounter : Nat := 0
  roundCount : Nat := 0
  resyncCount : Nat := 0
  lastOwnSlot : OwnSlotKind := .none
  statusSequence : Nat := 0
  statusSent : Bool := false
  queue : List Notice := []
  holding : Option Notice := none
  windowPosition : Option (Fin 16) := none
  muteTimer : Timer := none
  idleCount : Option Nat := none
  deriving DecidableEq, Repr

/-! ### Line Interface (R136, R137) -/

/-- What the line driver is enabled for (R136). -/
inductive Driver where
  | released
  | frame
  | brk
  deriving DecidableEq, Repr

/-- The receiver's states (R142). -/
inductive ReceiverState where
  | idle
  | frame
  | discard
  deriving DecidableEq, Repr

/-- The kinds of receive error (R143). -/
inductive RxErrorKind where
  | none
  | framing
  | gap
  | crc
  | length
  deriving DecidableEq, Repr

/-- An own frame in progress: its kind, its characters as composed and how many have been sent (R136). -/
structure OwnFrame where
  kind : FrameKind
  chars : List Byte
  sent : Nat
  deriving DecidableEq, Repr

/-- The Line Interface (R136); the defaults are R137's. `reception` and `expected` are the frame in
reception: its characters, and its length once the header is known. `startSlot` is the model's own (log entry 30): the slot
counter that the line activity in progress found at its start bit (R122). `restarted` is the model's own (log entry 30): the
dominant run in progress had reached 20 bit times when a change of the bit rate restarted its count (R138). -/
structure LineInterface where
  driver : Driver := .released
  receiver : ReceiverState := .idle
  reception : List Byte := []
  expected : Option Nat := none
  startSlot : Option Nat := none
  ownFrame : Option OwnFrame := none
  abortPending : Bool := false
  dominantRun : Nat := 0
  restarted : Bool := false
  stuck : Bool := false
  rxErrors : Nat := 0
  lastRxError : RxErrorKind := .none
  txErrors : Nat := 0
  deriving DecidableEq, Repr

/-! ### Peer Table (R153, R154) -/

/-- The states of a peer record (R154). -/
inductive PeerState where
  | absent
  | fresh
  | stale
  | lost
  deriving DecidableEq, Repr

/-- The role data of a filed STATUS; a field that was not present is `none` (R153, R158). -/
inductive RoleData where
  | none
  | pole (voltage : Nat) (stateP stateN : Option PoleState) (band : Option Band) (gapFlag : Bool)
  | store (offer : Nat) (soc : Option Nat)
  | aux (onSet requestedSet : Byte)
  deriving DecidableEq, Repr

/-- The stated fields of a peer record (R153). -/
structure Stated where
  role : Option Role
  cls : Fin 4
  sequence : Nat
  charge : Nat
  allowance : Nat
  drawn : Nat
  shedDepth : Nat
  lineCondition : Option LineCondition
  overdrawFlag : Bool
  causes : Byte
  roleData : RoleData
  deriving DecidableEq, Repr

/-- A peer record (R153, R154). -/
structure Peer where
  state : PeerState := .absent
  age : Nat := 0
  sequenceGaps : Nat := 0
  roleChanged : Bool := false
  stated : Option Stated := none
  deriving DecidableEq, Repr

/-! ### Input/Output Unit (R168, R169) -/

/-- A debounced value (R168). -/
inductive Debounced where
  | unknown
  | inactive
  | active
  deriving DecidableEq, Repr

/-- One input (R168, R169). -/
structure Input where
  lastRaw : Bool := false
  run : Nat := 1
  value : Debounced := .unknown
  deriving DecidableEq, Repr

/-- One sample latch (R168, R169). -/
structure Latch where
  value : Nat := 0
  age : Nat := 65535
  stale : Bool := true
  deriving DecidableEq, Repr

/-- The Input/Output Unit (R168); bit k of each map stands for member k. `sampled` and `settling` are the model's own (log
entry 30): the inputs whose sample of this millisecond has been taken, and those whose last sample reached the debounce
count and whose change is still to be taken. -/
structure InputOutput where
  inputs : Vector Input 16 := Vector.replicate 16 {}
  changeSet : Half := 0
  outputs : Half := 0
  general : Half := 0
  latches : Vector Latch 8 := Vector.replicate 8 {}
  sampleErrors : Nat := 0
  sampled : Half := 0
  settling : Half := 0
  deriving DecidableEq, Repr

/-! ### Station Link (R182) -/

/-- An item of the receive FIFO (R182). -/
inductive RxItem where
  | byte (b : Byte)
  | gapMark
  | lossMark
  deriving DecidableEq, Repr

/-- The assembler's states (R187). -/
inductive Assembler where
  | hunting
  | length
  | body
  | complete
  deriving DecidableEq, Repr

/-- A set of the eight topics (R193). -/
structure Topics where
  alarms : Bool := false
  poles : Bool := false
  allowance : Bool := false
  channels : Bool := false
  peers : Bool := false
  inputs : Bool := false
  lineErrors : Bool := false
  mode : Bool := false
  deriving DecidableEq, Repr

/-- The set of all eight topics. -/
def Topics.all : Topics :=
  { alarms := true, poles := true, allowance := true, channels := true, peers := true, inputs := true,
    lineErrors := true, mode := true }

/-- The Station Link (R182); `rateHigh` is the link rate 460,800 bit/s, `rts` and `attn` are true while asserted. -/
structure StationLink where
  rateHigh : Bool := false
  rx : List RxItem := []
  rts : Bool := true
  idleTimer : Timer := none
  assembler : Assembler := .hunting
  buffer : List Byte := []
  damaged : Bool := false
  tx : List Byte := []
  stx : Option Byte := none
  summary : Topics := { mode := true }
  mask : Topics := Topics.all
  attn : Bool := true
  deriving DecidableEq, Repr

/-! ### Configuration Store (R196) -/

/-- The reset causes (R196; codes of 12.5). -/
inductive ResetCause where
  | power
  | pin
  | link
  deriving DecidableEq, Repr

/-- The Configuration Store (R196). -/
structure ConfigStore where
  settings : Settings := {}
  valid : Bool := false
  resetCause : ResetCause := .power
  deriving DecidableEq, Repr

/-! ### Pins -/

/-- The levels at the input pins that outlast an event: the LRATE strap, CTS (true asserted), the contacts at IN0 to
IN15 (bit k set while closed) and LRXD. The manual gives their levels no value after reset; the defaults are DESIGN
CHOICE (log entry 6: unsafe). -/
structure Pins where
  lrateHigh : Bool := false
  cts : Bool := true
  contacts : Half := 0
  line : LineLevel := .recessive
  deriving DecidableEq, Repr

/-! ### The whole part -/

/-- The state of the part, and the queue of the commands that are waiting, first in, first out (DESIGN CHOICE, log
entry 36: safe). -/
structure State where
  pending : List Instr := []
  cfs : ConfigStore := {}
  li : LineInterface := {}
  rsq : Sequencer := {}
  pt : Vector Peer 16 := Vector.replicate 16 {}
  ps : PoleSupervisor := {}
  alc : AlarmController := {}
  ca : Apportioner := {}
  ll : Ladder := {}
  iou : InputOutput := {}
  sl : StationLink := {}
  pins : Pins := {}
  deriving DecidableEq, Repr

/-- The part right after a power-on reset with the LRATE strap low and nothing commanded: every item at the value its
rule gives (R2, R31, R52, R75, R115, R137, R154, R169, R182, R196). -/
def State.reset : State := {}

/-- No event stops the part: the manual gives every command an effect in every state, so there is no fault. -/
inductive Fault where
  deriving DecidableEq, Repr

/-- Why a command has no meaning. -/
inductive Refusal where
  /-- Raised by an arm of `exec` whose command has no meaning yet; safe, and raised by no arm of this model. -/
  | notModelled (mnemonic : String)
  deriving DecidableEq, Repr

end Machine
end Sys2Proof
end

