-- ==== Sys2Proof/Machine/Ops.lean ====
section
/-!
DEFINITION. The named operations every meaning is built from: replacing one block's state, timers, sets, the poles'
records, the alarm list (R29 to R42), the notice queue (R128 to R130) and the change summary (R193).
-/

namespace Sys2Proof
namespace Machine

/-! ### One block at a time -/

/-- The state with the Configuration Store replaced. -/
def State.withCfs (s : State) (x : ConfigStore) : State := { s with cfs := x }

/-- The state with the Line Interface replaced. -/
def State.withLi (s : State) (x : LineInterface) : State := { s with li := x }

/-- The state with the Round Sequencer replaced. -/
def State.withRsq (s : State) (x : Sequencer) : State := { s with rsq := x }

/-- The state with the Peer Table replaced. -/
def State.withPt (s : State) (x : Vector Peer 16) : State := { s with pt := x }

/-- The state with the Pole Supervisor replaced. -/
def State.withPs (s : State) (x : PoleSupervisor) : State := { s with ps := x }

/-- The state with the Alarm List Controller replaced. -/
def State.withAlc (s : State) (x : AlarmController) : State := { s with alc := x }

/-- The state with the Current Apportioner replaced. -/
def State.withCa (s : State) (x : Apportioner) : State := { s with ca := x }

/-- The state with the Load Ladder replaced. -/
def State.withLl (s : State) (x : Ladder) : State := { s with ll := x }

/-- The state with the Input/Output Unit replaced. -/
def State.withIou (s : State) (x : InputOutput) : State := { s with iou := x }

/-- The state with the Station Link replaced. -/
def State.withSl (s : State) (x : StationLink) : State := { s with sl := x }

/-- The state with the input pins replaced. -/
def State.withPins (s : State) (x : Pins) : State := { s with pins := x }

/-- R119: a dominant bit on the line restarts a running idle count. -/
def State.restartIdle (s : State) : State := s.withRsq { s.rsq with idleCount := s.rsq.idleCount.map fun _ => 0 }

/-- The line is being heard: the mode takes frames (R117), no own frame or break is being driven (R142), and the line is
not in a break or stuck (R150). -/
def State.hears (s : State) : Bool :=
  s.rsq.mode != .config && s.li.driver == .released && decide (s.li.dominantRun < Figures.breakBits) && !s.li.stuck

/-- R122: a start bit has been seen, the first of the line activity in progress: the slot counter it found is kept until
that activity ends (DESIGN CHOICE, log entry 18: unsafe). -/
def State.startSeen (s : State) : State :=
  s.withLi { s.li with startSlot := s.li.startSlot <|> some s.rsq.slotCounter }

/-- The line at a level. A recessive line ends the dominant run (R138), and with it an activity that opened no frame. A
dominant one restarts the idle count (R119), and to a receiver in IDLE it is a start bit (R142). -/
def State.lineTo (l : LineLevel) (s : State) : State :=
  let t := s.withPins { s.pins with line := l }
  match l with
  | .recessive =>
    t.withLi
      { t.li with
        dominantRun := 0, restarted := false
        startSlot := if t.li.receiver = .frame then t.li.startSlot else none }
  | .dominant => (if t.hears && t.li.receiver == .idle then t.startSeen else t).restartIdle

/-! ### The configuration as the blocks read it -/

/-- The STATION record. -/
def State.station (s : State) : StationSettings := s.cfs.settings.station

/-- The POLE record. -/
def State.poleCfg (s : State) : PoleSettings := s.cfs.settings.pole

/-- The station's own address (R190, R196). -/
def State.own (s : State) : Fin 16 := s.station.address

/-- The station's role (R99). -/
def State.role (s : State) : Role := s.station.role

/-- The round length N. -/
def State.roundLength (s : State) : Nat := s.station.roundLength

/-- The settings of channel k. -/
def State.channelCfg (s : State) (k : Fin 8) : ChannelSettings := cell s.cfs.settings.channels k

/-- The function of input `i` (R171). -/
def State.inputFn (s : State) (i : Fin 16) : InputFn := cell s.cfs.settings.inputs.fn i

/-- The function of output `o` (R174). -/
def State.outputFn (s : State) (o : Fin 16) : OutputFn := cell s.cfs.settings.outputs.fn o

/-! ### Numbers of members -/

/-- The sixteen inputs, outputs or addresses, in rising order. -/
def sixteen : List (Fin 16) := [0, 1, 2, 3, 4, 5, 6, 7, 8, 9, 10, 11, 12, 13, 14, 15]

/-- The eight channels (load channels or sample channels), in rising order. -/
def eight : List (Fin 8) := [0, 1, 2, 3, 4, 5, 6, 7]

/-- The sample channels by name (R178). -/
def elevPChannel : Fin 8 := 0
def elevNChannel : Fin 8 := 1
def currPChannel : Fin 8 := 2
def currNChannel : Fin 8 := 3
def lineVChannel : Fin 8 := 4
def drawnChannel : Fin 8 := 5
def battAvailChannel : Fin 8 := 6
def socChannel : Fin 8 := 7

/-- The ELEV channel of a pole. -/
def elevChannel : PoleId → Fin 8
  | .p => elevPChannel
  | .n => elevNChannel

/-- The latch of a sample channel (R168). -/
def State.latch (s : State) (c : Fin 8) : Latch := cell s.iou.latches c

/-- The map of the members `k` of `l` for which `f k` holds (12, bit k stands for member k). -/
def bitmap {n : Nat} (w : Nat) (l : List (Fin n)) (f : Fin n → Bool) : BitVec w :=
  l.foldl (fun m k => if f k then m ||| BitVec.twoPow w k.val else m) 0

/-- The map with member `k` added. -/
def addBit {w : Nat} (m : BitVec w) (k : Nat) : BitVec w := m ||| BitVec.twoPow w k

/-- The map with member `k` taken out. -/
def dropBit {w : Nat} (m : BitVec w) (k : Nat) : BitVec w := m &&& ~~~(BitVec.twoPow w k)

/-! ### Timers -/

/-- A timer started, or restarted from the beginning. -/
def Timer.started : Timer := some 0

/-- A timer one millisecond later; a stopped timer does not run (Conventions, Time). -/
def Timer.tick (t : Timer) : Timer := t.map (· + 1)

/-- A running timer whose time has come. -/
def Timer.due (limit : Nat) (t : Timer) : Bool :=
  match t with
  | none => false
  | some e => limit ≤ e

/-! ### The change summary (R193) -/

/-- The union of two sets of topics. -/
def Topics.union (a b : Topics) : Topics :=
  { alarms := a.alarms || b.alarms, poles := a.poles || b.poles, allowance := a.allowance || b.allowance,
    channels := a.channels || b.channels, peers := a.peers || b.peers, inputs := a.inputs || b.inputs,
    lineErrors := a.lineErrors || b.lineErrors, mode := a.mode || b.mode }

/-- The topics common to two sets. -/
def Topics.inter (a b : Topics) : Topics :=
  { alarms := a.alarms && b.alarms, poles := a.poles && b.poles, allowance := a.allowance && b.allowance,
    channels := a.channels && b.channels, peers := a.peers && b.peers, inputs := a.inputs && b.inputs,
    lineErrors := a.lineErrors && b.lineErrors, mode := a.mode && b.mode }

/-- The topics of `a` that are not in `b`. -/
def Topics.without (a b : Topics) : Topics :=
  { alarms := a.alarms && !b.alarms, poles := a.poles && !b.poles, allowance := a.allowance && !b.allowance,
    channels := a.channels && !b.channels, peers := a.peers && !b.peers, inputs := a.inputs && !b.inputs,
    lineErrors := a.lineErrors && !b.lineErrors, mode := a.mode && !b.mode }

/-- Some topic is in the set. -/
def Topics.nonempty (a : Topics) : Bool :=
  a.alarms || a.poles || a.allowance || a.channels || a.peers || a.inputs || a.lineErrors || a.mode

/-- R195: ATTN is asserted while at least one topic is both set in the summary and present in the mask. -/
def State.refreshAttn (s : State) : State :=
  s.withSl { s.sl with attn := (s.sl.summary.inter s.sl.mask).nonempty }

/-- R193: setting topics leaves those already set; ATTN follows (R195). -/
def State.setTopics (t : Topics) (s : State) : State :=
  (s.withSl { s.sl with summary := s.sl.summary.union t }).refreshAttn

/-! ### The pole records (R1) -/

/-- The record of a pole. -/
def PoleSupervisor.pole (ps : PoleSupervisor) : PoleId → Pole
  | .p => ps.poleP
  | .n => ps.poleN

/-- The supervisor with a pole's record replaced. -/
def PoleSupervisor.withPole (ps : PoleSupervisor) (x : PoleId) (r : Pole) : PoleSupervisor :=
  match x with
  | .p => { ps with poleP := r }
  | .n => { ps with poleN := r }

/-- The record of a pole. -/
def State.pole (s : State) (x : PoleId) : Pole := s.ps.pole x

/-- The state with a pole's record replaced. -/
def State.withPole (s : State) (x : PoleId) (r : Pole) : State := s.withPs (s.ps.withPole x r)

/-! ### The alarm list (R29 to R42) -/

/-- The entry has the key (source, cause) (R29). -/
def AlarmEntry.hasKey (src : Source) (c : Cause) (e : AlarmEntry) : Bool := e.source == src && e.cause == c

/-- The alarm list. -/
def State.alarms (s : State) : List AlarmEntry := s.alc.entries

/-- The key (source, cause) is listed. -/
def State.listed (s : State) (src : Source) (c : Cause) : Bool := s.alarms.any (AlarmEntry.hasKey src c)

/-- An own entry of the cause is listed. -/
def State.ownListed (s : State) (c : Cause) : Bool := s.listed (.station s.own) c

/-- The state with the alarm list replaced. -/
def State.withAlarms (s : State) (l : List AlarmEntry) : State := s.withAlc { s.alc with entries := l }

/-- The unlisted flag set (R37). -/
def State.setUnlisted (s : State) : State := s.withAlc { s.alc with unlisted := true }

/-- The entry of a key changed in place; an entry keeps its position (R29). -/
def updateEntry (src : Source) (c : Cause) (f : AlarmEntry → AlarmEntry) (l : List AlarmEntry) : List AlarmEntry :=
  l.map fun e => if e.hasKey src c then f e else e

/-- The entries without those of a key. -/
def removeEntry (src : Source) (c : Cause) (l : List AlarmEntry) : List AlarmEntry :=
  l.filter fun e => !e.hasKey src c

/-- R30: a repeat raises repeats by 1 and returns age to 0; the state becomes `st`, and a detail given replaces the one
held. -/
def AlarmEntry.repeated (st : AlarmState) (d : Option SensorDetail) (e : AlarmEntry) : AlarmEntry :=
  { e with repeats := satInc 255 e.repeats, age := 0, state := st, detail := d <|> e.detail }

/-- A new entry (R30). -/
def newEntry (src : Source) (c : Cause) (st : AlarmState) (by' : LearnedBy) (d : Option SensorDetail) : AlarmEntry :=
  { source := src, cause := c, detail := d, state := st, learnedBy := by', age := 0, repeats := 0 }

/-- R29, R37: a new entry goes at the end of the list; when 24 are listed the unlisted flag is set instead. -/
def State.placeEntry (e : AlarmEntry) (s : State) : State :=
  if s.alarms.length < Figures.alarmCapacity then s.withAlarms (s.alarms ++ [e]) else s.setUnlisted

/-- R33: the entry that may make room for an own entry. -/
def State.displaceable (s : State) (e : AlarmEntry) : Bool :=
  e.state == .acknowledged && e.source != .station s.own && e.cause != .deskStop

/-- R32, R33: a local raise of an own cause. -/
def State.raiseOwn (c : Cause) (d : Option SensorDetail) (s : State) : State :=
  let src := Source.station s.own
  if s.listed src c then
    s.withAlarms (updateEntry src c (AlarmEntry.repeated .pending d) s.alarms)
  else if s.alarms.length < Figures.alarmCapacity then
    s.withAlarms (s.alarms ++ [newEntry src c .pending .localRaise d])
  else if s.alarms.any s.displaceable then
    (s.withAlarms (s.alarms.eraseP s.displaceable ++ [newEntry src c .pending .localRaise d])).setUnlisted
  else s.setUnlisted

/-- The five causes a cause set may carry, in the order R35 takes them. -/
def setCauses : List Cause := [.poleDropP, .poleDropN, .lineLoss, .sensorLoss, .deskStop]

/-- The code and set bit of a cause (12.1). -/
def causeCode : Cause → Nat
  | .poleDropP => 0
  | .poleDropN => 1
  | .lineLoss => 2
  | .sensorLoss => 3
  | .deskStop => 4
  | .unclaimed => 5

/-- A cause is in a cause set (12.1). -/
def inCauseSet (m : Byte) (c : Cause) : Bool := m.getLsbD (causeCode c)

/-- R35: one cause of a valid ALARM frame from address `a`. -/
def State.learnAlarm (a : Fin 16) (d : Option SensorDetail) (c : Cause) (s : State) : State :=
  let src := Source.station a
  let d' := if c = .sensorLoss then d else none
  if s.listed src c then
    s.withAlarms (updateEntry src c (AlarmEntry.repeated .announced d') s.alarms)
  else s.placeEntry (newEntry src c .announced .alarmFrame d')

/-- R35: the causes of a valid ALARM frame, in their order. -/
def State.learnAlarms (a : Fin 16) (m : Byte) (d : Option SensorDetail) (s : State) : State :=
  setCauses.foldl (fun s c => if inCauseSet m c then s.learnAlarm a d c else s) s

/-- R36: the entries of source `a` whose cause is absent from the own-cause set of its STATUS are removed. -/
def State.dropUnstated (a : Fin 16) (m : Byte) (s : State) : State :=
  s.withAlarms (s.alarms.filter fun e => !(e.source == .station a && !inCauseSet m e.cause))

/-- R36: an own-cause set compared with the entries of its source, removals before creations; several missing causes are
created in the order R35 takes them (DEDUCED, log entry 39: unsafe). -/
def State.compareCauses (a : Fin 16) (m : Byte) (s : State) : State :=
  setCauses.foldl
    (fun s c =>
      if inCauseSet m c && !s.listed (.station a) c then
        s.placeEntry (newEntry (.station a) c .announced .status none)
      else s)
    (s.dropUnstated a m)

/-- An ANNOUNCED entry becomes ACKNOWLEDGED; any other is unchanged (R38, R39). -/
def AlarmEntry.acknowledge (e : AlarmEntry) : AlarmEntry :=
  if e.state = .announced then { e with state := .acknowledged } else e

/-- R38: NOTICE ACK(source, cause). -/
def State.ackOne (src : Source) (c : Cause) (s : State) : State :=
  s.withAlarms (updateEntry src c AlarmEntry.acknowledge s.alarms)

/-- R39: NOTICE ACK_ALL. -/
def State.ackAll (s : State) : State :=
  s.withAlc { s.alc with entries := s.alarms.map AlarmEntry.acknowledge, unlisted := false }

/-- R40: NOTICE CLEAR(cause) from sender `a`; one applied at its own sender changes nothing. -/
def State.clearFrom (a : Fin 16) (c : Cause) (s : State) : State :=
  if a = s.own then s else s.withAlarms (removeEntry (.station a) c s.alarms)

/-- R41: the source's record is LOST or ABSENT, and it is a station other than this one. -/
def State.sourceGone (s : State) (e : AlarmEntry) : Bool :=
  match e.source with
  | .unknown => false
  | .station a => a != s.own && ((cell s.pt a).state == .lost || (cell s.pt a).state == .absent)

/-- R41: NOTICE CLEAR_LOST. -/
def State.clearLost (s : State) : State := s.withAlarms (s.alarms.filter fun e => !s.sourceGone e)

/-- R48: an unclaimed window. -/
def State.unclaimedWindow (s : State) : State :=
  let t :=
    if s.listed .unknown .unclaimed then
      s.withAlarms (updateEntry .unknown .unclaimed (AlarmEntry.repeated .announced none) s.alarms)
    else s.placeEntry (newEntry .unknown .unclaimed .announced .localRaise none)
  t.withAlc { t.alc with unclaimedHoldTimer := Timer.started }

/-! ### The notice queue (R128 to R130) -/

/-- An identical notice is queued or held (R128). -/
def State.noticeWaiting (s : State) (n : Notice) : Bool := s.rsq.queue.contains n || s.rsq.holding == some n

/-- The queue has room (R128). -/
def State.queueRoom (s : State) : Bool := s.rsq.queue.length < Figures.queueCapacity

/-- A notice joins the tail of the queue. -/
def State.enqueueNotice (n : Notice) (s : State) : State :=
  s.withRsq { s.rsq with queue := s.rsq.queue ++ [n] }

/-- R129: an internal notice is merged, joins the tail, or goes to the holding place, replacing the notice held there.
-/
def State.placeInternal (n : Notice) (s : State) : State :=
  if s.noticeWaiting n then s
  else if s.queueRoom then s.enqueueNotice n
  else s.withRsq { s.rsq with holding := some n }

/-- R130: the head leaves the queue, and a held notice joins the tail. -/
def State.retireHead (s : State) : State :=
  s.withRsq { s.rsq with queue := s.rsq.queue.tail ++ s.rsq.holding.toList, holding := none }

/-- R42: a source clears one of its own entries: the entry is removed and a notice CLEAR(cause) is placed. -/
def State.clearOwn (c : Cause) (s : State) : State :=
  (s.withAlarms (removeEntry (.station s.own) c s.alarms)).placeInternal (.clear c)

end Machine
end Sys2Proof
end

