-- ==== Sys2Proof/Machine/Flags.lean ====
section
/-!
DEFINITION. The conditions the blocks judge from the state: latches and the contact window, the stowed inputs, the
quiet and qualification conditions, the alarm and stop effects, the pole sources and the line condition, the battery
offer and the budget, the class fill, the priority ring, the overdraw and break conditions, and each output's condition.
-/

namespace Sys2Proof
namespace Machine

/-! ### Inputs and latches -/

/-- A latch is fresh. -/
def State.fresh (s : State) (c : Fin 8) : Bool := !(s.latch c).stale

/-- Input `i` is settled ACTIVE. -/
def State.inputActive (s : State) (i : Fin 16) : Bool := (cell s.iou.inputs i).value == .active

/-- The number of active inputs of function STOP_BUTTON (R34). -/
def State.activeStops (s : State) : Nat :=
  (sixteen.filter fun i => s.inputFn i == .stopButton && s.inputActive i).length

/-- At least one input bound to channel `k` is active (R77). -/
def State.channelReqActive (s : State) (k : Fin 8) : Bool :=
  sixteen.any fun i => s.inputFn i == .channelReq k && s.inputActive i

/-- R171: the lowest-numbered input of a pole's STOWED function, if there is one. -/
def State.stowedInput (s : State) (x : PoleId) : Option (Fin 16) :=
  sixteen.find? fun i => s.inputFn i == .stowed x

/-- R4: the debounced value of the pole's STOWED input is known; with no such input it counts as open. -/
def State.stowedKnown (s : State) (x : PoleId) : Bool :=
  match s.stowedInput x with
  | none => true
  | some i => (cell s.iou.inputs i).value != .unknown

/-- The pole's STOWED input is closed. -/
def State.stowedClosed (s : State) (x : PoleId) : Bool :=
  match s.stowedInput x with
  | none => false
  | some i => s.inputActive i

/-! ### Poles -/

/-- The elevation lies within the contact window, ends included (R4). -/
def poleWindow (cfg : PoleSettings) (e : Nat) : Bool := cfg.contactLo ≤ e && e ≤ cfg.contactHi

/-- The elevation exceeds the elevation last used by drop_step or more (R11). -/
def poleJump (cfg : PoleSettings) (last e : Nat) : Bool := last + cfg.dropStep ≤ e

/-- The pole is RAISING, or INITIAL and qualifying: it is held for qualification (R8). -/
def Pole.isQualifying (r : Pole) : Bool := r.state == .raising || (r.state == .initial && r.qualifying)

/-- R8: the qualification condition of a pole. -/
def State.qualificationCondition (s : State) (x : PoleId) : Bool :=
  s.fresh (elevChannel x) && poleWindow s.poleCfg (s.latch (elevChannel x)).value && s.ps.band != .none

/-- R16: the quiet condition, common to both poles. -/
def State.quietCondition (s : State) : Bool :=
  s.fresh currPChannel && s.fresh currNChannel &&
    decide ((s.latch currPChannel).value ≤ s.poleCfg.quiet) && decide ((s.latch currNChannel).value ≤ s.poleCfg.quiet)

/-- R3: the new band from the band before and the new voltage. -/
def nextBand (cfg : PoleSettings) (before : Band) (v : Nat) : Band :=
  if v < cfg.tGap then .none
  else if v < cfg.tGap + cfg.hyst then (match before with | .none => .none | _ => .low)
  else if v < cfg.tLow then .low
  else if v < cfg.tLow + cfg.hyst then (match before with | .normal => .normal | _ => .low)
  else .normal

/-- The sample channel of a SENSOR_LOSS detail (R24). -/
def detailChannel : SensorDetail → Fin 8
  | .elevP => elevPChannel
  | .elevN => elevNChannel
  | .lineV => lineVChannel

/-- The three latches whose loss is announced, lowest channel number first (R24). -/
def sensorDetails : List SensorDetail := [.elevP, .elevN, .lineV]

/-- The lowest of the three latches for which `f` holds (R24). -/
def lowestDetail (f : SensorDetail → Bool) : Option SensorDetail := sensorDetails.find? f

/-- At least one pole is in a state other than STOWED (R24). -/
def State.somePoleOut (s : State) : Bool := (s.pole .p).state != .stowed || (s.pole .n).state != .stowed

/-! ### Alarm effects (R28) -/

/-- The cause gives the ALARM effect while listed (R28). -/
def givesAlarm : Cause → Bool
  | .deskStop => false
  | _ => true

/-- R28: the ALARM effect. -/
def State.alarmEffect (s : State) : Bool :=
  s.alarms.any (fun e => givesAlarm e.cause) || s.alc.unlisted || s.alc.breakHold

/-- R28: the stop effect. -/
def State.stopEffect (s : State) : Bool := s.alarms.any fun e => e.cause == .deskStop

/-- An own entry is PENDING (R44). -/
def State.ownPending (s : State) : Bool :=
  s.alarms.any fun e => e.source == .station s.own && e.state == .pending

/-- The own entry of a cause is listed and ACKNOWLEDGED (R25, R26, R34). -/
def State.ownAcknowledged (s : State) (c : Cause) : Bool :=
  s.alarms.any fun e => e.hasKey (.station s.own) c && e.state == .acknowledged

/-! ### Line condition (R56, R57) -/

/-- The data of one pole source; a field not present is `none` (R56, R158). -/
structure PoleSource where
  voltage : Nat
  stateP : Option PoleState
  stateN : Option PoleState
  band : Option Band
  gapFlag : Bool
  deriving DecidableEq, Repr

/-- The pole source a peer record gives: stated role POLE and state FRESH (R56). -/
def Peer.poleSource (r : Peer) : Option PoleSource :=
  match r.state, r.stated with
  | .fresh, some t =>
    match t.role, t.roleData with
    | some .pole, .pole v p n b g => some ⟨v, p, n, b, g⟩
    | _, _ => none
  | _, _ => none

/-- R56: a station's pole sources. -/
def State.poleSources (s : State) : List PoleSource :=
  if s.role = .pole then
    [⟨s.ps.lineVoltage, some s.ps.poleP.state, some s.ps.poleN.state, some s.ps.band, s.ps.gapFlag⟩]
  else s.pt.toList.filterMap Peer.poleSource

/-- R56, R158: the source judgement is OFF_WIRE; a pole or band not present counts as not on the wire. -/
def PoleSource.offWire (d : PoleSource) : Bool :=
  d.stateP != some .onWire || d.stateN != some .onWire || d.band == none || (d.band == some .none && !d.gapFlag)

/-- R57: the line condition. -/
def State.judgeLine (s : State) : LineCondition :=
  if s.alarmEffect then .alarm
  else if s.li.stuck || s.poleSources.isEmpty then .unknown
  else if s.poleSources.any PoleSource.offWire then .offWire
  else if s.poleSources.any PoleSource.gapFlag then .gap
  else .available

/-- The lowest of some voltages, absent when there are none (R56). -/
def lowestOf : List Nat → Option Nat
  | [] => none
  | v :: vs => some (vs.foldl min v)

/-- R56: the pole-source voltage. -/
def State.sourceVoltage (s : State) : Option Nat := lowestOf (s.poleSources.map PoleSource.voltage)

/-- R93: the band condition of a restoration fails if any pole source states LOW. -/
def State.bandAllows (s : State) : Bool := !s.poleSources.any fun d => d.band == some .low

/-! ### Budget (R58 to R60) -/

/-- R58: the line budget at a voltage. -/
def lineBudget (c : ApportionSettings) (v : Nat) : Nat :=
  if c.vKnee ≤ v then c.poleMax
  else if v ≤ c.vFloor then 0
  else c.poleMax * (v - c.vFloor) / (c.vKnee - c.vFloor)

/-- R58: the net line budget, 0 when reserve exceeds the line budget. -/
def netLineBudget (c : ApportionSettings) (v : Nat) : Nat := lineBudget c v - c.reserve

/-- The offer a peer record gives: stated role STORE and state FRESH (R59). -/
def Peer.offer (r : Peer) : Nat :=
  match r.state, r.stated with
  | .fresh, some t =>
    match t.role, t.roleData with
    | some .store, .store o _ => o
    | _, _ => 0
  | _, _ => 0

/-- R105: the own offer of a station of role STORE. -/
def State.ownOffer (s : State) : Nat :=
  if s.role = .store && s.fresh battAvailChannel then (s.latch battAvailChannel).value else 0

/-- R59: the battery offer. -/
def State.batteryOffer (s : State) : Nat :=
  min Figures.currentMax ((s.pt.toList.map Peer.offer).sum + s.ownOffer)

/-- R60: the budget under a line condition and a pole-source voltage. -/
def State.formBudget (s : State) (lc : LineCondition) (v : Option Nat) : Nat :=
  if s.stopEffect then 0
  else if lc = .available then
    min Figures.currentMax (netLineBudget s.cfs.settings.apportion (v.getD 0) + s.batteryOffer)
  else s.batteryOffer

/-! ### Demand list and class fill (R61, R62) -/

/-- An element of the demand list (R61). -/
structure Demand where
  charge : Nat
  cls : Fin 4
  deriving DecidableEq, Repr

/-- The element of a peer record, none while ABSENT (R61). -/
def Peer.demand (lostCharge : Vector Nat 4) (r : Peer) : Option Demand :=
  match r.state, r.stated with
  | .absent, _ => none
  | _, none => none
  | .lost, some t => some ⟨cell lostCharge t.cls, t.cls⟩
  | _, some t => some ⟨t.charge, t.cls⟩

/-- The rating of a channel. -/
def State.rating (s : State) (k : Fin 8) : Nat := (s.channelCfg k).rating

/-- The record of a channel. -/
def State.channel (s : State) (k : Fin 8) : Channel := cell s.ll.channels k

/-- The channel is requested and unmasked: it is counted in the own charge (R53). -/
def Channel.wanted (c : Channel) : Bool := c.requested && !c.masked

/-- R53: the own charge. -/
def State.formCharge (s : State) : Nat :=
  min Figures.currentMax
    (s.ca.demand + (eight.map fun k => if (s.channel k).wanted then s.rating k else 0).sum)

/-- R61: the demand list, the own element first. -/
def State.demandList (s : State) (charge : Nat) : List Demand :=
  ⟨charge, s.station.cls⟩ :: s.pt.toList.filterMap (Peer.demand s.station.lostCharge)

/-- The sum of the charges of the elements of a class (R62). -/
def classSum (l : List Demand) (c : Fin 4) : Nat := ((l.filter fun d => d.cls == c).map Demand.charge).sum

/-- The remainder after a class has been filled (R62). -/
def fillClass (l : List Demand) (r : Nat) (c : Fin 4) : Nat := if classSum l c ≤ r then r - classSum l c else 0

/-- The remainder before class `c` is filled: the budget less what the classes before it took (R62). -/
def remainderBefore (l : List Demand) (budget : Nat) (c : Fin 4) : Nat :=
  (([0, 1, 2, 3] : List (Fin 4)).filter (· < c)).foldl (fillClass l) budget

/-- R62: the part an element of the demand list receives. -/
def fillPart (l : List Demand) (budget : Nat) (d : Demand) : Nat :=
  if classSum l d.cls ≤ remainderBefore l budget d.cls then d.charge
  else d.charge * remainderBefore l budget d.cls / classSum l d.cls

/-- R62: the station's own part. -/
def State.formShare (s : State) (charge budget : Nat) : Nat :=
  fillPart (s.demandList charge) budget ⟨charge, s.station.cls⟩

/-! ### Load Ladder (R84, R91, R95) -/

/-- R84: the used channels in priority order, highest first. -/
def State.ring (s : State) : List (Fin 8) :=
  (eight.map fun j => s.ll.lowest + 1 + j).filter fun k => (s.channel k).state != .unused

/-- Channel `k` is ON. -/
def State.isOn (s : State) (k : Fin 8) : Bool := (s.channel k).state == .on

/-- The sum of the ratings of the ON channels (R67). -/
def State.onSum (s : State) : Nat := (eight.map fun k => if s.isOn k then s.rating k else 0).sum

/-- R95: the shed depth. -/
def State.shedDepth (s : State) : Nat :=
  (eight.filter fun k => (s.channel k).state == .waiting || (s.channel k).state == .shed).length

/-- R91: the three conditions under which a WAITING or SHED channel is restored. -/
def State.restorable (s : State) (k : Fin 8) : Bool :=
  let margin := if s.ca.allowance = s.ca.ownCharge then 0 else s.cfs.settings.ladder.restoreMargin
  ((s.channel k).state == .waiting || (s.channel k).state == .shed) &&
    decide (s.onSum + s.rating k + margin ≤ s.ca.allowance) &&
    (s.ca.lineCondition == .available || (s.channelCfg k).batteryFed) && s.bandAllows

/-! ### Overdraw and breaks -/

/-- R69: the drawn current. -/
def State.drawnCurrent (s : State) : Nat := if s.fresh drawnChannel then (s.latch drawnChannel).value else 0

/-- R69: the overdraw condition. -/
def State.overdrawn (s : State) : Bool :=
  decide (s.ca.allowance + s.cfs.settings.apportion.overdrawMargin < s.drawnCurrent)

/-- R44: all that the assertion of a break asks for; a station already driving a break takes no further request (R148),
and one whose abort is unjudged waits for the judgement (R146; DESIGN CHOICE, log entry 45: unsafe). -/
def State.breakWanted (s : State) : Bool :=
  s.rsq.mode == .run && s.ownPending && s.rsq.phase != .window && s.pins.line == .recessive && s.li.driver != .brk &&
    !s.li.abortPending

/-- The line stays dominant whatever level an event gives: it is in a break, stuck, or driven in a break (R148, R150). A run
whose count was restarted and stands below 20 is no break here, so a recessive level ends it as none (R138, R147; DESIGN
CHOICE, log entry 43: unsafe). -/
def State.lineHeld (s : State) : Bool :=
  decide (Figures.breakBits ≤ s.li.dominantRun) || s.li.stuck || s.li.driver == .brk

/-- The receiver is not in DISCARD, where it keeps no characters and finds no errors (R142, R143). -/
def State.assembles (s : State) : Bool := s.li.receiver != .discard

/-- R121, R123, R124: the interval in progress can run out: the line is recessive, nothing is driven, and the activity
before it has ended. -/
def State.intervalRuns (s : State) : Bool :=
  s.li.driver == .released && s.pins.line == .recessive && s.li.receiver == .idle

/-! ### Expiries due: a timer that runs and has reached its setting or figure -/

/-- R8: a pole's qualify timer. -/
def State.qualifyDue (s : State) (x : PoleId) : Bool := (s.pole x).qualifyTimer.due s.poleCfg.qualifyMs

/-- R10: a RAISING pole's state timer. -/
def State.raiseMaxDue (s : State) (x : PoleId) : Bool :=
  (s.pole x).state == .raising && (s.pole x).stateTimer.due s.poleCfg.raiseMax

/-- R12: a pole's confirm timer. -/
def State.confirmDue (s : State) (x : PoleId) : Bool := (s.pole x).confirmTimer.due s.poleCfg.confirmMs

/-- R16: a pole's quiet timer. -/
def State.quietDue (s : State) (x : PoleId) : Bool := (s.pole x).quietTimer.due Figures.quietMs

/-- R16: a LOWER_WAIT pole's state timer. -/
def State.lowerWaitDue (s : State) (x : PoleId) : Bool :=
  (s.pole x).state == .lowerWait && (s.pole x).stateTimer.due s.poleCfg.lowerWaitMax

/-- R17: a LOWERING pole's state timer. -/
def State.lowerMaxDue (s : State) (x : PoleId) : Bool :=
  (s.pole x).state == .lowering && (s.pole x).stateTimer.due s.poleCfg.lowerMax

/-- R22: the gap timer. -/
def State.gapDue (s : State) : Bool := s.ps.gapTimer.due s.poleCfg.gapMax

/-- R23: the restore-qualify timer. -/
def State.restoreQualifyDue (s : State) : Bool := s.ps.restoreQualifyTimer.due s.poleCfg.qualifyMs

/-- R49: the unclaimed hold. -/
def State.unclaimedDue (s : State) : Bool := s.alc.unclaimedHoldTimer.due s.cfs.settings.alarm.unclaimedHold

/-- R55: the demand hold. -/
def State.demandHoldDue (s : State) : Bool := s.ca.demandHoldTimer.due s.cfs.settings.apportion.demandHold

/-- R70: the overdraw timer. -/
def State.overdrawDue (s : State) : Bool := s.ca.overdrawTimer.due s.cfs.settings.apportion.overdrawMs

/-- R90: the restore timer. -/
def State.restoreDue (s : State) : Bool := s.ll.restoreTimer.due s.cfs.settings.ladder.restoreInterval

/-- R135: the mute timer. -/
def State.muteDue (s : State) : Bool := s.rsq.muteTimer.due Figures.muteMs

/-- R183: the link's idle timer. -/
def State.linkIdleDue (s : State) : Bool := s.sl.idleTimer.due Figures.linkIdleMs

/-- R119: the idle count of a LISTEN station stands at 8,192 bit times on a recessive line. -/
def State.idleCountDue (s : State) : Bool :=
  s.rsq.mode == .listen && s.rsq.idleCount == some Figures.idleBits && s.pins.line == .recessive

/-! ### Outputs (R174) -/

/-- R50: BUZZER's condition. -/
def State.buzzing (s : State) : Bool := s.alarms.any fun e => e.state != .acknowledged

/-- R68: GRANT_ENABLE's condition. -/
def State.grantEnabled (s : State) : Bool :=
  s.rsq.mode == .run && !s.stopEffect && decide (s.cfs.settings.apportion.grantMin ≤ s.ca.grant)

/-- The roles in which GRANT_ENABLE is served (R174). -/
def servesGrant : Role → Bool
  | .traction => true
  | .store => true
  | .aux => true
  | _ => false

/-- R174: the condition an output's function names, false where the role does not serve the function. -/
def State.outputCondition (s : State) (o : Fin 16) : Bool :=
  match s.outputFn o with
  | .general => s.iou.general.getLsbD o.val
  | .channel k => s.isOn k
  | .raisePole x => s.role == .pole && (s.pole x).state == .raising
  | .lowerPole x => s.role == .pole && (s.pole x).state == .lowering
  | .grantEnable => servesGrant s.role && s.grantEnabled
  | .alarmLamp => !s.alarms.isEmpty || s.alc.unlisted
  | .buzzer => s.buzzing
  | .lineLamp => s.ca.lineCondition == .available

end Machine
end Sys2Proof
end

