-- ==== Sys2Proof/Machine/Operands.lean ====
section
/-!
DEFINITION. The operand forms: the codes of 12.1, the bodies and characters of frames with their check (12.2, R140,
R141), the sample word (12.3), the messages of the link (12.4) and the setting values of the configuration records.
-/

namespace Sys2Proof
namespace Machine

/-! ### Numbers -/

/-- A number as one byte. -/
def byteOf (n : Nat) : Byte := BitVec.ofNat 8 n

/-- A number as two bytes, high byte first (12). -/
def twoBytes (n : Nat) : List Byte := [byteOf (n / 256), byteOf n]

/-- A two-byte map, high byte first. -/
def halfBytes (h : Half) : List Byte := twoBytes h.toNat

/-- Two bytes read high byte first (12). -/
def readTwo (hi lo : Byte) : Half := hi ++ lo

/-- A flag as 0 or 1. -/
def flagByte (b : Bool) : Byte := if b then 1 else 0

/-- A flag as bit `k` of a byte. -/
def flagBit (k : Nat) (b : Bool) : Byte := if b then BitVec.twoPow 8 k else 0

/-! ### Codes (12.1) -/

def roleCode : Role → Nat
  | .pole => 0
  | .traction => 1
  | .store => 2
  | .aux => 3
  | .desk => 4

def roleOfCode : Nat → Option Role
  | 0 => some .pole
  | 1 => some .traction
  | 2 => some .store
  | 3 => some .aux
  | 4 => some .desk
  | _ => none

def lineConditionCode : LineCondition → Nat
  | .alarm => 0
  | .unknown => 1
  | .offWire => 2
  | .gap => 3
  | .available => 4

def lineConditionOfCode : Nat → Option LineCondition
  | 0 => some .alarm
  | 1 => some .unknown
  | 2 => some .offWire
  | 3 => some .gap
  | 4 => some .available
  | _ => none

def poleStateCode : PoleState → Nat
  | .initial => 0
  | .stowed => 1
  | .raising => 2
  | .onWire => 3
  | .suspect => 4
  | .lowerWait => 5
  | .lowering => 6
  | .stuck => 7

def poleStateOfCode : Nat → Option PoleState
  | 0 => some .initial
  | 1 => some .stowed
  | 2 => some .raising
  | 3 => some .onWire
  | 4 => some .suspect
  | 5 => some .lowerWait
  | 6 => some .lowering
  | 7 => some .stuck
  | _ => none

def bandCode : Band → Nat
  | .none => 0
  | .low => 1
  | .normal => 2

def bandOfCode : Nat → Option Band
  | 0 => some .none
  | 1 => some .low
  | 2 => some .normal
  | _ => none

def causeOfCode : Nat → Option Cause
  | 0 => some .poleDropP
  | 1 => some .poleDropN
  | 2 => some .lineLoss
  | 3 => some .sensorLoss
  | 4 => some .deskStop
  | 5 => some .unclaimed
  | _ => none

def sourceCode : Source → Nat
  | .station a => a.val
  | .unknown => 16

def sourceOfCode (n : Nat) : Option Source :=
  if h : n < 16 then some (.station ⟨n, h⟩) else if n = 16 then some .unknown else none

def actionCode : PoleAction → Nat
  | .raise => 1
  | .lower => 2

def actionOfCode : Nat → Option PoleAction
  | 1 => some .raise
  | 2 => some .lower
  | _ => none

def polesCode : PoleSel → Nat
  | .p => 1
  | .n => 2
  | .both => 3

def polesOfCode : Nat → Option PoleSel
  | 1 => some .p
  | 2 => some .n
  | 3 => some .both
  | _ => none

/-- A cause set as a byte (12.1). -/
def causeSet (f : Cause → Bool) : Byte :=
  setCauses.foldl (fun m c => if f c then m ||| BitVec.twoPow 8 (causeCode c) else m) 0

/-- The topic map (12.1). -/
def topicByte (t : Topics) : Byte :=
  flagBit 0 t.alarms ||| flagBit 1 t.poles ||| flagBit 2 t.allowance ||| flagBit 3 t.channels |||
    flagBit 4 t.peers ||| flagBit 5 t.inputs ||| flagBit 6 t.lineErrors ||| flagBit 7 t.mode

/-- The topics of a map (12.1). -/
def topicsOf (m : Byte) : Topics :=
  { alarms := m.getLsbD 0, poles := m.getLsbD 1, allowance := m.getLsbD 2, channels := m.getLsbD 3,
    peers := m.getLsbD 4, inputs := m.getLsbD 5, lineErrors := m.getLsbD 6, mode := m.getLsbD 7 }

/-- A SENSOR_LOSS detail as a sample channel number (12.2). -/
def detailCode (d : SensorDetail) : Nat := (detailChannel d).val

/-- The detail of an ALARM frame; any number other than 0, 1 or 4 is no detail (R204). -/
def detailOfCode : Nat → Option SensorDetail
  | 0 => some .elevP
  | 1 => some .elevN
  | 4 => some .lineV
  | _ => none

/-! ### NOTICE bodies (12.2, R204) -/

/-- The body of a notice. -/
def noticeBody : Notice → NoticeBody
  | .ack src c => ⟨1, byteOf (sourceCode src), byteOf (causeCode c), 0⟩
  | .ackAll => ⟨2, 0, 0, 0⟩
  | .clear c => ⟨3, 0, byteOf (causeCode c), 0⟩
  | .clearLost => ⟨4, 0, 0, 0⟩
  | .command a ps => ⟨5, byteOf (actionCode a), byteOf (polesCode ps), 0⟩

/-- R204: the notice a received body states, none where its kind or a field its kind uses is undefined. A CLEAR never
names UNCLAIMED (12.1: code 5 appears in ACK notices and alarm entries alone; DEDUCED, log entry 21: safe). -/
def readNotice (b : NoticeBody) : Option Notice :=
  match b.kind.toNat with
  | 1 =>
    match sourceOfCode b.field1.toNat, causeOfCode b.field2.toNat with
    | some src, some c => some (.ack src c)
    | _, _ => none
  | 2 => some .ackAll
  | 3 =>
    match causeOfCode b.field2.toNat with
    | some .unclaimed => none
    | some c => some (.clear c)
    | none => none
  | 4 => some .clearLost
  | 5 =>
    match actionOfCode b.field1.toNat, polesOfCode b.field2.toNat with
    | some a, some ps => some (.command a ps)
    | _, _ => none
  | _ => none

/-- The kind byte of a notice (12.1). -/
def noticeKind (n : Notice) : Byte := (noticeBody n).kind

/-! ### STATUS bodies (12.2, R153, R158, R204) -/

/-- The role data a frame states under its role; TRACTION and DESK state none (R101, R158). -/
def readRoleData (role : Option Role) (b : StatusBody) : RoleData :=
  match role with
  | some .pole =>
    .pole (((b.data0 &&& 3).toNat) * 256 + b.data1.toNat) (poleStateOfCode (b.data2 >>> 4).toNat)
      (poleStateOfCode (b.data2 &&& 15).toNat) (bandOfCode ((b.data0 >>> 4) &&& 3).toNat) (b.data0.getLsbD 6)
  | some .store =>
    .store (min Figures.currentMax (readTwo b.data0 b.data1).toNat)
      (if b.data2 = 0xFF then none else some (min 100 b.data2.toNat))
  | some .aux => .aux b.data0 b.data1
  | _ => .none

/-- R158, R204: the stated fields of a STATUS as they are filed; a field of no meaning is not present, and a number
above its range is filed at the top of its range. -/
def readStatus (b : StatusBody) : Stated :=
  let role := roleOfCode b.role.toNat
  { role := role
    cls := ⟨((b.flags >>> 4) &&& 3).toNat % 4, Nat.mod_lt _ (by decide)⟩
    sequence := b.sequence.toNat
    charge := min Figures.currentMax b.charge.toNat
    allowance := min Figures.currentMax b.allowance.toNat
    drawn := min Figures.currentMax b.drawn.toNat
    shedDepth := min 8 b.shedDepth.toNat
    lineCondition := lineConditionOfCode (b.flags &&& 7).toNat
    overdrawFlag := b.flags.getLsbD 7
    causes := b.causes &&& 0x1F
    roleData := readRoleData role b }

/-- The three role data bytes of a filed or composed STATUS; a value not present is all ones (12.2, 12.5). -/
def roleDataBytes : RoleData → Byte × Byte × Byte
  | .none => (0xFF, 0xFF, 0xFF)
  | .pole v p n b g =>
    (flagBit 6 g ||| (byteOf (match b with | some b => bandCode b | none => 3) <<< 4) ||| byteOf (v / 256 % 4),
      byteOf v,
      (byteOf (match p with | some p => poleStateCode p | none => 15) <<< 4) |||
        byteOf (match n with | some n => poleStateCode n | none => 15))
  | .store o soc => (byteOf (o / 256), byteOf o, match soc with | some q => byteOf q | none => 0xFF)
  | .aux on req => (on, req, 0)

/-- The STATUS body that states the given fields (12.2); a field not present is all ones (12.5). -/
def statusBody (t : Stated) : StatusBody :=
  let d := roleDataBytes t.roleData
  { role := match t.role with | some r => byteOf (roleCode r) | none => 0xFF
    flags := flagBit 7 t.overdrawFlag ||| (byteOf t.cls.val <<< 4) |||
      byteOf (match t.lineCondition with | some c => lineConditionCode c | none => 7)
    sequence := byteOf t.sequence
    charge := BitVec.ofNat 16 t.charge
    allowance := BitVec.ofNat 16 t.allowance
    drawn := BitVec.ofNat 16 t.drawn
    shedDepth := byteOf t.shedDepth
    causes := t.causes
    data0 := d.1
    data1 := d.2.1
    data2 := d.2.2 }

/-! ### Frames (R139 to R143, 12.2) -/

/-- The bytes of a frame's body, in the order they are sent. -/
def bodyBytes : FrameBody → List Byte
  | .status b =>
    [b.role, b.flags, b.sequence] ++ halfBytes b.charge ++ halfBytes b.allowance ++ halfBytes b.drawn ++
      [b.shedDepth, b.causes, b.data0, b.data1, b.data2]
  | .notice b => [b.kind, b.field1, b.field2, b.field3]
  | .alarm b => [b.causes, b.detail]

/-- The kind of a frame. -/
def frameKind : FrameBody → FrameKind
  | .status _ => .status
  | .notice _ => .notice
  | .alarm _ => .alarm

/-- The kind codes (12.1). -/
def frameKindCode : FrameKind → Nat
  | .status => 1
  | .notice => 2
  | .alarm => 3

/-- The characters of a frame of each kind (R140). -/
def frameLength : FrameKind → Nat
  | .status => 18
  | .notice => 8
  | .alarm => 6

/-- The header: the kind in bits 7 to 4 and the sender in bits 3 to 0 (12.2). -/
def headerByte (k : FrameKind) (a : Fin 16) : Byte := (byteOf (frameKindCode k) <<< 4) ||| byteOf a.val

/-- The kind a header names, none for an unknown kind (R140, 12.2). -/
def headerKind (h : Byte) : Option FrameKind :=
  match (h >>> 4).toNat with
  | 1 => some .status
  | 2 => some .notice
  | 3 => some .alarm
  | _ => none

/-- One of the eight steps of the frame check (R141). -/
def crcStep (r : Half) : Half := if r.getLsbD 15 then (r <<< 1) ^^^ 0x1021 else r <<< 1

/-- One byte taken into the check register (R141). -/
def crcByte (r : Half) (b : Byte) : Half :=
  (List.range 8).foldl (fun r _ => crcStep r) (r ^^^ (b ++ (0 : Byte)))

/-- R141: the frame check over the header and body characters. -/
def frameCheck (bytes : List Byte) : Half := bytes.foldl crcByte 0xFFFF

/-- The characters of a frame: SYNC, header, body, and the check, high byte first (R140, R141). -/
def frameChars (a : Fin 16) (b : FrameBody) : List Byte :=
  let checked := headerByte (frameKind b) a :: bodyBytes b
  Figures.sync :: checked ++ halfBytes (frameCheck checked)

/-- R141: the last two of the characters after SYNC are the check of those before them. -/
def checkPasses (afterSync : List Byte) : Bool :=
  afterSync.drop (afterSync.length - 2) == halfBytes (frameCheck (afterSync.take (afterSync.length - 2)))

/-- What the receiver makes of a run of characters (R142, R143). -/
inductive Judgement where
  /-- the characters are a valid frame -/
  | valid
  /-- the first character is not SYNC: the activity is no frame, and no error is counted -/
  | noFrame
  /-- a frame in error, of the given kind -/
  | error (k : RxErrorKind)
  /-- the run goes on, with no frame complete and nothing in error -/
  | going
  deriving DecidableEq, Repr

/-- R143: what a run becomes that its ending meets before its frame is complete. -/
def cutRun : RunEnding → Judgement
  | .badStop => .error .framing
  | .going _ => .going
  | _ => .error .gap

/-- R142, R143: a run of complete characters, from an IDLE receiver, and how it ended. -/
def judgeRun (chars : List Byte) (ending : RunEnding) : Judgement :=
  match chars with
  | [] => match ending with | .badStop => .error .framing | .going _ => .going | _ => .noFrame
  | first :: rest =>
    if first ≠ Figures.sync then .noFrame
    else match rest with
      | [] => cutRun ending
      | header :: _ =>
        match headerKind header with
        | none => .error .length
        | some k =>
          if rest.length + 1 < frameLength k then cutRun ending
          else if checkPasses (rest.take (frameLength k - 1)) then .valid
          else .error .crc

/-- R142: the length of a frame in reception, none until its header is known. -/
def expectedLength (chars : List Byte) : Option Nat :=
  match chars with
  | _ :: header :: _ => (headerKind header).map frameLength
  | _ => none

/-- The receiver in a state, with the characters of the frame in reception (R136); outside FRAME the line activity that
may have been a frame's is over (R122). -/
def LineInterface.taking (r : ReceiverState) (chars : List Byte) (li : LineInterface) : LineInterface :=
  { li with
    receiver := r, reception := chars, expected := expectedLength chars
    startSlot := if r = .frame then li.startSlot else none }

/-- R138: the dominant-run count after the bits of a character of an own frame; a recessive bit is set. The bit before its
start bit is recessive: an idle line, or the stop bit of a character that agreed (R144, R145). -/
def dominantAfter (c : BitVec 10) : Nat :=
  (List.range 10).foldl (fun run i => if c.getLsbD i then 0 else run + 1) 0

/-- A character on the line, the start bit in bit 0: start, eight data bits least significant first, stop (R139). -/
def charBits (b : Byte) : BitVec 10 := ((1 : BitVec 1) ++ b) ++ (0 : BitVec 1)

/-! ### The sample word (R178, 12.3) -/

/-- The sample channel of a word: bits 15 to 13. -/
def wordChannel (w : Half) : Fin 8 := ⟨(w >>> 13).toNat % 8, Nat.mod_lt _ (by decide)⟩

/-- The value of a word: bits 12 to 0. -/
def wordValue (w : Half) : Nat := (w &&& 0x1FFF).toNat

/-- R178: the maximum of each sample channel. -/
def channelMax (c : Fin 8) : Nat :=
  match c with
  | 0 => 900
  | 1 => 900
  | 2 => 2047
  | 3 => 2047
  | 4 => 1023
  | 5 => 2047
  | 6 => 2047
  | 7 => 100

/-! ### Setting values (12.4, R196, R197) -/

def inputFnCode : InputFn → Nat
  | .general => 0
  | .stowed .p => 1
  | .stowed .n => 2
  | .ackButton => 3
  | .stopButton => 4
  | .raiseButton => 5
  | .lowerButton => 6
  | .channelReq k => 16 + k.val

def inputFnOfCode (v : Nat) : Option InputFn :=
  match v with
  | 0 => some .general
  | 1 => some (.stowed .p)
  | 2 => some (.stowed .n)
  | 3 => some .ackButton
  | 4 => some .stopButton
  | 5 => some .raiseButton
  | 6 => some .lowerButton
  | v => if 16 ≤ v then (if h : v - 16 < 8 then some (.channelReq ⟨v - 16, h⟩) else none) else none

def outputFnCode : OutputFn → Nat
  | .general => 0
  | .raisePole .p => 1
  | .raisePole .n => 2
  | .lowerPole .p => 3
  | .lowerPole .n => 4
  | .grantEnable => 5
  | .alarmLamp => 6
  | .buzzer => 7
  | .lineLamp => 8
  | .channel k => 16 + k.val

def outputFnOfCode (v : Nat) : Option OutputFn :=
  match v with
  | 0 => some .general
  | 1 => some (.raisePole .p)
  | 2 => some (.raisePole .n)
  | 3 => some (.lowerPole .p)
  | 4 => some (.lowerPole .n)
  | 5 => some .grantEnable
  | 6 => some .alarmLamp
  | 7 => some .buzzer
  | 8 => some .lineLamp
  | v => if 16 ≤ v then (if h : v - 16 < 8 then some (.channel ⟨v - 16, h⟩) else none) else none

def requestSourceCode : RequestSource → Nat
  | .link => 0
  | .inputLevel => 1
  | .inputEdge => 2

def requestSourceOfCode : Nat → Option RequestSource
  | 0 => some .link
  | 1 => some .inputLevel
  | 2 => some .inputEdge
  | _ => none

def bitRateCode : BitRate → Nat
  | .kbit250 => 250
  | .kbit500 => 500

def bitRateOfCode (v : Nat) : Option BitRate :=
  if v = 250 then some .kbit250 else if v = 500 then some .kbit500 else none

/-- A flag's value, 0 or 1 (12.4). -/
def flagOfCode (v : Nat) : Option Bool := if v = 0 then some false else if v = 1 then some true else none

/-- The value lies in a range, ends included. -/
def inRange (lo hi v : Nat) : Bool := lo ≤ v && v ≤ hi

/-- The number of configuration records (R196). -/
def recordCount : Nat := 15

/-- R197: the test each item of a record must pass, in item order. -/
def itemTests (record : Nat) : List (Nat → Bool) :=
  match record with
  | 0 =>
    [inRange 0 15, fun v => (roleOfCode v).isSome, inRange 0 3, inRange 2 16, fun v => (bitRateOfCode v).isSome,
      inRange 20 500, inRange 100 5000, inRange 0 2047, inRange 0 2047, inRange 0 2047, inRange 0 2047]
  | 1 =>
    [inRange 50 2047, inRange 100 1023, inRange 0 1023, inRange 0 500, inRange 1 500, inRange 50 2000, inRange 0 255,
      inRange 50 5000, inRange 0 255]
  | 2 =>
    [inRange 0 900, inRange 0 900, inRange 5 200, inRange 2 200, inRange 50 5000, inRange 500 20000, inRange 500 20000,
      inRange 100 10000, inRange 50 500, inRange 100 1000, inRange 5 100, inRange 50 2000, inRange 0 50, inRange 5 100]
  | 3 => [inRange 50 5000, inRange 0 100, fun v => (flagOfCode v).isSome]
  | 4 => [inRange 50 2000]
  | 5 => List.replicate 16 (fun v => (inputFnOfCode v).isSome) ++ [inRange 1 15]
  | 6 => List.replicate 16 (fun v => (outputFnOfCode v).isSome)
  | _ => [inRange 0 255, fun v => (flagOfCode v).isSome, fun v => (requestSourceOfCode v).isSome]

/-- The number of the first item that fails its test, counted from `from'` (R198). -/
def firstBad (from' : Nat) : List (Nat → Bool) → List Nat → Option Nat
  | t :: ts, v :: vs => if t v then firstBad (from' + 1) ts vs else some from'
  | _, _ => none

/-- Item `k` of a list of values, counted from 1. -/
def item (vs : List Nat) (k : Nat) : Nat := vs.getD (k - 1) 0

/-- The items of a record as held, in item order (R198, 12.4). -/
def recordItems (record : Nat) (c : Settings) : List Nat :=
  match record with
  | 0 =>
    [c.station.address.val, roleCode c.station.role, c.station.cls.val, c.station.roundLength,
      bitRateCode c.station.bitRate, c.station.staleMs, c.station.lostMs] ++ c.station.lostCharge.toList
  | 1 =>
    [c.apportion.poleMax, c.apportion.vKnee, c.apportion.vFloor, c.apportion.reserve, c.apportion.rampStep,
      c.apportion.demandHold, c.apportion.overdrawMargin, c.apportion.overdrawMs, c.apportion.grantMin]
  | 2 =>
    [c.pole.contactLo, c.pole.contactHi, c.pole.dropStep, c.pole.confirmMs, c.pole.qualifyMs, c.pole.raiseMax,
      c.pole.lowerMax, c.pole.gapMax, c.pole.tGap, c.pole.tLow, c.pole.hyst, c.pole.lowerWaitMax, c.pole.quiet,
      c.pole.sampleTimeout]
  | 3 => [c.ladder.restoreInterval, c.ladder.restoreMargin, (flagByte c.ladder.rotate).toNat]
  | 4 => [c.alarm.unclaimedHold]
  | 5 => c.inputs.fn.toList.map inputFnCode ++ [c.inputs.debounce]
  | 6 => c.outputs.fn.toList.map outputFnCode
  | r =>
    let k : Fin 8 := ⟨(r - 7) % 8, Nat.mod_lt _ (by decide)⟩
    let ch := cell c.channels k
    [ch.rating, (flagByte ch.batteryFed).toNat, requestSourceCode ch.source]

/-- R198: a record replaced whole by values that lie within their ranges. -/
def writeRecord (record : Nat) (vs : List Nat) (c : Settings) : Settings :=
  let v := item vs
  match record with
  | 0 =>
    { c with station :=
      { address := ⟨v 1 % 16, Nat.mod_lt _ (by decide)⟩, role := (roleOfCode (v 2)).getD .aux,
        cls := ⟨v 3 % 4, Nat.mod_lt _ (by decide)⟩, roundLength := v 4,
        bitRate := (bitRateOfCode (v 5)).getD .kbit500, staleMs := v 6, lostMs := v 7,
        lostCharge := #v[v 8, v 9, v 10, v 11] } }
  | 1 =>
    { c with apportion :=
      { poleMax := v 1, vKnee := v 2, vFloor := v 3, reserve := v 4, rampStep := v 5, demandHold := v 6,
        overdrawMargin := v 7, overdrawMs := v 8, grantMin := v 9 } }
  | 2 =>
    { c with pole :=
      { contactLo := v 1, contactHi := v 2, dropStep := v 3, confirmMs := v 4, qualifyMs := v 5, raiseMax := v 6,
        lowerMax := v 7, gapMax := v 8, tGap := v 9, tLow := v 10, hyst := v 11, lowerWaitMax := v 12, quiet := v 13,
        sampleTimeout := v 14 } }
  | 3 =>
    { c with ladder := { restoreInterval := v 1, restoreMargin := v 2, rotate := (flagOfCode (v 3)).getD false } }
  | 4 => { c with alarm := { unclaimedHold := v 1 } }
  | 5 =>
    { c with inputs :=
      { fn := tabulate fun i => (inputFnOfCode (v (i.val + 1))).getD .general, debounce := v 17 } }
  | 6 => { c with outputs := { fn := tabulate fun i => (outputFnOfCode (v (i.val + 1))).getD .general } }
  | r =>
    let k : Fin 8 := ⟨(r - 7) % 8, Nat.mod_lt _ (by decide)⟩
    let ch : ChannelSettings :=
      { rating := v 1, batteryFed := (flagOfCode (v 2)).getD false, source := (requestSourceOfCode (v 3)).getD .link }
    { c with channels := setCell c.channels k ch }

/-! ### Link messages (10.3, 12.4) -/

/-- The refusal codes (R189). -/
inductive RefusalCode where
  | badForm
  | unknownType
  | wrongMode
  | wrongRole
  | noSuch
  | queueFull
  | configInvalid
  deriving DecidableEq, Repr

def refusalCode : RefusalCode → Nat
  | .badForm => 1
  | .unknownType => 2
  | .wrongMode => 3
  | .wrongRole => 4
  | .noSuch => 5
  | .queueFull => 6
  | .configInvalid => 7

def channelActionCode : ChannelAction → Nat
  | .request => 1
  | .release => 2
  | .mask => 3
  | .unmask => 4
  | .shed => 5
  | .setLowest => 6

def channelActionOfCode : Nat → Option ChannelAction
  | 1 => some .request
  | 2 => some .release
  | 3 => some .mask
  | 4 => some .unmask
  | 5 => some .shed
  | 6 => some .setLowest
  | _ => none

/-- The TYPE of a request (12.4). -/
def requestType : Request → Byte
  | .configWrite _ _ => 0x01
  | .join => 0x02
  | .reset => 0x03
  | .readStation => 0x04
  | .readPeer _ => 0x05
  | .readAlarms _ => 0x06
  | .readPoles => 0x07
  | .readChannels => 0x08
  | .readIo => 0x09
  | .readChanges => 0x0A
  | .setAttnMask _ => 0x0B
  | .setOutput _ _ => 0x0C
  | .setDemand _ => 0x0D
  | .setChannel _ _ => 0x0E
  | .sendNotice _ => 0x0F
  | .poleCommand _ _ => 0x10

/-- The payload of a request (12.4). -/
def requestPayload : Request → List Byte
  | .configWrite r items => r :: (items.map halfBytes).flatten
  | .readPeer a => [a]
  | .readAlarms i => [i]
  | .setAttnMask m => [m]
  | .setOutput o on => [o, flagByte on]
  | .setDemand a => halfBytes a
  | .setChannel k a => [k, byteOf (channelActionCode a)]
  | .sendNotice n => let b := noticeBody n; [b.kind, b.field1, b.field2, b.field3]
  | .poleCommand a ps => [byteOf (actionCode a), byteOf (polesCode ps)]
  | _ => []

/-- A list of bytes taken two at a time, high byte first; none where a byte is left over. -/
def readHalves : List Byte → Option (List Half)
  | [] => some []
  | [_] => none
  | hi :: lo :: rest => (readHalves rest).map (readTwo hi lo :: ·)

/-- The notice a SEND_NOTICE carries: kind ACK, ACK_ALL, CLEAR_LOST or COMMAND, its unused bytes 0 (R205). -/
def readSentNotice (b : NoticeBody) : Option Notice :=
  match readNotice b with
  | some (.clear _) => none
  | some n => if noticeBody n = b then some n else none
  | none => none

/-- Tests 2 and 3 of R189 over a TYPE and a payload: the request they name, or the refusal (R205). -/
def parseRequest (type : Byte) (payload : List Byte) : Except RefusalCode Request :=
  let form (r : Option Request) : Except RefusalCode Request :=
    match r with
    | some r => .ok r
    | none => .error .badForm
  let bare (r : Request) : Except RefusalCode Request := form (if payload.isEmpty then some r else none)
  match type.toNat with
  | 0x01 =>
    form (match payload with
      | [] => none
      | r :: rest =>
        if recordCount ≤ r.toNat then some (.configWrite r [])
        else match readHalves rest with
          | none => none
          | some items =>
            if items.isEmpty || items.length = (itemTests r.toNat).length then some (.configWrite r items) else none)
  | 0x02 => bare .join
  | 0x03 => bare .reset
  | 0x04 => bare .readStation
  | 0x05 => form (match payload with | [a] => some (.readPeer a) | _ => none)
  | 0x06 => form (match payload with | [i] => some (.readAlarms i) | _ => none)
  | 0x07 => bare .readPoles
  | 0x08 => bare .readChannels
  | 0x09 => bare .readIo
  | 0x0A => bare .readChanges
  | 0x0B => form (match payload with | [m] => some (.setAttnMask m) | _ => none)
  | 0x0C =>
    form (match payload with
      | [o, v] => (flagOfCode v.toNat).map (.setOutput o)
      | _ => none)
  | 0x0D => form (match payload with | [hi, lo] => some (.setDemand (readTwo hi lo)) | _ => none)
  | 0x0E =>
    form (match payload with
      | [k, a] => (channelActionOfCode a.toNat).map (.setChannel k)
      | _ => none)
  | 0x0F =>
    form (match payload with
      | [k, f1, f2, f3] => (readSentNotice ⟨k, f1, f2, f3⟩).map .sendNotice
      | _ => none)
  | 0x10 =>
    form (match payload with
      | [a, ps] =>
        match actionOfCode a.toNat, polesOfCode ps.toNat with
        | some a, some ps => some (.poleCommand a ps)
        | _, _ => none
      | _ => none)
  | _ => .error .unknownType

/-- Test 3 of R189 on a request given by its operands: the item count of a CONFIG_WRITE and the kind of a SEND_NOTICE
(R205). -/
def formOk : Request → Bool
  | .configWrite r items =>
    decide (recordCount ≤ r.toNat) || items.isEmpty || decide (items.length = (itemTests r.toNat).length)
  | .sendNotice (.clear _) => false
  | _ => true

/-- CHECK: the two's complement of the sum of LENGTH, TYPE and the payload (10.3). -/
def linkCheck (type : Byte) (payload : List Byte) : Byte := -(payload.foldl (· + ·) (byteOf payload.length + type))

/-- A whole message: START, LENGTH, TYPE, payload, CHECK (10.3). -/
def linkMessage (type : Byte) (payload : List Byte) : List Byte :=
  [Figures.start, byteOf payload.length, type] ++ payload ++ [linkCheck type payload]

/-- The bytes of a request's message. -/
def requestBytes (r : Request) : List Byte := linkMessage (requestType r) (requestPayload r)

/-- The message of a REPLY: TYPE 80, and a payload that begins with the request's TYPE (12.4). -/
def replyMessage (type : Byte) (data : List Byte) : List Byte := linkMessage 0x80 (type :: data)

/-- The message of a REFUSED: TYPE 81, the code, the request's TYPE or FF, and the item number (12.4). -/
def refusedMessage (code : RefusalCode) (type : Option Byte) (itemNumber : Nat) : List Byte :=
  linkMessage 0x81 [byteOf (refusalCode code), type.getD 0xFF, byteOf itemNumber]

end Machine
end Sys2Proof
end

