-- ==== Sys2Proof/Machine/Ladder.lean ====
section
/-!
DEFINITION. The Load Ladder's operations: requests, masks, sheds and restoration (R77 to R93), and the binding of inputs
to channels at JOIN (R76).
-/

namespace Sys2Proof
namespace Machine

/-- The state with a channel's record replaced. -/
def State.withChannel (k : Fin 8) (c : Channel) (s : State) : State :=
  s.withLl { s.ll with channels := setCell s.ll.channels k c }

/-- R80: the requested flag set; an OFF channel becomes WAITING, a HELD one stays HELD. -/
def Channel.request (c : Channel) : Channel :=
  if c.state = .unused || c.requested then c
  else { c with requested := true, state := if c.state = .off then .waiting else c.state }

/-- R81: the requested flag cleared; a WAITING, ON or SHED channel goes to OFF. -/
def Channel.release (c : Channel) : Channel :=
  if c.requested then
    if c.state = .waiting || c.state = .on || c.state = .shed then
      { c with requested := false, state := .off, shedCause := .none }
    else { c with requested := false }
  else c

/-- R82: the masked flag set. -/
def Channel.mask (c : Channel) : Channel :=
  if c.state = .unused || c.state = .held then c else { c with masked := true, state := .held, shedCause := .none }

/-- R83: the masked flag of a HELD channel cleared. -/
def Channel.unmask (c : Channel) : Channel :=
  if c.state = .held then { c with masked := false, state := if c.requested then .waiting else .off } else c

/-- A channel taken to SHED with a shed cause (R86 to R88). -/
def Channel.shed (why : ShedCause) (c : Channel) : Channel := { c with state := .shed, shedCause := why }

/-- R89: SET_CHANNEL SHED. -/
def Channel.shedOnRequest (c : Channel) : Channel :=
  if c.state = .on || c.state = .waiting || c.state = .shed then c.shed .request else c

/-- A channel's record changed by `f`. -/
def State.onChannel (k : Fin 8) (f : Channel → Channel) (s : State) : State := s.withChannel k (f (s.channel k))

/-- R77, R78: SET_CHANNEL REQUEST; an INPUT_LEVEL channel keeps the flag its inputs make. -/
def State.requestChannel (k : Fin 8) (s : State) : State :=
  if (s.channelCfg k).source = .inputLevel then s else s.onChannel k Channel.request

/-- R77, R78: SET_CHANNEL RELEASE. -/
def State.releaseChannel (k : Fin 8) (s : State) : State :=
  if (s.channelCfg k).source = .inputLevel then s else s.onChannel k Channel.release

/-- R79: a change of a requested flag that an input makes sets the CHANNELS topic. -/
def State.inputRequest (k : Fin 8) (f : Channel → Channel) (s : State) : State :=
  let t := s.onChannel k f
  if (t.channel k).requested = (s.channel k).requested then t else t.setTopics { channels := true }

/-- R77, R78: a debounced change of an input bound to channel `k`, after the input has taken its new value. -/
def State.channelInput (k : Fin 8) (rising : Bool) (s : State) : State :=
  match (s.channelCfg k).source with
  | .link => s
  | .inputLevel => s.inputRequest k (if s.channelReqActive k then Channel.request else Channel.release)
  | .inputEdge => if rising then s.inputRequest k Channel.request else s

/-- R76: at JOIN each INPUT_LEVEL channel with an active bound input is requested. -/
def State.requestLevels (s : State) : State :=
  eight.foldl
    (fun s k =>
      if (s.channelCfg k).source = .inputLevel && s.channelReqActive k then s.inputRequest k Channel.request else s) s

/-- R87: every ON line-fed channel is shed while the line condition is other than AVAILABLE. -/
def State.lineSheds (s : State) : State :=
  if s.ca.lineCondition = .available then s
  else
    eight.foldl
      (fun s k => if s.isOn k && !(s.channelCfg k).batteryFed then s.onChannel k (Channel.shed .line) else s) s

/-- R86: the lowest-priority ON channels are shed until the ON ratings fit the allowance. -/
def State.allowanceSheds (s : State) : State :=
  s.ring.reverse.foldl
    (fun s k => if s.isOn k && decide (s.ca.allowance < s.onSum) then s.onChannel k (Channel.shed .allowance) else s) s

/-- R88: the lowest-priority ON channel is shed for an overdraw. -/
def State.overdrawShed (s : State) : State :=
  match s.ring.reverse.find? s.isOn with
  | some k => s.onChannel k (Channel.shed .overdraw)
  | none => s

/-- R91: a channel restored. -/
def Channel.restored (c : Channel) : Channel := { c with state := .on, shedCause := .none }

/-- R91 to R93: the highest-priority candidate that meets the three conditions is restored; with rotation on it becomes
the lowest. -/
def State.restoreOne (s : State) : State :=
  match s.ring.find? s.restorable with
  | some k =>
    let t := s.onChannel k Channel.restored
    if s.cfs.settings.ladder.rotate then t.withLl { t.ll with lowest := k } else t
  | none => s

/-- R75, R76: the record of a channel after a reset or a write of its CHANNEL record in CONFIG. -/
def freshChannel (rating : Nat) : Channel := { state := if rating = 0 then .unused else .off }

end Machine
end Sys2Proof
end

