-- ==== Sys2Proof/Machine/Apportion.lean ====
section
/-!
DEFINITION. The Current Apportioner's computations: what every computation forms (R53, R56 to R62), the lowering
computation (R65), the round computation (R64), and what follows a computation in the same event: sheds, the grant and
the overdraw condition (R67, R69, R86, R87).
-/

namespace Sys2Proof
namespace Machine

/-- What every computation forms from the inputs as they stand: own charge, line condition, pole-source voltage, budget
and share (R53, R56 to R62). -/
def State.compute (s : State) : State :=
  let charge := s.formCharge
  let condition := s.judgeLine
  let voltage := s.sourceVoltage
  let budget := s.formBudget condition voltage
  s.withCa
    { s.ca with
      ownCharge := charge
      lineCondition := condition
      poleVoltage := voltage
      budget := budget
      share := s.formShare charge budget }

/-- The state with the allowance replaced, 0 outside RUN (R63). -/
def State.setAllowance (a : Nat) (s : State) : State :=
  s.withCa { s.ca with allowance := if s.rsq.mode = .run then a else 0 }

/-- R67: the grant is the allowance less the ratings of the ON channels. -/
def State.grantRule (s : State) : State := s.withCa { s.ca with grant := s.ca.allowance - s.onSum }

/-- R69: the overdraw timer runs while the condition holds; when it does not, the timer stops and the flag clears. -/
def State.overdrawRule (s : State) : State :=
  s.withCa
    { s.ca with
      overdrawTimer := if s.overdrawn then s.ca.overdrawTimer <|> Timer.started else none
      overdrawFlag := s.ca.overdrawFlag && s.overdrawn }

/-- What follows a computation in its event: the line sheds before the allowance sheds, then the grant and the overdraw
condition (R67, R69, R86). -/
def State.follow (s : State) : State := s.lineSheds.allowanceSheds.grantRule.overdrawRule

/-- R65: the lowering computation and what follows it. -/
def State.caSettle (s : State) : State :=
  let t := s.compute
  (t.setAllowance (min t.ca.allowance t.ca.share)).follow

/-- R64: the allowance after a round computation of share `t` from allowance `a`. -/
def roundAllowance (step a t : Nat) : Nat := if t ≤ a then t else min t (a + step)

/-- R64: the round computation and what follows it. -/
def State.caRound (s : State) : State :=
  let t := s.compute
  (t.setAllowance (roundAllowance s.cfs.settings.apportion.rampStep t.ca.allowance t.ca.share)).follow

/-- R54: SET_DEMAND; a value above 2047 is clamped, and the hold timer is started, restarted or stopped. -/
def State.takeDemand (amperes : Nat) (s : State) : State :=
  let v := min Figures.currentMax amperes
  s.withCa { s.ca with demand := v, demandHoldTimer := if v = 0 then none else Timer.started }

/-- R55: expiry of the demand hold timer. -/
def State.demandHoldExpired (s : State) : State :=
  if s.ca.demandHoldTimer.isSome then
    (s.withCa { s.ca with demand := 0, demandHoldTimer := none }).setTopics { allowance := true }
  else s

/-- R70: expiry of the overdraw timer. -/
def State.overdrawExpired (s : State) : State :=
  if s.ca.overdrawTimer.isSome then
    (s.withCa { s.ca with overdrawFlag := true, overdrawTimer := Timer.started }).overdrawShed
  else s

/-- R90, R91: expiry of the restore timer. -/
def State.restoreExpired (s : State) : State :=
  if s.ll.restoreTimer.isSome then (s.withLl { s.ll with restoreTimer := Timer.started }).restoreOne else s

end Machine
end Sys2Proof
end

