-- ==== Sys2Proof/Machine/Poles.lean ====
section
/-!
DEFINITION. The Pole Supervisor's operations: lowering, drops, commands, qualification, the judgement of an elevation,
the quiet condition, the band, the stowed switch (R3 to R18, R20), and what the state of the poles asks for at the end
of an event (R4, R9, R10, R21, R23 to R26). The timers' expiries that belong to the poles stand in Pole timers below.
-/

namespace Sys2Proof
namespace Machine

/-- The own cause of a pole's drop (R13). -/
def dropCause : PoleId → Cause
  | .p => .poleDropP
  | .n => .poleDropN

/-- A pole's last command outcome set, with the POLES topic (R6). -/
def State.setOutcome (x : PoleId) (o : CommandOutcome) (s : State) : State :=
  (s.withPole x { s.pole x with outcome := o }).setTopics { poles := true }

/-- R17: the record `r` entering LOWERING, or STOWED in the same event when the STOWED input is already closed; every
other timer of the pole stops and its qualified mark is clear (DEDUCED, log entry 25: unsafe). -/
def Pole.lowered (stowed : Bool) (r : Pole) : Pole :=
  { r with
    state := if stowed then .stowed else .lowering
    stateTimer := if stowed then none else Timer.started
    qualifyTimer := none
    confirmTimer := none
    quietTimer := none
    qualified := false
    qualifying := false }

/-- R17: a pole enters LOWERING. -/
def State.lower (x : PoleId) (s : State) : State := s.withPole x ((s.pole x).lowered (s.stowedClosed x))

/-- The record `r` entering STOWED: nothing drives it and no timer runs (R5, R17, R18). -/
def Pole.hooked (r : Pole) : Pole := r.lowered true

/-- R8: the record `r` entering ON_WIRE after qualification. -/
def Pole.qualifiedOn (r : Pole) : Pole :=
  { r with state := .onWire, qualifying := false, qualified := false, stateTimer := none, qualifyTimer := none }

/-- R8: a pole goes to ON_WIRE. -/
def State.putOnWire (x : PoleId) (s : State) : State := s.withPole x (s.pole x).qualifiedOn

/-- R13: a drop of a pole. -/
def State.drop (x : PoleId) (s : State) : State :=
  let r := s.pole x
  ((s.withPole x { r with drops := satInc 255 r.drops }).lower x).raiseOwn (dropCause x) none

/-- R4: an INITIAL pole is settled once supervision has begun, its STOWED input is known and its ELEV latch is fresh; a
settlement that is no ELEV arrival leaves the qualification unexamined (R8; DEDUCED, log entry 15: unsafe). -/
def State.settle (x : PoleId) (s : State) : State :=
  let r := s.pole x
  if s.ps.supervising && r.state == .initial && !r.qualifying && s.stowedKnown x && s.fresh (elevChannel x) then
    if s.stowedClosed x then s.withPole x r.hooked
    else if poleWindow s.poleCfg (s.latch (elevChannel x)).value then s.withPole x { r with qualifying := true }
    else s.lower x
  else s

/-- R8, R9: the qualification condition of a pole held for qualification is examined. -/
def State.examineQualify (x : PoleId) (s : State) : State :=
  let r := s.pole x
  if !r.isQualifying then s
  else if s.qualificationCondition x then
    if r.qualifyTimer.isSome || r.qualified then s else s.withPole x { r with qualifyTimer := Timer.started }
  else
    s.withPole x
      { r with
        qualifyTimer := none
        qualified := false
        stateTimer := if r.qualified && r.state == .raising then Timer.started else r.stateTimer }

/-- R16: the quiet condition is examined for a pole. -/
def State.examineQuiet (x : PoleId) (s : State) : State :=
  let r := s.pole x
  if r.state = .lowerWait then
    if s.quietCondition then
      if r.quietTimer.isSome then s else s.withPole x { r with quietTimer := Timer.started }
    else s.withPole x { r with quietTimer := none }
  else s

/-- The judgement of an elevation in the pole's state, before the elevation last used is replaced (R5, R8, R11, R12,
R15, R17, R18). -/
def State.judgeElevation (x : PoleId) (e : Nat) (s : State) : State :=
  let r := s.pole x
  let inside := poleWindow s.poleCfg e
  match r.state with
  | .initial => if r.qualifying then (if inside then s.examineQualify x else s.lower x) else s
  | .stowed => s
  | .raising => s.examineQualify x
  | .onWire =>
    if poleJump s.poleCfg r.elevation e then s.drop x
    else if inside then s
    else s.withPole x { r with state := .suspect, confirmTimer := Timer.started }
  | .suspect =>
    if poleJump s.poleCfg r.elevation e then s.drop x
    else if inside then
      s.withPole x { r with state := .onWire, confirmTimer := none, bounces := satInc 255 r.bounces }
    else if r.confirmTimer.isSome then s
    else s.withPole x { r with confirmTimer := Timer.started }
  | .lowerWait =>
    if poleJump s.poleCfg r.elevation e then s.drop x
    else if inside then
      if r.confirmTimer.isSome then s.withPole x { r with confirmTimer := none, bounces := satInc 255 r.bounces }
      else s
    else if r.confirmTimer.isSome then s
    else s.withPole x { r with confirmTimer := Timer.started }
  | .lowering => s
  | .stuck => s

/-- An ELEV arrival at a pole under supervision: an INITIAL pole is settled first, then the elevation is judged, and it
becomes the elevation last used (R4, R8, R11). -/
def State.elevArrival (x : PoleId) (e : Nat) (s : State) : State :=
  let t := (s.settle x).judgeElevation x e
  t.withPole x { t.pole x with elevation := e }

/-- R3: a LINE_V arrival; a change of band is examined by the qualification rule (R8). -/
def State.lineArrival (v : Nat) (s : State) : State :=
  let b := nextBand s.poleCfg s.ps.band v
  let t := s.withPs { s.ps with lineVoltage := v, band := b }
  if b = s.ps.band then t else (t.examineQualify .p).examineQualify .n

/-- R7: a RAISE command judged for one pole. -/
def State.raiseOne (x : PoleId) (s : State) : State :=
  let r := s.pole x
  if !s.ps.supervising then s.withPole x { r with outcome := .ignoredState }
  else if r.state = .raising then s
  else if s.rsq.mode ≠ .run || r.state ≠ .stowed then s.setOutcome x .ignoredState
  else if s.ownListed (dropCause x) || s.stopEffect then s.setOutcome x .ignoredAlarm
  else
    (s.withPole x
      { r with state := .raising, stateTimer := Timer.started, qualifyTimer := none, qualified := false }).setOutcome x
      .accepted

/-- R14: a LOWER command judged for one pole. -/
def State.lowerOne (x : PoleId) (s : State) : State :=
  let r := s.pole x
  if !s.ps.supervising then s.withPole x { r with outcome := .ignoredState }
  else match r.state with
    | .initial => (s.lower x).setOutcome x .accepted
    | .raising => (s.lower x).setOutcome x .accepted
    | .stowed => s.setOutcome x .ignoredState
    | .stuck => s.setOutcome x .ignoredState
    | .onWire =>
      ((s.withPole x { r with state := .lowerWait, stateTimer := Timer.started }).examineQuiet x).setOutcome x .accepted
    | .suspect =>
      ((s.withPole x { r with state := .lowerWait, stateTimer := Timer.started }).examineQuiet x).setOutcome x .accepted
    | .lowerWait => s
    | .lowering => s

/-- A command judged for one pole (R6). -/
def State.commandOne (a : PoleAction) (x : PoleId) (s : State) : State :=
  match a with
  | .raise => s.raiseOne x
  | .lower => s.lowerOne x

/-- R6: a command applied to the poles it names, pole P before pole N, each judged before the wait of the other ends (DESIGN
CHOICE, log entry 46: unsafe); a station of another role ignores it (R1). -/
def State.commandPoles (a : PoleAction) (ps : PoleSel) (s : State) : State :=
  if s.role = .pole then
    match ps with
    | .p => s.commandOne a .p
    | .n => s.commandOne a .n
    | .both => (s.commandOne a .p).commandOne a .n
  else s

/-- R20, R16: what a latch becoming stale does to the poles. -/
def State.poleStale (c : Fin 8) (s : State) : State :=
  let elevation (x : PoleId) : State :=
    let t := s.examineQualify x
    t.withPole x { t.pole x with confirmTimer := none }
  match c with
  | 0 => elevation .p
  | 1 => elevation .n
  | 2 => (s.examineQuiet .p).examineQuiet .n
  | 3 => (s.examineQuiet .p).examineQuiet .n
  | _ => s

/-- R5, R17, R18: a change of the pole's STOWED input from one debounced value to another. An INITIAL pole not yet
settled waits for R4. -/
def State.stowedChange (x : PoleId) (before after : Debounced) (s : State) : State :=
  let r := s.pole x
  match after with
  | .active =>
    if r.state = .lowering || r.state = .stuck || (r.state == .initial && r.qualifying) then s.withPole x r.hooked else s
  | .inactive => if before = .active && r.state = .stowed then s.lower x else s
  | .unknown => s

/-! ### Pole timers -/

/-- R8: expiry of a pole's qualify timer. -/
def State.qualifyExpired (x : PoleId) (s : State) : State :=
  let r := s.pole x
  let o := s.pole x.other
  if r.isQualifying && r.qualifyTimer.isSome then
    if !o.isQualifying then s.putOnWire x
    else if o.qualified then (s.putOnWire x).putOnWire x.other
    else s.withPole x { r with qualified := true, qualifyTimer := none, stateTimer := none }
  else s

/-- R10: expiry of raise_max. -/
def State.raiseMaxExpired (x : PoleId) (s : State) : State :=
  let r := s.pole x
  if r.state = .raising && r.stateTimer.isSome then (s.withPole x { r with outcome := .raiseFailed }).lower x else s

/-- R12, R15: expiry of the confirm timer is a drop. -/
def State.confirmExpired (x : PoleId) (s : State) : State :=
  let r := s.pole x
  if (r.state = .suspect || r.state = .lowerWait) && r.confirmTimer.isSome then s.drop x else s

/-- R16: expiry of the quiet timer. -/
def State.quietExpired (x : PoleId) (s : State) : State :=
  let r := s.pole x
  if r.state = .lowerWait && r.quietTimer.isSome then s.lower x else s

/-- R16: expiry of lower_wait_max. -/
def State.lowerWaitExpired (x : PoleId) (s : State) : State :=
  let r := s.pole x
  if r.state = .lowerWait && r.stateTimer.isSome then s.lower x else s

/-- R17: expiry of lower_max. -/
def State.lowerMaxExpired (x : PoleId) (s : State) : State :=
  let r := s.pole x
  if r.state = .lowering && r.stateTimer.isSome then
    s.withPole x { r with state := .stuck, stateTimer := none, outcome := .lowerFailed }
  else s

/-- R22: expiry of the gap timer; the gap flag stays set and the timer is not restarted. -/
def State.gapExpired (s : State) : State :=
  if s.ps.gapTimer.isSome then (s.withPs { s.ps with gapTimer := none }).raiseOwn .lineLoss none else s

/-- R23: expiry of the restore-qualify timer. -/
def State.restoreQualifyExpired (s : State) : State :=
  if s.ps.restoreQualifyTimer.isSome then
    let t := s.withPs { s.ps with restoreQualifyTimer := none }
    if t.ownListed .lineLoss then t.clearOwn .lineLoss else t
  else s

/-! ### What the poles ask for at the end of an event -/

/-- A DESK_STOP entry is listed that was not listed before (R10). -/
def State.newStop (s old : State) : Bool := s.alarms.any fun e => e.cause == .deskStop && !old.listed e.source .deskStop

/-- R10: a RAISING pole is lowered when the station leaves RUN or a DESK_STOP entry is newly listed. -/
def State.abandonRaise (s old : State) (x : PoleId) : State :=
  if ((old.rsq.mode = .run && s.rsq.mode ≠ .run) || s.newStop old) && (s.pole x).state = .raising then s.lower x else s

/-- R9: a waiting pole goes to ON_WIRE once the other pole is no longer held for qualification. It is examined at the event's
end, so a waiting pole that the same LOWER command names is judged as it waits (R5, R14; DESIGN CHOICE, log entry 46:
unsafe). -/
def State.endWait (x : PoleId) (s : State) : State :=
  if (s.pole x).isQualifying && (s.pole x).qualified && !(s.pole x.other).isQualifying then s.putOnWire x else s

/-- A pole is ON_WIRE or SUSPECT (R21). -/
def Pole.onOrSuspect (r : Pole) : Bool := r.state == .onWire || r.state == .suspect

/-- R21: the gap flag and its timer. -/
def PoleSupervisor.gapRule (ps : PoleSupervisor) : PoleSupervisor :=
  if ps.gapFlag then
    if ps.band != .none || !(ps.poleP.onOrSuspect && ps.poleN.onOrSuspect) then
      { ps with gapFlag := false, gapTimer := none }
    else ps
  else if ps.poleP.state == .onWire && ps.poleN.state == .onWire && ps.band == .none then
    { ps with gapFlag := true, gapTimer := Timer.started }
  else ps

/-- R24: the detail of the SENSOR_LOSS raise the event asks for, if it asks for one. -/
def State.sensorLoss (s old : State) : Option SensorDetail :=
  let stale (d : SensorDetail) : Bool := (s.latch (detailChannel d)).stale
  let newly (d : SensorDetail) : Bool := stale d && !(old.latch (detailChannel d)).stale
  let leaves (x : PoleId) : Bool := (old.pole x).state == .stowed && (s.pole x).state != .stowed
  if !s.somePoleOut then none
  else match lowestDetail newly with
    | some d => if old.ps.supervising then some d else lowestDetail stale
    | none => if leaves .p || leaves .n || !old.ps.supervising then lowestDetail stale else none

/-- R24: the SENSOR_LOSS raise. -/
def State.raiseSensorLoss (s old : State) : State :=
  match s.sensorLoss old with
  | some d => s.raiseOwn .sensorLoss (some d)
  | none => s

/-- R25: the clearing of SENSOR_LOSS. -/
def State.clearSensorLoss (s : State) : State :=
  if s.ownAcknowledged .sensorLoss && s.fresh elevPChannel && s.fresh elevNChannel && s.fresh lineVChannel then
    s.clearOwn .sensorLoss
  else s

/-- R26: the clearing of a pole's drop. -/
def State.clearDrop (x : PoleId) (s : State) : State :=
  if s.ownAcknowledged (dropCause x) && (s.pole x).state == .stowed then s.clearOwn (dropCause x) else s

/-- R23: the restore-qualify timer runs while an own LINE_LOSS entry is listed and the band is LOW or NORMAL. -/
def State.restoreQualifyRule (s : State) : State :=
  s.withPs
    { s.ps with
      restoreQualifyTimer :=
        if s.ownListed .lineLoss && s.ps.band != .none then s.ps.restoreQualifyTimer <|> Timer.started else none }

/-- The end of an event at the poles of a station under supervision; `old` is the state before the event. Several entries
cleared in one event are cleared, and their CLEAR notices placed, in the order SENSOR_LOSS, POLE_DROP_P, POLE_DROP_N
(DESIGN CHOICE, log entry 38: unsafe). A wait ends here, after every pole the event names has been judged (R9; DESIGN CHOICE,
log entry 46: unsafe). -/
def State.polesEnd (s old : State) : State :=
  if s.role = .pole && s.ps.supervising then
    let a := (s.abandonRaise old .p).abandonRaise old .n
    let b := (a.settle .p).settle .n
    let c := (b.endWait .p).endWait .n
    let d := c.withPs c.ps.gapRule
    let e := ((d.raiseSensorLoss old).clearSensorLoss.clearDrop .p).clearDrop .n
    e.restoreQualifyRule
  else s

end Machine
end Sys2Proof
end

