-- ==== Sys2Proof/Machine/Settle.lean ====
section
/-!
DEFINITION. The end of an event: what every block's own rule asks for in the event in which its inputs changed. The
poles come first, then the stop entry, the computation with its sheds, the break, the outputs and the topics (R27, R28,
R34, R44, R65, R71, R97, R149, R174, R193). Three conventions are DEDUCED: the order within an event (log entry 9:
unsafe), topics set by comparison of the state before and after it (log entry 16: unsafe), and one computation in every
event (log entry 31: safe).
-/

namespace Sys2Proof
namespace Machine

/-- The level an event gives for the coordination line; a line held dominant stays so (R44; DESIGN CHOICE, log entry 5:
safe). -/
def State.sense (l : LineLevel) (s : State) : State := if s.lineHeld then s else s.lineTo l

/-- R34: the own DESK_STOP entry is cleared once it is acknowledged and no STOP_BUTTON input is active. -/
def State.clearStop (s : State) : State :=
  if s.ownAcknowledged .deskStop && s.activeStops == 0 then s.clearOwn .deskStop else s

/-- R148, R149: the driver asserts a break; an own frame in flight is cut. -/
def State.assertBreak (s : State) : State :=
  let li := if s.li.driver = .frame then s.li.taking .discard [] else s.li
  (s.withLi { li with driver := .brk, ownFrame := none }).withPins { s.pins with line := .dominant }

/-- R44: the break condition examined. -/
def State.examineBreak (s : State) : State := if s.breakWanted then s.assertBreak else s

/-- R174: every output driven from the condition its function names. -/
def State.driveOutputs (s : State) : State :=
  s.withIou { s.iou with outputs := bitmap 16 sixteen s.outputCondition }

/-- An entry as the ALARMS topic sees it: the passing of age sets no topic (R50). -/
def AlarmEntry.shown (e : AlarmEntry) : AlarmEntry := { e with age := 0 }

/-- The channels other than `skip` whose state differs between two states (R97). -/
def channelsMoved (skip : Option (Fin 8)) (old s : State) : Bool :=
  eight.any fun k => some k != skip && (old.channel k).state != (s.channel k).state

/-- R193: the topics the blocks' rules set for what an event has changed (DEDUCED, log entries 11, 14 and 27: unsafe); a
SET_CHANNEL request sets none for the channel it names (R97). -/
def changedTopics (skip : Option (Fin 8)) (old s : State) : Topics :=
  let shown (t : State) : PoleState × CommandOutcome × PoleState × CommandOutcome × Band × Bool :=
    ((t.pole .p).state, (t.pole .p).outcome, (t.pole .n).state, (t.pole .n).outcome, t.ps.band, t.ps.gapFlag)
  { alarms := old.alarms.map AlarmEntry.shown != s.alarms.map AlarmEntry.shown || old.alc.unlisted != s.alc.unlisted
    poles := shown old != shown s
    allowance := old.ca.allowance != s.ca.allowance || old.ca.grant != s.ca.grant ||
      old.ca.lineCondition != s.ca.lineCondition || old.ca.overdrawFlag != s.ca.overdrawFlag
    channels := channelsMoved skip old s
    peers := sixteen.any fun a => (cell old.pt a).state != (cell s.pt a).state
    inputs := false
    lineErrors := false
    mode := old.rsq.mode != s.rsq.mode || old.rsq.muteCause != s.rsq.muteCause }

/-- What the blocks that take events from JOIN onward do at the end of an event; in CONFIG they take none (R1, R28, R51,
R74, R136). A DESK_STOP cleared in the event of a pole's entries is cleared after them (DESIGN CHOICE, log entry 38:
unsafe). -/
def State.blocksEnd (s old : State) : State :=
  if s.rsq.mode = .config then s else (s.polesEnd old).clearStop.caSettle.examineBreak

/-- The end of an event: `old` is the state before it, `skip` the channel a SET_CHANNEL request names. -/
def State.finishBut (skip : Option (Fin 8)) (s old : State) : State :=
  let t := (s.blocksEnd old).driveOutputs
  t.setTopics (changedTopics skip old t)

/-- The end of an event. -/
def State.finish (s old : State) : State := s.finishBut none old

end Machine
end Sys2Proof
end

