-- ==== Sys2Proof/Machine/Peers.lean ====
section
/-!
DEFINITION. The Peer Table's operations: filing a STATUS, refreshing by a NOTICE, and the two limits of ageing (R155 to
R161).
-/

namespace Sys2Proof
namespace Machine

/-- The record of an address. -/
def State.peer (s : State) (a : Fin 16) : Peer := cell s.pt a

/-- The state with the record of an address replaced. -/
def State.withPeer (a : Fin 16) (r : Peer) (s : State) : State := s.withPt (setCell s.pt a r)

/-- R159: a STATUS whose sequence does not follow the filed one. -/
def sequenceBroken (filed : Option Stated) (new : Stated) : Bool :=
  match filed with
  | none => false
  | some t => new.sequence != (t.sequence + 1) % 256

/-- R160: a STATUS that states a role different from the filed one. -/
def roleDiffers (filed : Option Stated) (new : Stated) : Bool :=
  match filed with
  | none => false
  | some t => t.role != new.role

/-- R158 to R160: the record after a STATUS. -/
def Peer.filed (new : Stated) (r : Peer) : Peer :=
  { state := .fresh
    age := 0
    sequenceGaps := if sequenceBroken r.stated new then satInc 255 r.sequenceGaps else r.sequenceGaps
    roleChanged := r.roleChanged || roleDiffers r.stated new
    stated := some new }

/-- R158, R160: a STATUS filed; a role change sets the PEERS topic. -/
def State.fileStatus (a : Fin 16) (b : StatusBody) (s : State) : State :=
  let new := readStatus b
  let t := s.withPeer a ((s.peer a).filed new)
  if roleDiffers (s.peer a).stated new then t.setTopics { peers := true } else t

/-- R161: the record after a NOTICE. -/
def Peer.refreshed (r : Peer) : Peer :=
  match r.state with
  | .fresh => { r with age := 0 }
  | .stale => { r with state := .fresh, age := 0 }
  | .lost => r
  | .absent => r

/-- R161: a NOTICE refreshes the record of its sender. -/
def State.refreshPeer (a : Fin 16) (s : State) : State := s.withPeer a (s.peer a).refreshed

/-- R155: a FRESH record whose age stands at stale_ms or above. -/
def State.staleDue (a : Fin 16) (s : State) : Bool :=
  (s.peer a).state == .fresh && decide (s.station.staleMs ≤ (s.peer a).age)

/-- R155: a STALE record whose age stands at lost_ms or above. -/
def State.lostDue (a : Fin 16) (s : State) : Bool :=
  (s.peer a).state == .stale && decide (s.station.lostMs ≤ (s.peer a).age)

/-- R155: the record of an address passes stale_ms. -/
def State.peerGoesStale (a : Fin 16) (s : State) : State := s.withPeer a { s.peer a with state := .stale }

/-- R155: the record of an address passes lost_ms. -/
def State.peerGoesLost (a : Fin 16) (s : State) : State := s.withPeer a { s.peer a with state := .lost }

end Machine
end Sys2Proof
end

