-- ==== Sys2Proof/Machine/Rounds.lean ====
section
/-!
DEFINITION. The Round Sequencer's operations: mode changes, the slot counter, the round end, notices applied and frames
composed (R72, R95, R100, R105, R106, R108, R116 to R135).
-/

namespace Sys2Proof
namespace Machine

/-- The station enters RUN: the idle count stops, and in a POLE station supervision begins at the first entry (R1, R118,
R119). The allowance is 0 in every other mode, so it starts from 0 (R63). -/
def State.enterRun (s : State) : State :=
  let t := s.withRsq { s.rsq with mode := .run, idleCount := none }
  t.withPs { t.ps with supervising := t.ps.supervising || s.role == .pole }

/-- The station enters MUTE with cause DUPLICATE; a running mute timer is stopped (R134). -/
def State.muteDuplicate (s : State) : State :=
  s.withRsq { s.rsq with mode := .mute, muteCause := .duplicate, muteTimer := none, idleCount := none }

/-- The station enters MUTE with cause TX_ERRORS and starts the mute timer (R135). -/
def State.muteTxErrors (s : State) : State :=
  s.withRsq { s.rsq with mode := .mute, muteCause := .txErrors, muteTimer := Timer.started }

/-- R122: the slot counter after a frame of station `a`, or after a skipped slot `a`. -/
def nextSlot (n a : Nat) : Nat := if n ≤ a + 1 then n else a + 1

/-- R121, R122: the counter moves past slot `a`; the next slot or the round-end interval starts. -/
def State.passSlot (a : Nat) (s : State) : State :=
  let c := nextSlot s.roundLength a
  s.withRsq { s.rsq with slotCounter := c, phase := if c = s.roundLength then .roundEnd else .slot }

/-- R122: the slot counter at the start bit of the frame being completed; a frame of which nothing has been shown begins
in the event that brings it (DESIGN CHOICE, log entry 18: unsafe). -/
def State.slotAtStart (s : State) : Nat := s.li.startSlot.getD s.rsq.slotCounter

/-- R122: a frame whose start bit found the counter out of step is counted. -/
def State.countResync (a : Nat) (s : State) : State :=
  if s.slotAtStart = a then s else s.withRsq { s.rsq with resyncCount := satInc 255 s.rsq.resyncCount }

/-- R118, R122, R133: what a valid STATUS or NOTICE of another station does to the mode and the slot counter. -/
def State.followFrame (a : Fin 16) (s : State) : State :=
  match s.rsq.mode with
  | .config => s
  | .listen => if s.rsq.phase = .window then s.enterRun else s.enterRun.passSlot a.val
  | .run => if s.rsq.phase = .window then s else (s.countResync a.val).passSlot a.val
  | .mute => if s.rsq.phase = .window then s else (s.countResync a.val).passSlot a.val

/-- R122, R134: what a valid frame that bears the own address does to the slot counter. In LISTEN the station times
slots from that frame onward, or the round-end interval where the counter stands at N (R114, R134; DEDUCED, log entry 17:
unsafe). -/
def State.followDuplicate (body : FrameBody) (was : Mode) (s : State) : State :=
  let counted : Bool := match body with | .alarm _ => false | _ => true
  if s.rsq.phase = .window then s
  else if counted then
    if was = .listen then s.passSlot s.own.val else (s.countResync s.own.val).passSlot s.own.val
  else if s.rsq.phase = .untimed then
    s.withRsq { s.rsq with phase := if s.rsq.slotCounter = s.roundLength then .roundEnd else .slot }
  else s

/-- R123: the round count rises, the counter becomes 0 and slot 0 starts; the round computation is made, and a break
hold is cleared (R47, R64; DEDUCED, log entry 10: unsafe). -/
def State.takeRoundEnd (s : State) : State :=
  let t := (s.withRsq
    { s.rsq with slotCounter := 0, roundCount := (s.rsq.roundCount + 1) % 65536, phase := .slot }).caRound
  t.withAlc { t.alc with breakHold := false }

/-- R38 to R41, R6: a notice of sender `a` applied to the station's own records. -/
def State.applyNotice (a : Fin 16) (n : Notice) (s : State) : State :=
  match n with
  | .ack src c => s.ackOne src c
  | .ackAll => s.ackAll
  | .clear c => s.clearFrom a c
  | .clearLost => s.clearLost
  | .command action poles => s.commandPoles action poles

/-! ### Frames composed -/

/-- R106: the state of charge a STORE station states. -/
def State.ownSoc (s : State) : Option Nat := if s.fresh socChannel then some (s.latch socChannel).value else none

/-- R108: the set of ON channels. -/
def State.onSet (s : State) : Byte := bitmap 8 eight s.isOn

/-- R108: the set of requested channels. -/
def State.requestedSet (s : State) : Byte :=
  bitmap 8 eight fun k => s.isOn k || (s.channel k).state == .waiting || (s.channel k).state == .shed

/-- R100: the role data a station states. -/
def State.ownRoleData (s : State) : RoleData :=
  match s.role with
  | .pole => .pole s.ps.lineVoltage (some s.ps.poleP.state) (some s.ps.poleN.state) (some s.ps.band) s.ps.gapFlag
  | .store => .store s.ownOffer s.ownSoc
  | .aux => .aux s.onSet s.requestedSet
  | .traction => .none
  | .desk => .none

/-- R43: the own-cause set. -/
def State.ownCauses (s : State) : Byte := causeSet s.ownListed

/-- R63, R72, R126: what a STATUS states, the values current at the moment of choice. The allowance of 0 that R203 gives the
first STATUS after a reset is what this gives wherever no round end in RUN has raised it before; that R63, R72 and R126
prevail elsewhere is a DESIGN CHOICE (log entry 40: unsafe). -/
def State.statement (s : State) : Stated :=
  { role := some s.role
    cls := s.station.cls
    sequence := s.rsq.statusSequence
    charge := s.ca.ownCharge
    allowance := s.ca.allowance
    drawn := s.drawnCurrent
    shedDepth := s.shedDepth
    lineCondition := some s.ca.lineCondition
    overdrawFlag := s.ca.overdrawFlag
    causes := s.ownCauses
    roleData := s.ownRoleData }

/-- R45: a claim, the causes of the PENDING own entries with the detail of a PENDING SENSOR_LOSS entry. -/
def State.claim (s : State) : AlarmBody :=
  let mine (c : Cause) (e : AlarmEntry) : Bool := e.hasKey (.station s.own) c && e.state == .pending
  { causes := causeSet fun c => s.alarms.any (mine c)
    detail :=
      match s.alarms.find? (mine .sensorLoss) with
      | some e => (match e.detail with | some d => byteOf (detailCode d) | none => 0xFF)
      | none => 0xFF }

/-- R144: the driver is enabled at the start bit of a frame's SYNC, which makes the line dominant (DEDUCED, log entry
32: unsafe). -/
def State.startFrame (b : FrameBody) (s : State) : State :=
  (s.withLi { s.li with driver := .frame, ownFrame := some ⟨frameKind b, frameChars s.own b, 0⟩ }).withPins
    { s.pins with line := .dominant }

/-- R125: the frame chosen in the own slot. -/
def State.ownSlotFrame (s : State) : FrameBody :=
  match s.rsq.queue with
  | n :: _ => if s.rsq.lastOwnSlot = .notice then .status (statusBody s.statement) else .notice (noticeBody n)
  | [] => .status (statusBody s.statement)

/-- R45, R131, R144: the station whose address is the position presents its claim, on a recessive line. That the level of
the line alone decides, whatever frame may be in reception (log entry 44: unsafe), and that no claim starts while an abort
is unjudged (log entry 45: unsafe), are DESIGN CHOICES. -/
def State.presentClaim (position : Fin 16) (s : State) : State :=
  let t := s.withRsq { s.rsq with windowPosition := some position }
  if position = s.own && s.rsq.mode == .run && s.ownPending && s.li.driver == .released && s.pins.line == .recessive &&
      !s.li.abortPending then
    t.startFrame (.alarm s.claim)
  else t

/-- R45: the claimed entries, still PENDING, become ANNOUNCED; `m` is the cause set of the frame. -/
def State.announce (m : Byte) (s : State) : State :=
  s.withAlarms (s.alarms.map fun e =>
    if e.source = .station s.own && e.state = .pending && inCauseSet m e.cause then { e with state := .announced } else e)

/-- R131: a window begins and position 0 with it (DEDUCED, log entry 22: unsafe). -/
def State.beginWindow (s : State) : State :=
  let t := s.withRsq { s.rsq with phase := .window, idleCount := none }
  (t.withAlc { t.alc with windowClaimed := false }).presentClaim 0

/-- R48, R132: the window completes, is judged, and the round-end interval begins with the counter at N. -/
def State.endWindow (s : State) : State :=
  let t := s.withRsq { s.rsq with windowPosition := none, phase := .roundEnd, slotCounter := s.roundLength }
  let u := if s.alc.windowClaimed then t else t.unclaimedWindow
  u.withAlc { u.alc with windowClaimed := false }

/-- A valid ALARM frame received inside a window claims it (R48). -/
def State.claimHeard (s : State) : State :=
  if s.rsq.phase = .window then s.withAlc { s.alc with windowClaimed := true } else s

/-- R135: expiry of the mute timer; the idle count starts unless a break or a window runs (DEDUCED, log entry 20:
unsafe). -/
def State.muteExpired (s : State) : State :=
  if s.rsq.mode = .mute && s.rsq.muteCause = .txErrors && s.rsq.muteTimer.isSome then
    let held := s.rsq.phase = .brk || s.rsq.phase = .window
    let kept := held || (s.rsq.phase = .roundEnd && s.alc.breakHold)
    (s.withRsq
      { s.rsq with
        mode := .listen
        muteCause := .none
        muteTimer := none
        idleCount := if held then none else some 0
        phase := if kept then s.rsq.phase else .untimed }).withLi
      { s.li with txErrors := 0 }
  else s

end Machine
end Sys2Proof
end

