-- ==== Sys2Proof/Machine/Line.lean ====
section
/-!
DEFINITION. The commands of the coordination line: frames received and in error, slots and round ends, own frames, the
echo check, breaks, windows and the stuck line (R117 to R135, R142 to R150). An event that cannot occur in the state it
meets changes nothing (DESIGN CHOICE, log entry 2: safe). The commands bring what the bits of the line have decided (DESIGN
CHOICE, log entry 4: safe); a RECEIVE_ERROR whose run goes on shows the frame in reception and the dominant run as they
stand between two of them (DESIGN CHOICE, log entry 42: safe).
-/

namespace Sys2Proof
namespace Machine

/-- The receiver in a state, with the characters of the frame in reception (R136). -/
def State.taking (r : ReceiverState) (chars : List Byte) (s : State) : State := s.withLi (s.li.taking r chars)

/-- The line interface after a run of characters that ended with the receiver in `r`; the line is recessive. -/
def State.receiverTo (r : ReceiverState) (s : State) : State := (s.taking r []).lineTo .recessive

/-- R138, R147, R150: the line shown dominant for `n` bit times since it was last recessive, recessive where `n` is 0. The
20th bit time of a run comes as a BREAK_DETECTION, the 257th as a STUCK_LINE and the end of either as a BREAK_END. -/
def State.dominantSeen (n : Nat) (s : State) : State :=
  let run := min n (if Figures.breakBits ≤ s.li.dominantRun then Figures.stuckBits - 1 else Figures.breakBits - 1)
  if s.li.stuck then s
  else if s.lineHeld then (s.withLi { s.li with dominantRun := max s.li.dominantRun run }).lineTo .dominant
  else if n = 0 then s.lineTo .recessive
  else (s.withLi { s.li with dominantRun := run }).lineTo .dominant

/-- The line interface once an own frame has completed: the driver is released and the transmit error count falls by 1
(R142, R144, R146; DESIGN CHOICE, log entry 23: unsafe). -/
def State.frameDone (s : State) : State :=
  (s.withLi
    { s.li.taking .idle [] with
      driver := .released, ownFrame := none, txErrors := s.li.txErrors - 1 }).lineTo .recessive

/-- The kind of the own frame on the line. -/
def State.sending (s : State) : Option FrameKind :=
  if s.li.driver = .frame then s.li.ownFrame.map OwnFrame.kind else none

/-- R143: one receive error recorded. -/
def State.countRxError (k : RxErrorKind) (s : State) : State :=
  (s.withLi { s.li with rxErrors := satInc 255 s.li.rxErrors, lastRxError := k }).setTopics { lineErrors := true }

/-- R143: the receiver's state after a receive error, with an unknown header for LENGTH; a line that has fallen idle
returns it to IDLE (R142). -/
def receiverAfter (k : RxErrorKind) (ending : RunEnding) : ReceiverState :=
  if ending = .idle then .idle
  else match k with
    | .framing => .discard
    | .length => .discard
    | _ => .idle

/-! ### Frames received -/

/-- R142: a frame of a sender can be completed: the line is heard, the receiver is not in DISCARD, and the characters it
holds begin the frame. -/
def State.receives (a : Fin 16) (body : FrameBody) (s : State) : Bool :=
  s.hears && s.assembles && s.li.reception.isPrefixOf (frameChars a body)

/-- STATUS_RECEIVED (R36, R118, R122, R127, R158). The mode changes before the contents are applied (DEDUCED,
log entry 9: unsafe). -/
def State.hearStatus (a : Fin 16) (b : StatusBody) (s : State) : State :=
  (((s.followFrame a).receiverTo .idle).fileStatus a b).compareCauses a b.causes

def execStatusReceived (sender : Fin 16) (body : StatusBody) (s : State) : Host.Outcome State Fault Refusal :=
  .next (if s.receives sender (.status body) && sender != s.own then (s.hearStatus sender body).finish s else s)

/-- NOTICE_RECEIVED (R118, R122, R127, R161, R204). A COMMAND whose frame is the one that begins supervision is judged
before the poles are settled by R4 (DEDUCED, log entry 37: unsafe). -/
def State.hearNotice (a : Fin 16) (b : NoticeBody) (s : State) : State :=
  let t := ((s.followFrame a).receiverTo .idle).refreshPeer a
  match readNotice b with
  | some n => t.applyNotice a n
  | none => t

def execNoticeReceived (sender : Fin 16) (body : NoticeBody) (s : State) : Host.Outcome State Fault Refusal :=
  .next (if s.receives sender (.notice body) && sender != s.own then (s.hearNotice sender body).finish s else s)

/-- ALARM_RECEIVED (R35, R48, R124, R127, R162, R204). -/
def State.hearAlarm (a : Fin 16) (b : AlarmBody) (s : State) : State :=
  ((s.receiverTo .idle).restartIdle.claimHeard).learnAlarms a b.causes (detailOfCode b.detail.toNat)

def execAlarmReceived (sender : Fin 16) (body : AlarmBody) (s : State) : Host.Outcome State Fault Refusal :=
  .next (if s.receives sender (.alarm body) && sender != s.own then (s.hearAlarm sender body).finish s else s)

/-- DUPLICATE_ADDRESS (R134). In a station already muted for it the frame ends at the receiver (R142) and changes nothing
more of the rounds (DEDUCED, log entry 12: unsafe); an ALARM frame claims a window in progress whatever its sender (R48;
DEDUCED, log entry 13: unsafe). -/
def State.hearDuplicate (body : FrameBody) (s : State) : State :=
  let t := if s.rsq.muteCause = .duplicate then s else s.muteDuplicate.followDuplicate body s.rsq.mode
  let u := t.receiverTo .idle
  match body with
  | .alarm _ => u.claimHeard
  | _ => u

def execDuplicateAddress (body : FrameBody) (s : State) : Host.Outcome State Fault Refusal :=
  .next (if s.receives s.own body then (s.hearDuplicate body).finish s else s)

/-- The line as a run of characters and its ending leave it; the run's dominant bits restart the idle count (R119). -/
def State.lineAfter (chars : List Byte) (ending : RunEnding) (s : State) : State :=
  match ending with
  | .going n => (if chars.isEmpty then s else s.restartIdle).dominantSeen n
  | _ => (s.lineTo .recessive).restartIdle

/-- RECEIVE_ERROR (R142, R143): the characters join those in reception and the run is judged; one that opens no frame
counts no error, and one that goes on stays in reception. A receiver in DISCARD takes the characters and keeps none:
it counts nothing, and returns to IDLE only as the line falls idle. -/
def State.hearError (chars : List Byte) (ending : RunEnding) (s : State) : State :=
  let t := s.lineAfter chars ending
  let run := s.li.reception ++ chars
  if !s.assembles then t.taking (if ending = .idle then .idle else .discard) []
  else match judgeRun run ending with
    | .error k => (t.taking (receiverAfter k ending) []).countRxError k
    | .noFrame => t.taking (if run.isEmpty || ending = .idle then .idle else .discard) []
    | .going => if run.isEmpty then t else (s.startSeen.taking .frame run).lineAfter chars ending
    | .valid => s

/-- RECEIVE_ERROR; where the line is not heard, a run that goes on shows the length of its dominant run alone, which is
kept in every mode (R136). -/
def execReceiveError (chars : List Byte) (ending : RunEnding) (s : State) : Host.Outcome State Fault Refusal :=
  .next
    (if s.hears then (s.hearError chars ending).finish s
    else match ending with
      | .going n => (s.dominantSeen n).finish s
      | _ => s)

/-- LINE_ACTIVITY_END (R124, R142, R143): the line has fallen idle: a frame in reception ends in GAP, the receiver
returns to IDLE and the interval in progress starts again with the same counter. -/
def execLineActivityEnd (s : State) : Host.Outcome State Fault Refusal :=
  .next (if s.hears then (s.hearError [] .idle).finish s else s)

/-! ### Slots and round ends -/

/-- OWN_SLOT_START (R120, R125, R126, R144): a break wanted comes before any frame; a dominant line or a start bit taken
as the slot's frame leaves the slot unused by the station. The interval of an aborted frame starts again only once the
abort has been judged and the receiver is in IDLE (R124, R142, R146). -/
def State.startOwnSlot (startTaken : Bool) (s : State) : State :=
  if s.breakWanted || s.pins.line = .dominant || startTaken then s else s.startFrame s.ownSlotFrame

def execOwnSlotStart (line : LineLevel) (startTaken : Bool) (s : State) : Host.Outcome State Fault Refusal :=
  let due := s.rsq.mode == .run && s.rsq.phase == .slot && s.rsq.slotCounter == s.own.val && s.li.driver == .released &&
    s.li.receiver == .idle && !s.li.abortPending
  .next (if due then ((s.sense line).startOwnSlot startTaken).finish s else s)

/-- SKIP_INTERVAL (R121, R124). -/
def execSkipInterval (s : State) : Host.Outcome State Fault Refusal :=
  let due := (s.rsq.mode == .run || s.rsq.mode == .mute) && s.rsq.phase == .slot && s.intervalRuns
  .next (if due then (s.passSlot s.rsq.slotCounter).finish s else s)

/-- ROUND_END (R123, R124, R132): in LISTEN the idle count restarts and no slot is timed (R117, R119). An interval that a
start bit or a break has met is not taken. -/
def State.roundEnds (s : State) : State :=
  let t := s.takeRoundEnd
  if s.rsq.mode = .listen then t.withRsq { t.rsq with phase := .untimed, idleCount := some 0 } else t

def execRoundEnd (s : State) : Host.Outcome State Fault Refusal :=
  .next (if s.rsq.mode != .config && s.rsq.phase == .roundEnd && s.intervalRuns then s.roundEnds.finish s else s)

/-- IDLE_COUNT_EXPIRY (R119): at an idle count of 8,192 the station takes a round end and enters RUN; on a line so long
recessive the receiver is in IDLE (R142). -/
def execIdleCountExpiry (s : State) : Host.Outcome State Fault Refusal :=
  .next (if s.idleCountDue then ((s.receiverTo .idle).enterRun.takeRoundEnd).finish s else s)

/-! ### Own frames -/

/-- OWN_STATUS_COMPLETE (R122, R126, R144, R146, R203). -/
def State.ownStatusSent (s : State) : State :=
  let t := s.frameDone.passSlot s.own.val
  t.withRsq
    { t.rsq with lastOwnSlot := .status, statusSequence := (s.rsq.statusSequence + 1) % 256, statusSent := true }

def execOwnStatusComplete (s : State) : Host.Outcome State Fault Refusal :=
  .next (if s.sending = some .status then s.ownStatusSent.finish s else s)

/-- OWN_NOTICE_COMPLETE (R130): the head leaves, a held notice moves up, and the notice is then applied. -/
def State.ownNoticeSent (s : State) : State :=
  let t := s.frameDone.retireHead
  let u := (t.withRsq { t.rsq with lastOwnSlot := .notice }).passSlot s.own.val
  match s.rsq.queue with
  | n :: _ => u.applyNotice s.own n
  | [] => u

def execOwnNoticeComplete (s : State) : Host.Outcome State Fault Refusal :=
  .next (if s.sending = some .notice then s.ownNoticeSent.finish s else s)

/-- OWN_ALARM_COMPLETE (R45, R48, R131). -/
def State.ownAlarmSent (s : State) : State :=
  let causes : Byte := match s.li.ownFrame with | some f => f.chars.getD 2 0 | none => 0
  (s.frameDone.announce causes).claimHeard

def execOwnAlarmComplete (s : State) : Host.Outcome State Fault Refusal :=
  .next (if s.sending = some .alarm then s.ownAlarmSent.finish s else s)

/-- ECHO_MISMATCH (R142, R145): the character read back is compared bit by bit with the one sent. At a difference the
station stops sending and holds an abort judgement; a character that agrees is followed by the next. The line stands as
the character's last bits leave it (R138; DEDUCED, log entry 32: unsafe), so a break that waits for a recessive bit comes at a
recessive stop bit (R44). -/
def State.compareEcho (index : Nat) (readBack : BitVec 10) (s : State) : State :=
  match s.li.ownFrame with
  | none => s
  | some f =>
    match f.chars[index]? with
    | none => s
    | some c =>
      let t := s.withLi
        (if charBits c = readBack then { s.li with ownFrame := some { f with sent := index + 1 } }
        else { s.li.taking .discard [] with driver := .released, ownFrame := none, abortPending := true })
      t.dominantSeen (dominantAfter readBack)

def execEchoMismatch (index : Nat) (readBack : BitVec 10) (s : State) : Host.Outcome State Fault Refusal :=
  .next (if s.li.driver = .frame then (s.compareEcho index readBack).finish s else s)

/-- ABORT_JUDGED_ERROR (R135, R146): the transmit error count rises; at 8 in RUN the station is muted. A station that
drives the line holds no abort judgement (R116). -/
def State.judgeAbort (s : State) : State :=
  let n := satInc Figures.txErrorLimit s.li.txErrors
  let t := ((s.withLi { s.li with abortPending := false, txErrors := n }).lineTo .recessive).setTopics { lineErrors := true }
  if n = Figures.txErrorLimit && s.rsq.mode == .run then t.muteTxErrors else t

def execAbortJudgedError (s : State) : Host.Outcome State Fault Refusal :=
  .next (if s.li.abortPending && s.hears then s.judgeAbort.finish s else s)

/-! ### Breaks and windows -/

/-- BREAK_ASSERT (R44, R148): the line goes recessive and the break condition is examined, as at the end of every event.
-/
def execBreakAssert (s : State) : Host.Outcome State Fault Refusal :=
  .next ((s.sense .recessive).finish s)

/-- BREAK_RELEASE (R148). -/
def execBreakRelease (s : State) : Host.Outcome State Fault Refusal :=
  .next (if s.li.driver = .brk then (s.withLi { s.li with driver := .released }).finish s else s)

/-- R124, R133, R143, R146, R147, R149: what a break detection abandons and cuts in LISTEN, RUN and MUTE; a receiver in
DISCARD held no frame and counts nothing. -/
def State.breakFound (receiving : List Byte) (s : State) : State :=
  let cut := (s.li.reception ++ receiving).head? == some Figures.sync && s.li.driver != .frame && s.assembles
  let t := s.withLi
    { s.li.taking .idle [] with
      driver := if s.li.driver = .frame then .released else s.li.driver
      ownFrame := none, abortPending := false }
  let u := t.withRsq { t.rsq with phase := .brk, windowPosition := none, idleCount := none }
  let v := u.withAlc { u.alc with breakHold := true }
  if cut then v.countRxError .length else v

/-- The line dominant for `n` bit times (R138, R147, R150). -/
def State.dominantFor (n : Nat) (s : State) : State :=
  (s.withLi { s.li with dominantRun := n }).lineTo .dominant

/-- BREAK_DETECTION (R147): in CONFIG the count is kept and nothing is reported (R136). -/
def State.detectBreak (receiving : List Byte) (s : State) : State :=
  let t := s.dominantFor Figures.breakBits
  if s.rsq.mode = .config then t else t.breakFound receiving

def execBreakDetection (receiving : List Byte) (s : State) : Host.Outcome State Fault Refusal :=
  .next (if s.li.dominantRun < Figures.breakBits then (s.detectBreak receiving).finish s else s)

/-- BREAK_END (R131, R147, R150): the line goes recessive, and outside CONFIG a window begins; a break of the station's
own has ended (DEDUCED, log entry 24: safe). A run whose count was restarted ends as a break by this command, below 20 bit
times too, and as no break by a recessive level (R138, R147; DESIGN CHOICE, log entry 43: unsafe). -/
def State.endBreak (s : State) : State :=
  let t := (s.withLi
    { s.li with stuck := false, driver := if s.li.driver = .brk then .released else s.li.driver }).lineTo .recessive
  if s.rsq.mode = .config then t else t.beginWindow

def execBreakEnd (s : State) : Host.Outcome State Fault Refusal :=
  .next
    (if Figures.breakBits ≤ s.li.dominantRun || s.li.stuck || s.li.restarted then s.endBreak.finish s else s)

/-- CLAIM_POSITION_START (R45, R131): positions come in rising order. -/
def execClaimPositionStart (position : Fin 16) (line : LineLevel) (s : State) : Host.Outcome State Fault Refusal :=
  let due := s.rsq.mode != .config && s.rsq.phase == .window &&
    (match s.rsq.windowPosition with | some p => p < position | none => true)
  .next (if due then ((s.sense line).presentClaim position).finish s else s)

/-- WINDOW_COMPLETE (R44, R48, R132): a PENDING own entry asserts a new break at once, if the line, as last shown, is
recessive, and otherwise as it goes recessive. -/
def execWindowComplete (s : State) : Host.Outcome State Fault Refusal :=
  .next (if s.rsq.mode != .config && s.rsq.phase == .window then s.endWindow.finish s else s)

/-- STUCK_LINE (R150): in every mode, CONFIG included, a run that has reached 20 bit times passes 256. -/
def State.stickLine (s : State) : State :=
  let t := s.dominantFor Figures.stuckBits
  t.withLi { t.li with stuck := true }

def execStuckLine (s : State) : Host.Outcome State Fault Refusal :=
  .next (if Figures.breakBits ≤ s.li.dominantRun then s.stickLine.finish s else s)

end Machine
end Sys2Proof
end

