-- ==== Sys2Proof/Machine/Inputs.lean ====
section
/-!
DEFINITION. The commands of the Input/Output Unit: input samples and debounced changes with what each function delivers
(R34, R109 to R111, R170 to R173), sample words and the staleness of latches (R177 to R180).
-/

namespace Sys2Proof
namespace Machine

/-- The state with an input's record replaced. -/
def State.withInput (i : Fin 16) (x : Input) (s : State) : State :=
  s.withIou { s.iou with inputs := setCell s.iou.inputs i x }

/-- A level as a debounced value. -/
def levelOf (active : Bool) : Debounced := if active then .active else .inactive

/-- The contact at an input pin, kept as bit `i` of the map of contacts. -/
def State.contact (i : Fin 16) (active : Bool) (s : State) : State :=
  s.withPins { s.pins with contacts := if active then addBit s.pins.contacts i.val else dropBit s.pins.contacts i.val }

/-- R170: the record of an input after a sample, before it settles. -/
def Input.sampled (active : Bool) (x : Input) : Input :=
  if x.lastRaw = active then { x with run := satInc 15 x.run } else { x with lastRaw := active, run := 1 }

/-- R170: the run has reached the debounce count and the debounced value differs from the last raw sample. -/
def Input.settles (debounce : Nat) (x : Input) : Bool := decide (debounce ≤ x.run) && x.value != levelOf x.lastRaw

/-- What an input of a function delivers when its debounced value has changed from `before` to `active` (R171); the new
value already stands in the input's record. -/
def State.deliver (i : Fin 16) (before : Debounced) (active : Bool) (stopsBefore : Nat) (s : State) : State :=
  let rising := before == .inactive && active
  match s.inputFn i with
  | .general => s
  | .stowed x =>
    if s.role = .pole && s.ps.supervising && s.stowedInput x == some i then s.stowedChange x before (levelOf active) else s
  | .ackButton => if rising then s.placeInternal .ackAll else s
  | .stopButton => if stopsBefore = 0 && s.activeStops != 0 then s.raiseOwn .deskStop none else s
  | .raiseButton => if rising then (s.placeInternal (.command .raise .both)).commandPoles .raise .both else s
  | .lowerButton => if rising then (s.placeInternal (.command .lower .both)).commandPoles .lower .both else s
  | .channelReq k => s.channelInput k rising

/-- R172, R173: a debounced change: the value, the change set and the INPUTS topic in every mode; from JOIN onward the
function's owner takes it. -/
def State.changeInput (i : Fin 16) (active : Bool) (s : State) : State :=
  let x := cell s.iou.inputs i
  let t := s.withInput i { x with value := levelOf active }
  let u := (t.withIou { t.iou with changeSet := addBit t.iou.changeSet i.val }).setTopics { inputs := true }
  if s.rsq.mode = .config then u else u.deliver i x.value active s.activeStops

/-- R170: the last sample of an input settled it at a level that its debounced value has still to take, by the debounce
count as it stands. -/
def State.changeDue (i : Fin 16) (active : Bool) (s : State) : Bool :=
  let x := cell s.iou.inputs i
  s.iou.settling.getLsbD i.val && x.lastRaw == active && x.settles s.cfs.settings.inputs.debounce

/-- The sample that settled an input is used up. -/
def State.settled (i : Fin 16) (s : State) : State := s.withIou { s.iou with settling := dropBit s.iou.settling i.val }

/-- DEBOUNCED_CHANGE (R170 to R173): the input's sample of the millisecond made its run of equal samples reach the
debounce count at a level that differs from its debounced value. No other moment settles an input (DESIGN CHOICE, log
entry 41: unsafe). -/
def execDebouncedChange (input : Fin 16) (active : Bool) (line : LineLevel) (s : State) :
    Host.Outcome State Fault Refusal :=
  .next (if s.changeDue input active then (((s.sense line).settled input).changeInput input active).finish s else s)

/-- R170: one sample of one input: the last raw sample and the run; a run that reaches the debounce count settles the
input in the same event. -/
def State.takeSample (i : Fin 16) (active : Bool) (s : State) : State :=
  let x := (cell s.iou.inputs i).sampled active
  let t := (s.settled i).withInput i x
  if x.settles s.cfs.settings.inputs.debounce then t.changeInput i active else t

/-- R170: a sample whose level differs from the last raw sample is the input's sample of this millisecond. One that
repeats the level leaves the counting of equal samples to the millisecond, and an input already sampled in the
millisecond is not sampled again: either shows the contact, which the next millisecond samples (DESIGN CHOICE, log
entry 41: unsafe). -/
def State.sampleInput (i : Fin 16) (active : Bool) (s : State) : State :=
  let t := s.contact i active
  if (cell s.iou.inputs i).lastRaw = active || s.iou.sampled.getLsbD i.val then t
  else (t.withIou { t.iou with sampled := addBit t.iou.sampled i.val }).takeSample i active

/-- INPUT_SAMPLE (R170). -/
def execInputSample (input : Fin 16) (active : Bool) (s : State) : Host.Outcome State Fault Refusal :=
  .next ((s.sampleInput input active).finish s)

/-! ### Samples -/

/-- The state with a sample latch replaced. -/
def State.withLatch (c : Fin 8) (x : Latch) (s : State) : State :=
  s.withIou { s.iou with latches := setCell s.iou.latches c x }

/-- R178: an arrival at a latch, clamped to the channel's maximum. -/
def State.latchArrival (c : Fin 8) (v : Nat) (s : State) : State :=
  s.withLatch c { value := min (channelMax c) v, age := 0, stale := false }

/-- R180: the consumers of an arrival in a POLE station from JOIN onward; elevations and currents are judged once
supervision has begun (R1). The Current Apportioner takes DRAWN and BATT_AVAIL at the end of the event. -/
def State.poleArrival (c : Fin 8) (s : State) : State :=
  let v := (s.latch c).value
  if s.rsq.mode = .config || s.role ≠ .pole then s
  else match c with
    | 4 => s.lineArrival v
    | 0 => if s.ps.supervising then s.elevArrival .p v else s
    | 1 => if s.ps.supervising then s.elevArrival .n v else s
    | 2 => if s.ps.supervising then (s.examineQuiet .p).examineQuiet .n else s
    | 3 => if s.ps.supervising then (s.examineQuiet .p).examineQuiet .n else s
    | _ => s

/-- SAMPLE_WORD (R177, R178, R180). -/
def State.takeWord (w : Half) (s : State) : State := (s.latchArrival (wordChannel w) (wordValue w)).poleArrival (wordChannel w)

def execSampleWord (word : Half) (line : LineLevel) (s : State) : Host.Outcome State Fault Refusal :=
  .next (((s.sense line).takeWord word).finish s)

/-- SAMPLE_WORD_DISCARDED (R177): exactly 16 bits would have been a word. -/
def execSampleWordDiscarded (bits : Nat) (s : State) : Host.Outcome State Fault Refusal :=
  .next (if bits = 16 then s else s.withIou { s.iou with sampleErrors := satInc 255 s.iou.sampleErrors })

/-- R179: a fresh latch whose age stands at sample_timeout or above. -/
def State.latchDue (c : Fin 8) (s : State) : Bool :=
  s.fresh c && decide (s.poleCfg.sampleTimeout ≤ (s.latch c).age)

/-- R20, R24, R179: a latch becomes stale, and in a POLE station under supervision its poles are held; a latch whose age
an arrival has set back to 0 stays fresh. -/
def State.latchExpires (c : Fin 8) (s : State) : State :=
  if s.latchDue c then
    let t := s.withLatch c { s.latch c with stale := true }
    if t.rsq.mode != .config && t.role == .pole && t.ps.supervising then t.poleStale c else t
  else s

/-- LATCH_STALE (R179): the channels of the map whose ages have reached sample_timeout become stale in one event (DESIGN
CHOICE, log entry 26: safe). -/
def execLatchStale (channels : Byte) (line : LineLevel) (s : State) : Host.Outcome State Fault Refusal :=
  .next
    ((eight.foldl (fun s c => if channels.getLsbD c.val then s.latchExpires c else s) (s.sense line)).finish s)

end Machine
end Sys2Proof
end

