-- ==== Sys2Proof/Machine/Settings.lean ====
section
/-!
DEFINITION. The Configuration Store's operations: writing a record, the checks of JOIN and what JOIN starts, and the
three resets (R2, R31, R52, R75, R115, R137, R154, R169, R182, R196 to R203).
-/

namespace Sys2Proof
namespace Machine

/-! ### Writing the configuration (R198, R199) -/

/-- R175, R199: a changed output function leaves no GENERAL value behind. -/
def dropGeneral (before after : OutputSettings) (general : Half) : Half :=
  bitmap 16 sixteen fun o => general.getLsbD o.val && decide (cell before.fn o = cell after.fn o)

/-- R76, R199: the channel of a written CHANNEL record. -/
def rewriteChannel (record : Nat) (s : State) : State :=
  if 7 ≤ record then
    let k : Fin 8 := ⟨(record - 7) % 8, Nat.mod_lt _ (by decide)⟩
    s.withChannel k (freshChannel (s.rating k))
  else s

/-- R179, R199: every latch is judged against the sample_timeout now held. -/
def State.judgeLatches (s : State) : State :=
  s.withIou
    { s.iou with
      latches := mapCells (fun x => if s.poleCfg.sampleTimeout ≤ x.age then { x with stale := true } else x) s.iou.latches }

/-- R138: the dominant-run count restarts; a break in progress is still one. -/
def State.restartRun (s : State) : State :=
  s.withLi
    { s.li with
      dominantRun := 0
      restarted :=
        s.li.restarted ||
          (s.pins.line == .dominant && (decide (Figures.breakBits ≤ s.li.dominantRun) || s.li.stuck)) }

/-- R198, R199: a record replaced whole, the config-valid flag cleared, and the effects in CONFIG. -/
def State.writeConfig (record : Nat) (vs : List Nat) (s : State) : State :=
  let c := writeRecord record vs s.cfs.settings
  let t := s.withCfs { s.cfs with settings := c, valid := false }
  let u := if s.station.bitRate = c.station.bitRate then t else t.restartRun
  let v := if s.poleCfg.sampleTimeout = c.pole.sampleTimeout then u else u.judgeLatches
  let w := v.withIou { v.iou with general := dropGeneral s.cfs.settings.outputs c.outputs v.iou.general }
  rewriteChannel record w

/-! ### JOIN (R200, R201) -/

/-- R200: check 5, over the inputs of function CHANNEL_REQ. -/
def bindingsHold (c : Settings) : Bool :=
  sixteen.all fun i =>
    match cell c.inputs.fn i with
    | .channelReq k => (cell c.channels k).source != .link && (cell c.channels k).rating != 0
    | _ => true

/-- R200: check 6, over the outputs of function CHANNEL. -/
def outputsDistinct (c : Settings) : Bool :=
  eight.all fun k => (sixteen.filter fun o => cell c.outputs.fn o == .channel k).length ≤ 1

/-- R200: the checks of JOIN in their order. -/
def joinChecks (c : Settings) : List Bool :=
  [ decide (c.station.address.val < c.station.roundLength),
    decide (c.station.staleMs < c.station.lostMs),
    decide (c.apportion.vFloor + 50 ≤ c.apportion.vKnee),
    c.station.role != .pole ||
      (decide (c.pole.contactLo + 20 ≤ c.pole.contactHi) && decide (c.pole.tGap + c.pole.hyst + 10 ≤ c.pole.tLow)),
    bindingsHold c,
    outputsDistinct c ]

/-- The number, from 1, of the first check that fails. -/
def firstFailed (l : List Bool) : Option Nat := (l.findIdx? (· == false)).map (· + 1)

/-- R201: a successful JOIN and what each block begins in its event; `finish` makes the first computation. -/
def State.join (s : State) : State :=
  let a := s.withCfs { s.cfs with valid := true }
  let b := a.withRsq { a.rsq with mode := .listen, idleCount := some 0 }
  let c := b.withLi (b.li.taking .discard [])
  let d := if c.activeStops = 0 then c else c.raiseOwn .deskStop none
  let e := d.requestLevels
  e.withLl { e.ll with restoreTimer := Timer.started }

/-! ### Resets (R202) -/

/-- Every block at its value after a reset, over configuration `c` and a link rate; the waiting commands and the levels
at the pins are the outside world's and stay, with the line driver released. -/
def State.restarted (c : ConfigStore) (lrateHigh : Bool) (s : State) : State :=
  { pending := s.pending
    cfs := c
    ll := { channels := mapCells (fun k : ChannelSettings => freshChannel k.rating) c.settings.channels }
    sl := { rateHigh := lrateHigh }
    pins := { s.pins with lrateHigh := lrateHigh, line := .recessive } }

/-- R183, R202: a link reset, with cause LINK; the LRATE strap is read at the reset, as it stands at its pin. -/
def State.linkReset (s : State) : State := s.restarted { s.cfs with resetCause := .link } s.pins.lrateHigh

/-- POWER_ON_RESET (R196, R202), held time and all in one command (DESIGN CHOICE, log entry 7: safe). -/
def execPowerOnReset (lrateHigh : Bool) (s : State) : Host.Outcome State Fault Refusal := .next (s.restarted {} lrateHigh)

/-- PIN_RESET (R196, R202): one that begins while a power-on reset is held leaves the cause as that reset makes it. -/
def execPinReset (lrateHigh inPowerOn : Bool) (s : State) : Host.Outcome State Fault Refusal :=
  .next (if inPowerOn then s.restarted {} lrateHigh else s.restarted { s.cfs with resetCause := .pin } lrateHigh)

end Machine
end Sys2Proof
end

