-- ==== Sys2Proof/Machine/Replies.lean ====
section
/-!
DEFINITION. The readable records as bytes (12.5) and the data of each REPLY (12.4, R192).
-/

namespace Sys2Proof
namespace Machine

def modeCode : Mode → Nat
  | .config => 0
  | .listen => 1
  | .run => 2
  | .mute => 3

def muteCauseCode : MuteCause → Nat
  | .none => 0
  | .duplicate => 1
  | .txErrors => 2

def ownSlotCode : OwnSlotKind → Nat
  | .none => 0
  | .status => 1
  | .notice => 2

def rxErrorCode : RxErrorKind → Nat
  | .none => 0
  | .framing => 1
  | .gap => 2
  | .crc => 3
  | .length => 4

def resetCauseCode : ResetCause → Nat
  | .power => 1
  | .pin => 2
  | .link => 3

def peerStateCode : PeerState → Nat
  | .absent => 0
  | .fresh => 1
  | .stale => 2
  | .lost => 3

def outcomeCode : CommandOutcome → Nat
  | .none => 0
  | .accepted => 1
  | .ignoredState => 2
  | .ignoredAlarm => 3
  | .raiseFailed => 4
  | .lowerFailed => 5

def channelStateCode : ChannelState → Nat
  | .off => 0
  | .waiting => 1
  | .on => 2
  | .shed => 3
  | .held => 4
  | .unused => 5

def shedCauseCode : ShedCause → Nat
  | .none => 0
  | .allowance => 1
  | .line => 2
  | .overdraw => 3
  | .request => 4

def learnedByCode : LearnedBy → Nat
  | .localRaise => 0
  | .alarmFrame => 1
  | .status => 2

def alarmStateCode : AlarmState → Nat
  | .pending => 0
  | .announced => 1
  | .acknowledged => 2

/-- The station record (12.5), bytes 0 to 34. -/
def stationRecord (s : State) : List Byte :=
  [byteOf (modeCode s.rsq.mode), byteOf (muteCauseCode s.rsq.muteCause), byteOf s.rsq.slotCounter] ++
    twoBytes s.rsq.roundCount ++
    [byteOf s.rsq.resyncCount, byteOf (ownSlotCode s.rsq.lastOwnSlot), byteOf s.rsq.statusSequence,
      byteOf s.rsq.queue.length, (match s.rsq.queue with | n :: _ => noticeKind n | [] => 0),
      (match s.rsq.windowPosition with | some p => byteOf p.val | none => 0xFF),
      byteOf s.li.rxErrors, byteOf (rxErrorCode s.li.lastRxError), byteOf s.li.txErrors] ++
    twoBytes s.ca.demand ++ twoBytes s.ca.ownCharge ++ [byteOf (lineConditionCode s.ca.lineCondition)] ++
    (match s.ca.poleVoltage with | some v => twoBytes v | none => [0xFF, 0xFF]) ++
    twoBytes s.ca.budget ++ twoBytes s.ca.share ++ twoBytes s.ca.allowance ++ twoBytes s.ca.grant ++
    [byteOf s.shedDepth, byteOf s.own.val, byteOf (roleCode s.role), byteOf s.station.cls.val,
      byteOf (resetCauseCode s.cfs.resetCause),
      flagBit 0 s.li.stuck ||| flagBit 1 s.ca.overdrawFlag ||| flagBit 2 s.alc.unlisted ||| flagBit 3 s.alc.breakHold |||
        flagBit 4 s.rsq.holding.isSome ||| flagBit 5 s.cfs.valid]

/-- A peer record (12.5); an ABSENT record carries FF in its fourteen stated bytes. -/
def peerRecord (a : Fin 16) (r : Peer) : List Byte :=
  [byteOf a.val, byteOf (peerStateCode r.state)] ++ twoBytes r.age ++ [byteOf r.sequenceGaps, flagByte r.roleChanged] ++
    (match r.state, r.stated with
      | .absent, _ => List.replicate 14 0xFF
      | _, none => List.replicate 14 0xFF
      | _, some t => bodyBytes (.status (statusBody t)))

/-- The five bytes of an alarm entry (12.5). -/
def alarmRecord (e : AlarmEntry) : List Byte :=
  [(byteOf (causeCode e.cause) <<< 5) ||| byteOf (sourceCode e.source),
    (byteOf (learnedByCode e.learnedBy) <<< 6) ||| (byteOf (alarmStateCode e.state) <<< 4) |||
      (match e.detail with | some d => byteOf (detailCode d) | none => 15)] ++
    twoBytes e.age ++ [byteOf e.repeats]

/-- The entries READ_ALARMS returns from an index (R192). -/
def alarmPage (index : Nat) (l : List AlarmEntry) : List AlarmEntry := (l.drop index).take Figures.readAlarmsMax

/-- The READ_ALARMS record (12.5). -/
def alarmsRecord (index : Nat) (s : State) : List Byte :=
  let page := alarmPage index s.alarms
  [byteOf s.alarms.length, flagByte s.alc.unlisted, byteOf page.length] ++ (page.map alarmRecord).flatten

/-- The seven bytes of a pole record (12.5). -/
def poleRecord (r : Pole) : List Byte :=
  [byteOf (poleStateCode r.state)] ++ twoBytes r.elevation ++
    [byteOf r.bounces, byteOf r.drops, byteOf (outcomeCode r.outcome), flagByte r.qualified]

/-- The READ_POLES record (12.5). -/
def polesRecord (s : State) : List Byte :=
  poleRecord s.ps.poleP ++ poleRecord s.ps.poleN ++ [byteOf (bandCode s.ps.band)] ++ twoBytes s.ps.lineVoltage ++
    [flagByte s.ps.gapFlag]

/-- The three bytes of a channel record (12.5). -/
def channelRecord (k : Fin 8) (s : State) : List Byte :=
  let c := s.channel k
  let g := s.channelCfg k
  [byteOf g.rating,
    (byteOf (requestSourceCode g.source) <<< 6) ||| flagBit 5 g.batteryFed ||| flagBit 4 c.masked ||| flagBit 3 c.requested |||
      byteOf (channelStateCode c.state),
    byteOf (shedCauseCode c.shedCause)]

/-- The READ_CHANNELS record (12.5). -/
def channelsRecord (s : State) : List Byte :=
  (eight.map fun k => channelRecord k s).flatten ++ [byteOf s.ll.lowest.val]

/-- The READ_IO record (12.5). -/
def ioRecord (s : State) : List Byte :=
  halfBytes (bitmap 16 sixteen fun i => (cell s.iou.inputs i).value != .unknown) ++
    halfBytes (bitmap 16 sixteen s.inputActive) ++ halfBytes s.iou.changeSet ++ halfBytes s.iou.outputs ++
    (eight.map fun c => twoBytes (s.latch c).value ++ twoBytes (s.latch c).age).flatten ++
    [bitmap 8 eight (fun c => (s.latch c).stale), byteOf s.iou.sampleErrors]

/-- A configuration record as a REPLY carries it: its number and its items, two bytes each (12.4). -/
def configRecord (record : Byte) (s : State) : List Byte :=
  record :: ((recordItems record.toNat s.cfs.settings).map twoBytes).flatten

/-- R194: the topics READ_CHANGES returns. -/
def State.returnedTopics (s : State) : Topics := s.sl.summary.inter s.sl.mask

/-- The outcome byte of a POLE_COMMAND's REPLY, FF for a pole not named (12.4). -/
def outcomeByte (named : Bool) (r : Pole) : Byte := if named then byteOf (outcomeCode r.outcome) else 0xFF

/-- The data of the REPLY to a request, after its TYPE byte: `before` is the state in which it is taken, `after` the
state its effect leaves (R188, 12.4). -/
def replyData (r : Request) (before after : State) : List Byte :=
  match r with
  | .configWrite record _ => configRecord record after
  | .join => [byteOf (modeCode after.rsq.mode)]
  | .reset => []
  | .readStation => stationRecord before
  | .readPeer a => peerRecord ⟨a.toNat % 16, Nat.mod_lt _ (by decide)⟩ (cell before.pt ⟨a.toNat % 16, Nat.mod_lt _ (by decide)⟩)
  | .readAlarms i => alarmsRecord i.toNat before
  | .readPoles => polesRecord before
  | .readChannels => channelsRecord before
  | .readIo => ioRecord before
  | .readChanges => [topicByte before.returnedTopics]
  | .setAttnMask _ => [topicByte after.sl.mask]
  | .setOutput o _ => [o, flagByte (after.iou.outputs.getLsbD o.toNat)]
  | .setDemand _ => twoBytes after.ca.demand
  | .setChannel k _ => k :: channelRecord ⟨k.toNat % 8, Nat.mod_lt _ (by decide)⟩ after ++ [byteOf after.ll.lowest.val]
  | .sendNotice n => [flagByte (before.noticeWaiting n)]
  | .poleCommand _ ps =>
    [outcomeByte (ps != .n) (after.pole .p), outcomeByte (ps != .p) (after.pole .n)]

end Machine
end Sys2Proof
end

