-- ==== Sys2Proof/Machine/Requests.lean ====
section
/-!
DEFINITION. The requests of the station link: the tests of R189, the effect of each request (R190 to R195) and the
taking of one with its answer (R188).
-/

namespace Sys2Proof
namespace Machine

/-- The modes in which a request is taken (R190). -/
def modeOk (r : Request) (m : Mode) : Bool :=
  match r with
  | .configWrite _ _ => m == .config
  | .join => m == .config
  | .setDemand _ => m != .config
  | .setChannel _ _ => m != .config
  | .sendNotice _ => m != .config
  | .poleCommand _ _ => m != .config
  | _ => true

/-- The roles that take a request (R112, R113). -/
def roleOk (r : Request) (role : Role) : Bool :=
  match r with
  | .readPoles => role == .pole
  | .poleCommand _ _ => role == .pole
  | _ => true

/-- The byte names a channel that the action may name (R98). -/
def State.channelNamed (k : Byte) (a : ChannelAction) (s : State) : Bool :=
  if h : k.toNat < 8 then a == .setLowest || (s.channel ⟨k.toNat, h⟩).state != .unused else false

/-- The byte names an output of function GENERAL (R175). -/
def State.outputNamed (o : Byte) (s : State) : Bool :=
  if h : o.toNat < 16 then s.outputFn ⟨o.toNat, h⟩ == .general else false

/-- Test 6 of R189: the object a request names exists and may be named. -/
def State.namesObject (r : Request) (s : State) : Bool :=
  match r with
  | .configWrite record _ => decide (record.toNat < recordCount)
  | .readPeer a => decide (a.toNat < 16) && a.toNat != s.own.val
  | .readAlarms i => decide (i.toNat < Figures.alarmCapacity)
  | .setOutput o _ => s.outputNamed o
  | .setChannel k a => s.channelNamed k a
  | _ => true

/-- Test 7 of R189: what keeps the effect of a request from being made, with the item number. -/
def State.obstacle (r : Request) (s : State) : Option (RefusalCode × Nat) :=
  match r with
  | .configWrite record items =>
    (firstBad 1 (itemTests record.toNat) (items.map BitVec.toNat)).map fun n => (.configInvalid, n)
  | .join => (firstFailed (joinChecks s.cfs.settings)).map fun n => (.configInvalid, n)
  | .sendNotice n => if s.noticeWaiting n || s.queueRoom then none else some (.queueFull, 0)
  | _ => none

/-- Tests 3 to 7 of R189 on a request given by its operands: the first that fails gives the refusal. -/
def State.judge (r : Request) (s : State) : Option (RefusalCode × Nat) :=
  if !formOk r then some (.badForm, 0)
  else if !modeOk r s.rsq.mode then some (.wrongMode, 0)
  else if !roleOk r s.role then some (.wrongRole, 0)
  else if !s.namesObject r then some (.noSuch, 0)
  else s.obstacle r

/-- R77 to R89: the action of a SET_CHANNEL. -/
def State.channelAction (k : Fin 8) (a : ChannelAction) (s : State) : State :=
  match a with
  | .request => s.requestChannel k
  | .release => s.releaseChannel k
  | .mask => s.onChannel k Channel.mask
  | .unmask => s.onChannel k Channel.unmask
  | .shed => s.onChannel k Channel.shedOnRequest
  | .setLowest => s.withLl { s.ll with lowest := k }

/-- R166: READ_PEER clears the role-changed flag of the record it returns. -/
def State.clearRoleChanged (a : Fin 16) (s : State) : State := s.withPeer a { s.peer a with roleChanged := false }

/-- R194: READ_CHANGES clears exactly the topics it returns. -/
def State.clearReturned (s : State) : State :=
  (s.withSl { s.sl with summary := s.sl.summary.without s.returnedTopics }).refreshAttn

/-- R195: SET_ATTN_MASK. -/
def State.setMask (m : Byte) (s : State) : State := (s.withSl { s.sl with mask := topicsOf m }).refreshAttn

/-- R175: SET_OUTPUT. -/
def State.setGeneral (o : Nat) (on : Bool) (s : State) : State :=
  (s.withIou { s.iou with general := if on then addBit s.iou.general o else dropBit s.iou.general o }).driveOutputs

/-- The effect of a request that is taken, the end of its event included (R188, R190). -/
def State.effect (r : Request) (s : State) : State :=
  match r with
  | .configWrite record items =>
    if items.isEmpty then s else (s.writeConfig record.toNat (items.map BitVec.toNat)).finish s
  | .join => s.join.finish s
  | .reset => s.linkReset
  | .readStation => s
  | .readPeer a => s.clearRoleChanged ⟨a.toNat % 16, Nat.mod_lt _ (by decide)⟩
  | .readAlarms _ => s
  | .readPoles => s
  | .readChannels => s
  | .readIo => s.withIou { s.iou with changeSet := 0 }
  | .readChanges => s.clearReturned
  | .setAttnMask m => s.setMask m
  | .setOutput o on => s.setGeneral o.toNat on
  | .setDemand a => (s.takeDemand a.toNat).finish s
  | .setChannel k a =>
    (s.channelAction ⟨k.toNat % 8, Nat.mod_lt _ (by decide)⟩ a).finishBut (some ⟨k.toNat % 8, Nat.mod_lt _ (by decide)⟩) s
  | .sendNotice n => if s.noticeWaiting n then s else s.enqueueNotice n
  | .poleCommand a ps => (s.commandPoles a ps).finish s

/-- R188: an answer placed at the tail of the transmit FIFO; the request buffer is emptied and the assembler hunts. -/
def State.answer (message : List Byte) (s : State) : State :=
  s.withSl { s.sl with tx := s.sl.tx ++ message, assembler := .hunting, buffer := [], damaged := false }

/-- R188, R189: a request taken: refused, or applied and answered; a RESET is not answered (R191). -/
def State.takeRequest (r : Request) (s : State) : State :=
  match s.judge r with
  | some (code, itemNumber) => s.answer (refusedMessage code (some (requestType r)) itemNumber)
  | none =>
    match r with
    | .reset => s.effect .reset
    | r => (s.effect r).answer (replyMessage (requestType r) (replyData r s (s.effect r)))

/-- Tests 1 to 3 of R189 on the message in the request buffer, and the taking of the request it names (R188). -/
def State.takeBuffer (s : State) : State :=
  let refuse (code : RefusalCode) (type : Option Byte) : State := s.answer (refusedMessage code type 0)
  if s.sl.damaged then refuse .badForm (s.sl.buffer[2]?)
  else match s.sl.buffer with
    | _ :: _ :: type :: rest =>
      if linkCheck type rest.dropLast = rest.getLastD 0 then
        match parseRequest type rest.dropLast with
        | .ok r => s.takeRequest r
        | .error code => refuse code (some type)
      else refuse .badForm (some type)
    | _ => refuse .badForm none

end Machine
end Sys2Proof
end

