-- ==== Sys2Proof/Machine/Link.lean ====
section
/-!
DEFINITION. The commands of the station link: bytes received and sent with their FIFOs and flow control (R182 to R187),
and one command for each request, which brings the request's whole message to the part (DESIGN CHOICE, log entry 8:
safe).
-/

namespace Sys2Proof
namespace Machine

/-- The bytes in a list of FIFO items; marks take no byte place (R183). -/
def rxBytes (l : List RxItem) : Nat := (l.filter fun i => match i with | .byte _ => true | _ => false).length

/-- The tail of the receive FIFO is the given mark. -/
def tailIs (m : RxItem) (l : List RxItem) : Bool := l.getLast? == some m

/-- R183, R184: a mark placed at the tail, unless the tail already holds it. -/
def State.placeMark (m : RxItem) (s : State) : State :=
  if tailIs m s.sl.rx then s else s.withSl { s.sl with rx := s.sl.rx ++ [m] }

/-- R183 to R185: a byte that ends on SRX is stored, or dropped with a loss mark; the idle timer restarts. -/
def State.storeByte (b : Byte) (stopOk : Bool) (s : State) : State :=
  let t := s.withSl { s.sl with idleTimer := Timer.started }
  if stopOk && decide (rxBytes s.sl.rx < Figures.rxCapacity) then
    t.withSl
      { t.sl with
        rx := t.sl.rx ++ [.byte b]
        rts := t.sl.rts && decide (rxBytes s.sl.rx + 1 < Figures.rtsHigh) }
  else t.placeMark .lossMark

/-- R187: the message being assembled is damaged and complete. -/
def StationLink.spoiled (l : StationLink) : StationLink := { l with assembler := .complete, damaged := true }

/-- R187: the message being assembled is discarded. -/
def StationLink.hunt (l : StationLink) : StationLink := { l with assembler := .hunting, buffer := [], damaged := false }

/-- R187: a byte taken by the assembler. -/
def StationLink.takeByte (b : Byte) (l : StationLink) : StationLink :=
  let kept := { l with buffer := l.buffer ++ [b] }
  match l.assembler with
  | .hunting => if b = Figures.start then { l with assembler := .length, buffer := [b], damaged := false } else l
  | .length => if b.toNat ≤ Figures.payloadMax then { kept with assembler := .body } else kept.spoiled
  | .body =>
    if kept.buffer.length = (l.buffer.getD 1 0).toNat + 4 then { kept with assembler := .complete } else kept
  | .complete => l

/-- R187: a gap mark taken by the assembler. -/
def StationLink.takeGap (l : StationLink) : StationLink :=
  match l.assembler with
  | .hunting => l
  | .length => l.hunt
  | .body => l.hunt
  | .complete => l

/-- R187: a loss mark taken by the assembler. -/
def StationLink.takeLoss (l : StationLink) : StationLink :=
  match l.assembler with
  | .hunting => { l with buffer := [] }.spoiled
  | .length => l.spoiled
  | .body => l.spoiled
  | .complete => l

/-- R185, R187: the item at the head of the receive FIFO taken; a byte's removal may assert RTS again. -/
def StationLink.assemble (i : RxItem) (rest : List RxItem) (l : StationLink) : StationLink :=
  let m := { l with rx := rest }
  match i with
  | .byte b => { m with rts := m.rts || decide (rxBytes rest ≤ Figures.rtsLow) }.takeByte b
  | .gapMark => m.takeGap
  | .lossMark => m.takeLoss

/-- R188: the transmit FIFO has room for the longest answer. -/
def State.answerRoom (s : State) : Bool := decide (s.sl.tx.length + Figures.answerRoom ≤ Figures.txCapacity)

/-- R187, R188: the assembler takes items, and complete messages are taken, until neither can go on; `fuel` bounds the
number of takings. -/
def State.pump : Nat → State → State
  | 0, s => s
  | fuel + 1, s =>
    if s.sl.assembler = .complete then
      if s.answerRoom then s.takeBuffer.pump fuel else s
    else match s.sl.rx with
      | [] => s
      | i :: rest => (s.withSl (s.sl.assemble i rest)).pump fuel

/-- The takings an event can make: one for each item, and one for each message an item completes or that is waiting. -/
def State.runLink (s : State) : State := s.pump (2 * s.sl.rx.length + 2)

/-- A byte that ends on SRX, and what the assembler makes of it in the event (R183 to R188). -/
def State.linkByte (b : Byte) (stopOk : Bool) (s : State) : State := (s.storeByte b stopOk).runLink

/-- The LRATE strap as it stands from this event on, which a link reset reads (R183, R202; DESIGN CHOICE, log entry 35:
unsafe). -/
def State.strapped (lrateHigh : Bool) (s : State) : State := s.withPins { s.pins with lrateHigh := lrateHigh }

/-- LINK_BYTE_RECEIVED (R183 to R185, R187, R188); the break condition is examined with the line's level
(R44; DESIGN CHOICE, log entry 29: safe). -/
def execLinkByteReceived (byte : Byte) (stopOk : Bool) (levels : LinkLevels) (s : State) :
    Host.Outcome State Fault Refusal :=
  .next (((s.sense levels.line).strapped levels.lrateHigh).linkByte byte stopOk).examineBreak

/-- IDLE_TIMER_EXPIRY (R183, R187). -/
def execIdleTimerExpiry (s : State) : Host.Outcome State Fault Refusal :=
  .next
    (if s.linkIdleDue then ((s.withSl { s.sl with idleTimer := none }).placeMark .gapMark).runLink else s)

/-- TRANSMIT_BYTE_START (R186, R188): the level of CTS is the one in the event. -/
def State.startByte (s : State) : State :=
  match s.sl.stx, s.sl.tx with
  | none, b :: rest => (s.withSl { s.sl with stx := some b, tx := rest }).runLink
  | _, _ => s

def execTransmitByteStart (cts : Bool) (levels : LinkLevels) (s : State) : Host.Outcome State Fault Refusal :=
  let u := (s.sense levels.line).strapped levels.lrateHigh
  let t := u.withPins { u.pins with cts := cts }
  .next (if cts then t.startByte else t).examineBreak

/-- STX_BYTE_END (R186). -/
def execStxByteEnd (s : State) : Host.Outcome State Fault Refusal := .next (s.withSl { s.sl with stx := none })

/-! ### Whole messages -/

/-- A message that ends now is taken at once: the assembler hunts, nothing waits before it, and there is room for its
answer (R187, R188). -/
def State.linkReady (s : State) : Bool :=
  s.sl.assembler == .hunting && s.sl.rx.isEmpty && s.sl.rts && s.answerRoom

/-- The bytes of a message, one after another. -/
def State.linkBytes (l : List Byte) (s : State) : State := l.foldl (fun s b => s.linkByte b true) s

/-- Every byte of a message restarts the idle timer (R183). -/
def State.byteSeen (s : State) : State := s.withSl { s.sl with idleTimer := Timer.started }

/-- A request brought to the part as its whole message (DESIGN CHOICE, log entry 8: safe): taken in the event in which
it is complete when the link is ready, and otherwise byte by byte. -/
def State.deliverRequest (r : Request) (s : State) : State :=
  if s.linkReady && decide ((requestPayload r).length ≤ Figures.payloadMax) then s.byteSeen.takeRequest r
  else s.linkBytes (requestBytes r)

/-- The bytes of a message other than a request, and whether a byte is lost after them. -/
def messageBytes : LinkMessage → List Byte × Bool
  | .damaged none => ([Figures.start, 0xFF], false)
  | .damaged (some type) => ([Figures.start, 0, type], true)
  | .whole type payload check => ([Figures.start, byteOf payload.length, type] ++ payload ++ [check], false)

/-- BAD_MESSAGE (R187, R189): a message of any contents brought to the part; tests 1 to 3 refuse it, or it is the
request it spells. -/
def execBadMessage (message : LinkMessage) (s : State) : Host.Outcome State Fault Refusal :=
  let t := s.linkBytes (messageBytes message).1
  .next (if (messageBytes message).2 then t.linkByte 0 false else t)

def execConfigWrite (record : Byte) (items : List Half) (s : State) : Host.Outcome State Fault Refusal :=
  .next (s.deliverRequest (.configWrite record items))

def execJoin (s : State) : Host.Outcome State Fault Refusal := .next (s.deliverRequest .join)

def execReset (s : State) : Host.Outcome State Fault Refusal := .next (s.deliverRequest .reset)

def execReadStation (s : State) : Host.Outcome State Fault Refusal := .next (s.deliverRequest .readStation)

def execReadPeer (address : Byte) (s : State) : Host.Outcome State Fault Refusal :=
  .next (s.deliverRequest (.readPeer address))

def execReadAlarms (index : Byte) (s : State) : Host.Outcome State Fault Refusal :=
  .next (s.deliverRequest (.readAlarms index))

def execReadPoles (s : State) : Host.Outcome State Fault Refusal := .next (s.deliverRequest .readPoles)

def execReadChannels (s : State) : Host.Outcome State Fault Refusal := .next (s.deliverRequest .readChannels)

def execReadIo (s : State) : Host.Outcome State Fault Refusal := .next (s.deliverRequest .readIo)

def execReadChanges (s : State) : Host.Outcome State Fault Refusal := .next (s.deliverRequest .readChanges)

def execSetAttnMask (mask : Byte) (s : State) : Host.Outcome State Fault Refusal :=
  .next (s.deliverRequest (.setAttnMask mask))

def execSetOutput (output : Byte) (on : Bool) (s : State) : Host.Outcome State Fault Refusal :=
  .next (s.deliverRequest (.setOutput output on))

def execSetDemand (amperes : Half) (s : State) : Host.Outcome State Fault Refusal :=
  .next (s.deliverRequest (.setDemand amperes))

def execSetChannelRequest (channel : Byte) (s : State) : Host.Outcome State Fault Refusal :=
  .next (s.deliverRequest (.setChannel channel .request))

def execSetChannelRelease (channel : Byte) (s : State) : Host.Outcome State Fault Refusal :=
  .next (s.deliverRequest (.setChannel channel .release))

def execSetChannelMask (channel : Byte) (s : State) : Host.Outcome State Fault Refusal :=
  .next (s.deliverRequest (.setChannel channel .mask))

def execSetChannelUnmask (channel : Byte) (s : State) : Host.Outcome State Fault Refusal :=
  .next (s.deliverRequest (.setChannel channel .unmask))

def execSetChannelShed (channel : Byte) (s : State) : Host.Outcome State Fault Refusal :=
  .next (s.deliverRequest (.setChannel channel .shed))

def execSetLowest (channel : Byte) (s : State) : Host.Outcome State Fault Refusal :=
  .next (s.deliverRequest (.setChannel channel .setLowest))

def execSendNotice (notice : Notice) (s : State) : Host.Outcome State Fault Refusal :=
  .next (s.deliverRequest (.sendNotice notice))

def execPoleCommand (action : PoleAction) (poles : PoleSel) (line : LineLevel) (s : State) :
    Host.Outcome State Fault Refusal :=
  .next ((s.sense line).deliverRequest (.poleCommand action poles)).examineBreak

end Machine
end Sys2Proof
end

