-- ==== Sys2Proof/Machine/Timers.lean ====
section
/-!
DEFINITION. The commands that are expiries of the blocks' timers and ages. A timer expires when it
reaches its setting and while it runs (Conventions, Time), so an expiry given before that, or while the timer is stopped,
changes nothing, nor does a limit of ageing given while the age stands below it (DESIGN CHOICE, log entries 2 and 26: safe).
-/

namespace Sys2Proof
namespace Machine

/-- QUALIFY_TIMER_EXPIRY (R8). -/
def execQualifyTimerExpiry (x : PoleId) (s : State) : Host.Outcome State Fault Refusal :=
  .next (if s.qualifyDue x then (s.qualifyExpired x).finish s else s)

/-- RAISE_MAX_EXPIRY (R10). -/
def execRaiseMaxExpiry (x : PoleId) (s : State) : Host.Outcome State Fault Refusal :=
  .next (if s.raiseMaxDue x then (s.raiseMaxExpired x).finish s else s)

/-- CONFIRM_TIMER_EXPIRY (R12, R13, R15). -/
def execConfirmTimerExpiry (x : PoleId) (line : LineLevel) (s : State) : Host.Outcome State Fault Refusal :=
  .next (if s.confirmDue x then ((s.sense line).confirmExpired x).finish s else s)

/-- QUIET_TIMER_EXPIRY (R16). -/
def execQuietTimerExpiry (x : PoleId) (s : State) : Host.Outcome State Fault Refusal :=
  .next (if s.quietDue x then (s.quietExpired x).finish s else s)

/-- LOWER_WAIT_MAX_EXPIRY (R16). -/
def execLowerWaitMaxExpiry (x : PoleId) (s : State) : Host.Outcome State Fault Refusal :=
  .next (if s.lowerWaitDue x then (s.lowerWaitExpired x).finish s else s)

/-- LOWER_MAX_EXPIRY (R17). -/
def execLowerMaxExpiry (x : PoleId) (s : State) : Host.Outcome State Fault Refusal :=
  .next (if s.lowerMaxDue x then (s.lowerMaxExpired x).finish s else s)

/-- GAP_TIMER_EXPIRY (R22). -/
def execGapTimerExpiry (line : LineLevel) (s : State) : Host.Outcome State Fault Refusal :=
  .next (if s.gapDue then ((s.sense line).gapExpired).finish s else s)

/-- RESTORE_QUALIFY_EXPIRY (R23). -/
def execRestoreQualifyExpiry (s : State) : Host.Outcome State Fault Refusal :=
  .next (if s.restoreQualifyDue then s.restoreQualifyExpired.finish s else s)

/-- UNCLAIMED_HOLD_EXPIRY (R49). -/
def State.unclaimedExpired (s : State) : State :=
  (s.withAlarms (removeEntry .unknown .unclaimed s.alarms)).withAlc
    { (s.withAlarms (removeEntry .unknown .unclaimed s.alarms)).alc with unclaimedHoldTimer := none }

def execUnclaimedHoldExpiry (s : State) : Host.Outcome State Fault Refusal :=
  .next (if s.unclaimedDue then s.unclaimedExpired.finish s else s)

/-- DEMAND_HOLD_EXPIRY (R55). -/
def execDemandHoldExpiry (s : State) : Host.Outcome State Fault Refusal :=
  .next (if s.demandHoldDue then s.demandHoldExpired.finish s else s)

/-- OVERDRAW_TIMER_EXPIRY (R70, R88). -/
def execOverdrawTimerExpiry (s : State) : Host.Outcome State Fault Refusal :=
  .next (if s.overdrawDue then s.overdrawExpired.finish s else s)

/-- RESTORE_TIMER_EXPIRY (R90 to R93). -/
def execRestoreTimerExpiry (s : State) : Host.Outcome State Fault Refusal :=
  .next (if s.restoreDue then s.restoreExpired.finish s else s)

/-- PEER_STALE (R155 to R157): a record whose age a frame has set back to 0 does not age past the limit. -/
def execPeerStale (address : Fin 16) (s : State) : Host.Outcome State Fault Refusal :=
  .next (if s.staleDue address then (s.peerGoesStale address).finish s else s)

/-- PEER_LOST (R155 to R157). -/
def execPeerLost (address : Fin 16) (s : State) : Host.Outcome State Fault Refusal :=
  .next (if s.lostDue address then (s.peerGoesLost address).finish s else s)

/-- MUTE_TIMER_EXPIRY (R135). -/
def execMuteTimerExpiry (s : State) : Host.Outcome State Fault Refusal :=
  .next (if s.muteDue then s.muteExpired.finish s else s)

end Machine
end Sys2Proof
end

