-- ==== Sys2Proof/Machine/Clock.lean ====
section
/-!
DEFINITION. One millisecond of the part: ages and timers advance, every input is sampled, and the events that fall due
join the queue of waiting commands (Conventions, Time; R155, R170, R179). DESIGN CHOICE: the tick (log entry 1: unsafe),
the order of the events due (log entry 3: unsafe) and the idle count by whole milliseconds (log entry 19: unsafe).
-/

namespace Sys2Proof
namespace Machine

/-- An age one millisecond later; ages saturate at 65535 (Conventions, Counts). -/
def olderBy1 (age : Nat) : Nat := satInc Figures.ageMax age

/-- A pole's timers one millisecond later. -/
def Pole.ticked (r : Pole) : Pole :=
  { r with
    stateTimer := r.stateTimer.tick, qualifyTimer := r.qualifyTimer.tick, confirmTimer := r.confirmTimer.tick,
    quietTimer := r.quietTimer.tick }

/-- R155: a record's age; that of an ABSENT record stays 0. -/
def Peer.ticked (r : Peer) : Peer := if r.state = .absent then r else { r with age := olderBy1 r.age }

/-- R119: the idle count runs while the line is recessive, and restarts at each dominant bit; a receiver in FRAME is
taking characters, which hold such bits. -/
def State.idleTicked (s : State) : Option Nat :=
  s.rsq.idleCount.map fun n =>
    if s.pins.line = .recessive && s.li.receiver != .frame then min Figures.idleBits (n + s.station.bitRate.bitsPerMs)
    else 0

/-- The dominant run in progress lasts through a millisecond: it is a break's, and counted as one. A run whose count was
restarted below 20 bit times meets its detection first, where detections are reported (R147). -/
def State.runCounts (s : State) : Bool :=
  s.pins.line == .dominant &&
    (decide (Figures.breakBits ≤ s.li.dominantRun) || (s.li.restarted && (s.li.stuck || s.rsq.mode == .config)))

/-- R138, R150: the dominant-run count one millisecond later: up to 256 bit times, past which the STUCK_LINE then due takes
it, and up to 257 on a stuck line (DESIGN CHOICE, log entry 43: unsafe). -/
def State.runTicked (s : State) : Nat :=
  if s.runCounts then
    min (if s.li.stuck then Figures.stuckBits else Figures.stuckBits - 1)
      (s.li.dominantRun + s.station.bitRate.bitsPerMs)
  else s.li.dominantRun

/-- R142: a receiver in DISCARD over a millisecond of recessive line has met more than 11 recessive bit times (DEDUCED,
log entry 28: unsafe). -/
def State.receiverTicked (s : State) : ReceiverState :=
  if s.hears && !s.assembles && s.pins.line == .recessive then .idle else s.li.receiver

/-- R170: the record of an input one millisecond later: its contact is sampled, unless its sample of this millisecond has
been taken (DESIGN CHOICE, log entry 41: unsafe). -/
def State.inputTicked (i : Fin 16) (s : State) : Input :=
  if s.iou.sampled.getLsbD i.val then cell s.iou.inputs i
  else (cell s.iou.inputs i).sampled (s.pins.contacts.getLsbD i.val)

/-- R170: the inputs whose sample of this millisecond, taken now, settles them at another level. -/
def State.settlingTicked (s : State) : Half :=
  bitmap 16 sixteen fun i =>
    !s.iou.sampled.getLsbD i.val && (s.inputTicked i).settles s.cfs.settings.inputs.debounce

/-- Ages and timers one millisecond later, and one sample of every input (R170). -/
def State.aged (s : State) : State :=
  { s with
    ps :=
      { s.ps with
        poleP := s.ps.poleP.ticked, poleN := s.ps.poleN.ticked, gapTimer := s.ps.gapTimer.tick,
        restoreQualifyTimer := s.ps.restoreQualifyTimer.tick }
    alc :=
      { s.alc with
        entries := s.alc.entries.map (fun e => { e with age := olderBy1 e.age })
        unclaimedHoldTimer := s.alc.unclaimedHoldTimer.tick }
    ca := { s.ca with demandHoldTimer := s.ca.demandHoldTimer.tick, overdrawTimer := s.ca.overdrawTimer.tick }
    ll := { s.ll with restoreTimer := s.ll.restoreTimer.tick }
    li := { s.li with receiver := s.receiverTicked, dominantRun := s.runTicked }
    rsq := { s.rsq with muteTimer := s.rsq.muteTimer.tick, idleCount := s.idleTicked }
    pt := mapCells Peer.ticked s.pt
    iou :=
      { s.iou with
        inputs := tabulate fun i => s.inputTicked i
        sampled := 0
        settling := s.settlingTicked
        latches := mapCells (fun x => { x with age := olderBy1 x.age }) s.iou.latches }
    sl := { s.sl with idleTimer := s.sl.idleTimer.tick } }

/-- A command that is due under a condition. -/
def dueIf (b : Bool) (c : Instr) : List Instr := if b then [c] else []

/-- R179: the fresh latches whose age has reached sample_timeout. -/
def State.latchesDue (s : State) : Byte :=
  bitmap 8 eight fun c => s.latchDue c

/-- The expiries of a pole's timers that are due. -/
def State.poleDue (x : PoleId) (s : State) : List Instr :=
  dueIf (s.qualifyDue x) (.qualifyTimerExpiry x) ++ dueIf (s.raiseMaxDue x) (.raiseMaxExpiry x) ++
    dueIf (s.confirmDue x) (.confirmTimerExpiry x s.pins.line) ++ dueIf (s.quietDue x) (.quietTimerExpiry x) ++
    dueIf (s.lowerWaitDue x) (.lowerWaitMaxExpiry x) ++ dueIf (s.lowerMaxDue x) (.lowerMaxExpiry x)

/-- R155: the limits of ageing that an address has reached. -/
def State.peerDue (a : Fin 16) (s : State) : List Instr :=
  dueIf (s.staleDue a) (.peerStale a) ++ dueIf (s.lostDue a) (.peerLost a)

/-- R170: the change of an input whose sample has settled it. -/
def State.inputDue (i : Fin 16) (s : State) : List Instr :=
  dueIf (s.iou.settling.getLsbD i.val) (.debouncedChange i (cell s.iou.inputs i).lastRaw s.pins.line)

/-- R147, R148, R150: what a millisecond of break brings: of a break that the station drives, or whose count was restarted,
the detection at 20 bit times; of one that it drives, the release at 32; of one that others hold, the 257th bit time
(DESIGN CHOICE, log entry 43: unsafe). -/
def State.breakDue (s : State) : List Instr :=
  dueIf
      (decide (s.li.dominantRun < Figures.breakBits) && !s.li.stuck &&
        (s.li.driver == .brk || (s.li.restarted && s.rsq.mode != .config && s.pins.line == .dominant)))
      (.breakDetection []) ++
    dueIf (s.li.driver == .brk) .breakRelease ++
    dueIf
      (s.runCounts && s.li.driver != .brk && !s.li.stuck &&
        decide (Figures.stuckBits ≤ s.li.dominantRun + s.station.bitRate.bitsPerMs))
      .stuckLine

/-- The events due at the end of a millisecond, in the order the part takes them (DESIGN CHOICE, log entry 3:
unsafe). -/
def State.due (s : State) : List Instr :=
  dueIf (s.latchesDue != 0) (.latchStale s.latchesDue s.pins.line) ++ sixteen.flatMap (fun i => s.inputDue i) ++
    s.poleDue .p ++ s.poleDue .n ++
    dueIf s.gapDue (.gapTimerExpiry s.pins.line) ++
    dueIf s.restoreQualifyDue .restoreQualifyExpiry ++
    dueIf s.unclaimedDue .unclaimedHoldExpiry ++
    dueIf s.demandHoldDue .demandHoldExpiry ++
    dueIf s.overdrawDue .overdrawTimerExpiry ++
    dueIf s.restoreDue .restoreTimerExpiry ++
    sixteen.flatMap (fun a => s.peerDue a) ++
    dueIf (s.li.abortPending && s.hears && s.pins.line == .recessive) .abortJudgedError ++
    dueIf s.muteDue .muteTimerExpiry ++
    dueIf s.idleCountDue .idleCountExpiry ++
    dueIf s.linkIdleDue .idleTimerExpiry

/-- One millisecond with no command waiting: what the ages and timers have reached, and then what a break has (DESIGN
CHOICE, log entry 3: unsafe). -/
def State.tick (s : State) : State :=
  let t := s.aged
  { t with pending := t.pending ++ t.due ++ s.breakDue }

end Machine
end Sys2Proof
end

