-- ==== Sys2Proof/Machine/Dispatch.lean ====
section
/-! DEFINITION. One arm per command: the meaning of each row of spec/opcode_table.json. -/

namespace Sys2Proof
namespace Machine

def exec (i : Instr) (s : State) : Host.Outcome State Fault Refusal :=
  match i with
  | .powerOnReset lrateHigh => Sys2Proof.Machine.execPowerOnReset lrateHigh s
  | .pinReset lrateHigh inPowerOn => Sys2Proof.Machine.execPinReset lrateHigh inPowerOn s
  | .reset => Sys2Proof.Machine.execReset s
  | .linkByteReceived byte stopOk levels => Sys2Proof.Machine.execLinkByteReceived byte stopOk levels s
  | .idleTimerExpiry => Sys2Proof.Machine.execIdleTimerExpiry s
  | .transmitByteStart cts levels => Sys2Proof.Machine.execTransmitByteStart cts levels s
  | .badMessage message => Sys2Proof.Machine.execBadMessage message s
  | .configWrite record items => Sys2Proof.Machine.execConfigWrite record items s
  | .join => Sys2Proof.Machine.execJoin s
  | .readStation => Sys2Proof.Machine.execReadStation s
  | .readPeer address => Sys2Proof.Machine.execReadPeer address s
  | .readAlarms index => Sys2Proof.Machine.execReadAlarms index s
  | .readPoles => Sys2Proof.Machine.execReadPoles s
  | .readChannels => Sys2Proof.Machine.execReadChannels s
  | .readIo => Sys2Proof.Machine.execReadIo s
  | .readChanges => Sys2Proof.Machine.execReadChanges s
  | .setAttnMask mask => Sys2Proof.Machine.execSetAttnMask mask s
  | .setOutput output on => Sys2Proof.Machine.execSetOutput output on s
  | .setDemand amperes => Sys2Proof.Machine.execSetDemand amperes s
  | .setChannelRequest channel => Sys2Proof.Machine.execSetChannelRequest channel s
  | .setChannelRelease channel => Sys2Proof.Machine.execSetChannelRelease channel s
  | .setChannelMask channel => Sys2Proof.Machine.execSetChannelMask channel s
  | .setChannelUnmask channel => Sys2Proof.Machine.execSetChannelUnmask channel s
  | .setChannelShed channel => Sys2Proof.Machine.execSetChannelShed channel s
  | .setLowest channel => Sys2Proof.Machine.execSetLowest channel s
  | .sendNotice notice => Sys2Proof.Machine.execSendNotice notice s
  | .poleCommand action poles line => Sys2Proof.Machine.execPoleCommand action poles line s
  | .debouncedChange input active line => Sys2Proof.Machine.execDebouncedChange input active line s
  | .sampleWord word line => Sys2Proof.Machine.execSampleWord word line s
  | .sampleWordDiscarded bits => Sys2Proof.Machine.execSampleWordDiscarded bits s
  | .latchStale channels line => Sys2Proof.Machine.execLatchStale channels line s
  | .qualifyTimerExpiry pole => Sys2Proof.Machine.execQualifyTimerExpiry pole s
  | .raiseMaxExpiry pole => Sys2Proof.Machine.execRaiseMaxExpiry pole s
  | .confirmTimerExpiry pole line => Sys2Proof.Machine.execConfirmTimerExpiry pole line s
  | .quietTimerExpiry pole => Sys2Proof.Machine.execQuietTimerExpiry pole s
  | .lowerWaitMaxExpiry pole => Sys2Proof.Machine.execLowerWaitMaxExpiry pole s
  | .lowerMaxExpiry pole => Sys2Proof.Machine.execLowerMaxExpiry pole s
  | .gapTimerExpiry line => Sys2Proof.Machine.execGapTimerExpiry line s
  | .restoreQualifyExpiry => Sys2Proof.Machine.execRestoreQualifyExpiry s
  | .unclaimedHoldExpiry => Sys2Proof.Machine.execUnclaimedHoldExpiry s
  | .demandHoldExpiry => Sys2Proof.Machine.execDemandHoldExpiry s
  | .overdrawTimerExpiry => Sys2Proof.Machine.execOverdrawTimerExpiry s
  | .restoreTimerExpiry => Sys2Proof.Machine.execRestoreTimerExpiry s
  | .peerStale address => Sys2Proof.Machine.execPeerStale address s
  | .peerLost address => Sys2Proof.Machine.execPeerLost address s
  | .muteTimerExpiry => Sys2Proof.Machine.execMuteTimerExpiry s
  | .idleCountExpiry => Sys2Proof.Machine.execIdleCountExpiry s
  | .statusReceived sender body => Sys2Proof.Machine.execStatusReceived sender body s
  | .noticeReceived sender body => Sys2Proof.Machine.execNoticeReceived sender body s
  | .alarmReceived sender body => Sys2Proof.Machine.execAlarmReceived sender body s
  | .duplicateAddress body => Sys2Proof.Machine.execDuplicateAddress body s
  | .receiveError chars ending => Sys2Proof.Machine.execReceiveError chars ending s
  | .lineActivityEnd => Sys2Proof.Machine.execLineActivityEnd s
  | .ownSlotStart line startTaken => Sys2Proof.Machine.execOwnSlotStart line startTaken s
  | .skipInterval => Sys2Proof.Machine.execSkipInterval s
  | .roundEnd => Sys2Proof.Machine.execRoundEnd s
  | .ownStatusComplete => Sys2Proof.Machine.execOwnStatusComplete s
  | .ownNoticeComplete => Sys2Proof.Machine.execOwnNoticeComplete s
  | .ownAlarmComplete => Sys2Proof.Machine.execOwnAlarmComplete s
  | .echoMismatch index readBack => Sys2Proof.Machine.execEchoMismatch index readBack s
  | .abortJudgedError => Sys2Proof.Machine.execAbortJudgedError s
  | .breakAssert => Sys2Proof.Machine.execBreakAssert s
  | .breakRelease => Sys2Proof.Machine.execBreakRelease s
  | .breakDetection receiving => Sys2Proof.Machine.execBreakDetection receiving s
  | .breakEnd => Sys2Proof.Machine.execBreakEnd s
  | .claimPositionStart position line => Sys2Proof.Machine.execClaimPositionStart position line s
  | .windowComplete => Sys2Proof.Machine.execWindowComplete s
  | .stuckLine => Sys2Proof.Machine.execStuckLine s
  | .stxByteEnd => Sys2Proof.Machine.execStxByteEnd s
  | .inputSample input active => Sys2Proof.Machine.execInputSample input active s

end Machine
end Sys2Proof
end

