-- ==== Sys2Proof/Safety.lean ====
section
/-!
DEFINITION. What counts as a safe state and a safe change, in the terms the claims use: the laws the manual says hold in
every state, one predicate each, and the groups of state a command leaves as they are.
-/

namespace Sys2Proof
namespace Machine

/-! ### Laws of every state -/

/-- R63, R67: the allowance is 0 outside RUN and never above the own charge; the ratings of the ON channels and the grant
make up the allowance. -/
def Apportioned (s : State) : Prop :=
  (s.rsq.mode ≠ .run → s.ca.allowance = 0) ∧ s.ca.allowance ≤ s.ca.ownCharge ∧ s.onSum + s.ca.grant = s.ca.allowance

/-- R66: while a DESK_STOP is listed the allowance is 0, no channel is ON, and no GRANT_ENABLE output is on. -/
def Stopped (s : State) : Prop :=
  s.stopEffect = true →
    s.ca.allowance = 0 ∧ (∀ k, s.isOn k = false) ∧
      ∀ o, s.outputFn o = .grantEnable → s.iou.outputs.getLsbD o.val = false

/-- R87: while the line condition is other than AVAILABLE no channel lacking the battery-fed attribute is ON. -/
def LineFedOut (s : State) : Prop :=
  s.ca.lineCondition ≠ .available → ∀ k, s.isOn k = true → (s.channelCfg k).batteryFed = true

/-- R74, R82: a channel's state agrees with its flags; no masked channel is ON; the shed cause is NONE unless SHED. -/
def Channel.Agrees (c : Channel) : Prop :=
  (c.state = .held ↔ c.masked = true) ∧
    (c.state = .waiting ∨ c.state = .on ∨ c.state = .shed ↔ c.requested = true ∧ c.masked = false) ∧
    (c.state = .unused → c.requested = false ∧ c.masked = false) ∧ (c.state ≠ .shed → c.shedCause = .none)

/-- R74, R75: every channel agrees with its flags, and a channel is UNUSED exactly when its rating is 0. -/
def LadderAgrees (s : State) : Prop :=
  ∀ k, (s.channel k).Agrees ∧ ((s.channel k).state = .unused ↔ s.rating k = 0)

/-- The key of an entry (R29). -/
def AlarmEntry.key (e : AlarmEntry) : Source × Cause := (e.source, e.cause)

/-- R29: the alarm list holds at most 24 entries and no two with the same source and cause. -/
def ListKept (s : State) : Prop := s.alarms.length ≤ Figures.alarmCapacity ∧ (s.alarms.map AlarmEntry.key).Nodup

/-- R128: at most 8 notices are queued, no two identical, and the notice held is not one of them. -/
def QueueKept (s : State) : Prop :=
  s.rsq.queue.length ≤ Figures.queueCapacity ∧ s.rsq.queue.Nodup ∧ ∀ n, s.rsq.holding = some n → n ∉ s.rsq.queue

/-- R153: the Peer Table holds nothing for the station's own address. -/
def OwnAbsent (s : State) : Prop := s.peer s.own = {}

/-- R174: every output shows the condition its function names. -/
def OutputsShown (s : State) : Prop := ∀ o : Fin 16, s.iou.outputs.getLsbD o.val = s.outputCondition o

/-- R195: ATTN is asserted exactly while a topic is both set and in the mask. -/
def AttnShown (s : State) : Prop := s.sl.attn = (s.sl.summary.inter s.sl.mask).nonempty

/-- R182: the receive FIFO holds at most 32 bytes and the transmit FIFO at most 64. -/
def FifosKept (s : State) : Prop :=
  rxBytes s.sl.rx ≤ Figures.rxCapacity ∧ s.sl.tx.length ≤ Figures.txCapacity

/-- R114, R116, R126, R203: the mute cause is none outside MUTE, the mute timer runs for TX_ERRORS alone, the idle
count runs in LISTEN alone, the slot counter lies within 0 to N, in the phase SLOT below N and in ROUND_END at it, and the
sequence is 0 until a STATUS has completed. -/
def ModeKept (s : State) : Prop :=
  (s.rsq.mode ≠ .mute → s.rsq.muteCause = .none) ∧ (s.rsq.muteTimer.isSome = true → s.rsq.muteCause = .txErrors) ∧
    (s.rsq.idleCount.isSome = true → s.rsq.mode = .listen) ∧ s.rsq.slotCounter ≤ s.roundLength ∧
    (s.rsq.phase = .slot → s.rsq.slotCounter < s.roundLength ∨ s.rsq.slotCounter = 0) ∧
    (s.rsq.phase = .roundEnd → s.rsq.slotCounter = s.roundLength) ∧
    (s.rsq.statusSent = false → s.rsq.statusSequence = 0)

/-- R197: every setting that is a number lies within its range; the others take named values alone. -/
def SettingsKept (c : Settings) : Prop :=
  (2 ≤ c.station.roundLength ∧ c.station.roundLength ≤ 16 ∧ 20 ≤ c.station.staleMs ∧ c.station.staleMs ≤ 500 ∧
    100 ≤ c.station.lostMs ∧ c.station.lostMs ≤ 5000 ∧ ∀ k : Fin 4, cell c.station.lostCharge k ≤ 2047) ∧
  (50 ≤ c.apportion.poleMax ∧ c.apportion.poleMax ≤ 2047 ∧ 100 ≤ c.apportion.vKnee ∧ c.apportion.vKnee ≤ 1023 ∧
    c.apportion.vFloor ≤ 1023 ∧ c.apportion.reserve ≤ 500 ∧ 1 ≤ c.apportion.rampStep ∧ c.apportion.rampStep ≤ 500 ∧
    50 ≤ c.apportion.demandHold ∧ c.apportion.demandHold ≤ 2000 ∧ c.apportion.overdrawMargin ≤ 255 ∧
    50 ≤ c.apportion.overdrawMs ∧ c.apportion.overdrawMs ≤ 5000 ∧ c.apportion.grantMin ≤ 255) ∧
  (c.pole.contactLo ≤ 900 ∧ c.pole.contactHi ≤ 900 ∧ 5 ≤ c.pole.dropStep ∧ c.pole.dropStep ≤ 200 ∧
    2 ≤ c.pole.confirmMs ∧ c.pole.confirmMs ≤ 200 ∧ 50 ≤ c.pole.qualifyMs ∧ c.pole.qualifyMs ≤ 5000 ∧
    500 ≤ c.pole.raiseMax ∧ c.pole.raiseMax ≤ 20000 ∧ 500 ≤ c.pole.lowerMax ∧ c.pole.lowerMax ≤ 20000 ∧
    100 ≤ c.pole.gapMax ∧ c.pole.gapMax ≤ 10000 ∧ 50 ≤ c.pole.tGap ∧ c.pole.tGap ≤ 500 ∧ 100 ≤ c.pole.tLow ∧
    c.pole.tLow ≤ 1000 ∧ 5 ≤ c.pole.hyst ∧ c.pole.hyst ≤ 100 ∧ 50 ≤ c.pole.lowerWaitMax ∧
    c.pole.lowerWaitMax ≤ 2000 ∧ c.pole.quiet ≤ 50 ∧ 5 ≤ c.pole.sampleTimeout ∧ c.pole.sampleTimeout ≤ 100) ∧
  (50 ≤ c.ladder.restoreInterval ∧ c.ladder.restoreInterval ≤ 5000 ∧ c.ladder.restoreMargin ≤ 100) ∧
  (50 ≤ c.alarm.unclaimedHold ∧ c.alarm.unclaimedHold ≤ 2000) ∧
  (1 ≤ c.inputs.debounce ∧ c.inputs.debounce ≤ 15) ∧ ∀ k : Fin 8, (cell c.channels k).rating ≤ 255

/-- The counts, ages and values lie within the ranges their rules give (R1, R30, R51, R114, R136, R154, R168). -/
def CountsKept (s : State) : Prop :=
  (∀ x, (s.pole x).elevation ≤ 900 ∧ (s.pole x).bounces ≤ 255 ∧ (s.pole x).drops ≤ 255) ∧ s.ps.lineVoltage ≤ 1023 ∧
    (∀ e ∈ s.alarms, e.age ≤ 65535 ∧ e.repeats ≤ 255) ∧
    (s.ca.demand ≤ 2047 ∧ s.ca.ownCharge ≤ 2047 ∧ s.ca.budget ≤ 2047) ∧
    (s.rsq.roundCount ≤ 65535 ∧ s.rsq.resyncCount ≤ 255 ∧ s.rsq.statusSequence ≤ 255) ∧ s.li.rxErrors ≤ 255 ∧
    s.li.dominantRun ≤ 257 ∧
    (∀ a, (s.peer a).age ≤ 65535 ∧ (s.peer a).sequenceGaps ≤ 255) ∧
    (∀ i, 1 ≤ (cell s.iou.inputs i).run ∧ (cell s.iou.inputs i).run ≤ 15) ∧
    (∀ c, (s.latch c).value ≤ channelMax c ∧ (s.latch c).age ≤ 65535) ∧ s.iou.sampleErrors ≤ 255

/-- R116, R136, R138, R142, R146, R150: the transmit error count is at most 8, a dominant-run count that stands at 257
is a stuck line, a recessive line has a run of 0 that no restart marks, a station that is not in RUN, or holds an
abort unjudged, drives the line at no time, and the receiver is in FRAME exactly while it holds the first characters
of a frame, with their expected length. R122: the slot counter at a start bit is held from the start of a frame in
reception, and otherwise only on a dominant line to a receiver in IDLE. That a wanted break waits for the judgement of
an abort is a DESIGN CHOICE (log entry 45: unsafe). -/
def LineKept (s : State) : Prop :=
  s.li.txErrors ≤ Figures.txErrorLimit ∧ (s.li.dominantRun = Figures.stuckBits → s.li.stuck = true) ∧
    (s.pins.line = .recessive → s.li.dominantRun = 0 ∧ s.li.restarted = false) ∧
    (s.rsq.mode ≠ .run → s.li.driver = .released) ∧ (s.li.abortPending = true → s.li.driver = .released) ∧
    (s.li.receiver = .frame ↔ s.li.reception ≠ []) ∧ judgeRun s.li.reception (.going 0) = .going ∧
    s.li.expected =
      (match s.li.reception with
      | _ :: header :: _ =>
        if header.toNat / 16 = 1 then some 18 else if header.toNat / 16 = 2 then some 8
        else if header.toNat / 16 = 3 then some 6 else none
      | _ => none) ∧
    (s.li.receiver = .frame → s.li.startSlot ≠ none) ∧
    (∀ n, s.li.startSlot = some n →
      n ≤ s.roundLength ∧ (s.li.receiver = .frame ∨ s.li.receiver = .idle ∧ s.pins.line = .dominant))

/-- R28, R51, R74, R115, R136, R153, R1: in CONFIG the blocks that begin their work at JOIN hold their values after
reset, the channels as their ratings leave them, the receiver is held in IDLE, and the line is not driven. -/
def ConfigQuiet (s : State) : Prop :=
  s.rsq.mode = .config →
    s.rsq = {} ∧ s.alc = {} ∧ s.ca = {} ∧ s.ps = {} ∧ (∀ a, s.peer a = {}) ∧ s.li.driver = .released ∧
      s.li.abortPending = false ∧ s.li.receiver = .idle ∧ s.li.reception = [] ∧ s.li.startSlot = none ∧
      s.ll.restoreTimer = none ∧
      (∀ k, s.channel k = freshChannel (s.rating k))

/-- R53, R56 to R62: from JOIN onward the own charge, the line condition, the pole-source voltage, the budget and the
share are those of the inputs as they stand. -/
def Judged (s : State) : Prop :=
  s.rsq.mode ≠ .config →
    s.ca.ownCharge =
        min 2047 (s.ca.demand +
          (eight.map fun k => if (s.channel k).requested && !(s.channel k).masked then s.rating k else 0).sum) ∧
      s.ca.lineCondition =
        (if s.alarmEffect = true then .alarm
        else if s.li.stuck = true ∨ s.poleSources = [] then .unknown
        else if ∃ d ∈ s.poleSources, d.offWire = true then .offWire
        else if ∃ d ∈ s.poleSources, d.gapFlag = true then .gap
        else .available) ∧
      (s.poleSources = [] → s.ca.poleVoltage = none) ∧
      (s.poleSources ≠ [] →
        ∃ d ∈ s.poleSources, s.ca.poleVoltage = some d.voltage ∧ ∀ e ∈ s.poleSources, d.voltage ≤ e.voltage) ∧
      s.ca.budget =
        (if s.stopEffect = true then 0
        else if s.ca.lineCondition = .available then
          min 2047 (netLineBudget s.cfs.settings.apportion (s.ca.poleVoltage.getD 0) + s.batteryOffer)
        else s.batteryOffer) ∧
      s.ca.share =
        fillPart (s.demandList s.ca.ownCharge) s.ca.budget { charge := s.ca.ownCharge, cls := s.station.cls }

/-- R1, R2, R32: a station of another role holds the Pole Supervisor's values after reset, and a POLE station not yet
under supervision holds them but for the band, the voltage and the outcomes of refused commands; neither lists an own
entry of the Pole Supervisor. -/
def PolesAtRest (s : State) : Prop :=
  (s.role ≠ .pole → s.ps = {}) ∧
    (s.ps.supervising = false →
      s.ps =
          { band := s.ps.band, lineVoltage := s.ps.lineVoltage, poleP := { outcome := s.ps.poleP.outcome }
            poleN := { outcome := s.ps.poleN.outcome } } ∧
        ∀ c, c = .poleDropP ∨ c = .poleDropN ∨ c = .lineLoss ∨ c = .sensorLoss → s.ownListed c = false)

/-- R1, R8 to R10, R17, R21, R23, R25, R26 and the table of 1.3: the timers a pole's state allows are the only ones
that run; a pole waits with its mark only for one still to be qualified (the mark of a RAISING pole that is lowered is
cleared by log entry 25); a pole is RAISING only in RUN and under no stop; the gap flag and the restore-qualify timer
have their reasons; no acknowledged own entry outlasts its reason; and without supervision the poles are at rest. -/
def PolesKept (s : State) : Prop :=
  (∀ x,
    let r := s.pole x
    let held (r : Pole) : Prop := r.state = .raising ∨ r.state = .initial ∧ r.qualifying = true
    (r.stateTimer.isSome = true → r.state = .raising ∨ r.state = .lowerWait ∨ r.state = .lowering) ∧
      (r.state = .lowerWait ∨ r.state = .lowering → r.stateTimer.isSome = true) ∧
      (r.state = .raising → r.stateTimer.isSome = !r.qualified) ∧ (r.qualifyTimer.isSome = true → held r) ∧
      (r.confirmTimer.isSome = true → r.state = .suspect ∨ r.state = .lowerWait) ∧
      (r.quietTimer.isSome = true → r.state = .lowerWait) ∧
      (r.qualified = true → held r ∧ held (s.pole x.other) ∧ (s.pole x.other).qualified = false) ∧
      (r.state = .raising → s.rsq.mode = .run ∧ s.stopEffect = false) ∧
      (s.ps.supervising = false → r.state = .initial ∧ r.qualifying = false)) ∧
    (s.ps.gapFlag = true → s.ps.band = .none ∧ ∀ x, (s.pole x).state = .onWire ∨ (s.pole x).state = .suspect) ∧
    (s.ps.gapTimer.isSome = true → s.ps.gapFlag = true) ∧
    (s.ps.restoreQualifyTimer.isSome = true → s.ownListed .lineLoss = true ∧ s.ps.band ≠ .none) ∧
    (s.ownAcknowledged .sensorLoss = true →
      s.fresh elevPChannel = false ∨ s.fresh elevNChannel = false ∨ s.fresh lineVChannel = false) ∧
    (∀ x, s.ownAcknowledged (dropCause x) = true → (s.pole x).state ≠ .stowed) ∧
    (s.ownAcknowledged .deskStop = true → s.activeStops ≠ 0) ∧ PolesAtRest s

/-- The laws together. -/
def LawsHold (s : State) : Prop :=
  Apportioned s ∧ Stopped s ∧ LineFedOut s ∧ LadderAgrees s ∧ ListKept s ∧ QueueKept s ∧ OwnAbsent s ∧ OutputsShown s ∧
    AttnShown s ∧ FifosKept s ∧ ModeKept s ∧ LineKept s ∧ ConfigQuiet s

/-- A timer runs and has reached a time. -/
def Reached (t : Timer) (limit : Nat) : Prop := ∃ n ∈ t, limit ≤ n

/-! ### What a command leaves as it is -/

/-- The link's FIFOs, assembler, rate, mask and timers: all of the Station Link but the summary and ATTN. -/
def SameLink (s t : State) : Prop :=
  t.sl = { s.sl with summary := t.sl.summary, attn := t.sl.attn }

/-- The debounced inputs, change set, GENERAL values, latches, sample word errors and samples taken or settling: all
but the outputs. -/
def SameInputs (s t : State) : Prop := t.iou = { s.iou with outputs := t.iou.outputs }

/-- The levels at the input pins other than the coordination line's. -/
def SamePins (s t : State) : Prop := t.pins = { s.pins with line := t.pins.line }

/-- What an event that shows the line's level and takes no request leaves: everything but the Station Link, the Line
Interface, the pins and, where the line is seen dominant, the idle count (R119). -/
def LinkOnly (line : LineLevel) (s t : State) : Prop :=
  t = { s with sl := t.sl, li := t.li, rsq := (s.sense line).rsq, pins := t.pins }

/-- What an event of the line, of a timer or of a pole leaves: the waiting commands, the configuration, the link but for
the topics, the inputs and latches, and the pins. -/
def EventFrame (s t : State) : Prop :=
  t.pending = s.pending ∧ t.cfs = s.cfs ∧ SameLink s t ∧ SameInputs s t ∧ SamePins s t

/-- What a request that only reads, or that is refused, leaves: everything outside the Station Link. -/
def OutsideLink (s t : State) : Prop := t = { s with sl := t.sl }

/-- What the sheds of an event may do to a channel: an ON channel may become SHED, any other stays as it is. -/
def Shedding (c d : Channel) : Prop := d = c ∨ (c.state = .on ∧ ∃ why, d = c.shed why)

/-- The Round Sequencer's items are those of `x` but for the notices an event places. -/
def SameRounds (x : Sequencer) (t : State) : Prop := t.rsq = { x with queue := t.rsq.queue, holding := t.rsq.holding }

/-- What an event of the Current Apportioner or the Load Ladder leaves: the waiting commands, the configuration, the peer
records, the inputs and latches, the pins but for the line, and the Round Sequencer but for its notices. -/
def CurrentFrame (s t : State) : Prop :=
  t.pending = s.pending ∧ t.cfs = s.cfs ∧ t.pt = s.pt ∧ SameInputs s t ∧ SamePins s t ∧ SameRounds s.rsq t

/-- The commands that are expiries of a block's timer or age, or events of the coordination line. -/
def isEvent : Instr → Bool
  | .qualifyTimerExpiry _ => true
  | .raiseMaxExpiry _ => true
  | .confirmTimerExpiry _ _ => true
  | .quietTimerExpiry _ => true
  | .lowerWaitMaxExpiry _ => true
  | .lowerMaxExpiry _ => true
  | .gapTimerExpiry _ => true
  | .restoreQualifyExpiry => true
  | .unclaimedHoldExpiry => true
  | .demandHoldExpiry => true
  | .overdrawTimerExpiry => true
  | .restoreTimerExpiry => true
  | .peerStale _ => true
  | .peerLost _ => true
  | .muteTimerExpiry => true
  | .idleCountExpiry => true
  | .statusReceived _ _ => true
  | .noticeReceived _ _ => true
  | .alarmReceived _ _ => true
  | .duplicateAddress _ => true
  | .receiveError _ _ => true
  | .lineActivityEnd => true
  | .ownSlotStart _ _ => true
  | .skipInterval => true
  | .roundEnd => true
  | .ownStatusComplete => true
  | .ownNoticeComplete => true
  | .ownAlarmComplete => true
  | .echoMismatch _ _ => true
  | .abortJudgedError => true
  | .breakAssert => true
  | .breakRelease => true
  | .breakDetection _ => true
  | .breakEnd => true
  | .claimPositionStart _ _ => true
  | .windowComplete => true
  | .stuckLine => true
  | _ => false

/-- The commands of the Input/Output Unit. -/
def isInput : Instr → Bool
  | .debouncedChange _ _ _ => true
  | .sampleWord _ _ => true
  | .sampleWordDiscarded _ => true
  | .latchStale _ _ => true
  | .inputSample _ _ => true
  | _ => false

/-- The resets made at the pins. -/
def isPinReset : Instr → Bool
  | .powerOnReset _ => true
  | .pinReset _ _ => true
  | _ => false

/-- The commands that are one byte or one idle interval of the station link. -/
def isLinkByte : Instr → Bool
  | .linkByteReceived _ _ _ => true
  | .idleTimerExpiry => true
  | .transmitByteStart _ _ => true
  | .stxByteEnd => true
  | _ => false

/-- The commands that bring a whole message of the station link. -/
def isMessage (c : Instr) : Bool := !(isEvent c || isInput c || isPinReset c || isLinkByte c)

/-- The commands that can bring a request without operands to the part: its own row, a message that spells it, or an
event of the link's bytes. -/
def Brings (r : Request) (c : Instr) : Prop :=
  r = .join ∧ c = .join ∨ r = .reset ∧ c = .reset ∨
    (∃ type payload check, c = .badMessage (.whole type payload check) ∧ parseRequest type payload = .ok r) ∨
    isLinkByte c = true

/-- The address whose peer record an event of the line or of ageing is about. -/
def peerOf : Instr → Option (Fin 16)
  | .statusReceived a _ => some a
  | .noticeReceived a _ => some a
  | .peerStale a => some a
  | .peerLost a => some a
  | _ => none

/-! ### Requests and their answers -/

/-- The row that brings a request; a POLE_COMMAND carries the level of the line. -/
def commandOf (line : LineLevel) : Request → Instr
  | .configWrite record items => .configWrite record items
  | .join => .join
  | .reset => .reset
  | .readStation => .readStation
  | .readPeer a => .readPeer a
  | .readAlarms i => .readAlarms i
  | .readPoles => .readPoles
  | .readChannels => .readChannels
  | .readIo => .readIo
  | .readChanges => .readChanges
  | .setAttnMask m => .setAttnMask m
  | .setOutput o on => .setOutput o on
  | .setDemand a => .setDemand a
  | .setChannel k .request => .setChannelRequest k
  | .setChannel k .release => .setChannelRelease k
  | .setChannel k .mask => .setChannelMask k
  | .setChannel k .unmask => .setChannelUnmask k
  | .setChannel k .shed => .setChannelShed k
  | .setChannel k .setLowest => .setLowest k
  | .sendNotice n => .sendNotice n
  | .poleCommand a ps => .poleCommand a ps line

/-- The bytes of a REFUSED answer: code, TYPE and item number (12.4). -/
def refusedBytes (code type itemNumber : Byte) : List Byte :=
  [0x7E, 3, 0x81, code, type, itemNumber, -(0x84 + code + type + itemNumber)]

/-- The bytes of a REPLY: the TYPE of its request and the data (12.4). -/
def replyBytes (type : Byte) (data : List Byte) : List Byte :=
  [0x7E, byteOf (data.length + 1), 0x80, type] ++ data ++ [-(data.foldl (· + ·) (byteOf (data.length + 1) + 0x80 + type))]

/-- R183, R188: the Station Link after a request it was clear for: the answer at the tail of the transmit FIFO, the idle
timer restarted by the message's bytes, and all else as it was. -/
def answered (l : StationLink) (message : List Byte) : StationLink :=
  { l with idleTimer := some 0, tx := l.tx ++ message }

/-- The Station Link answered; the topics and ATTN follow the request's effect. -/
def AnsweredWith (message : List Byte) (s t : State) : Prop :=
  t.sl = { answered s.sl message with summary := t.sl.summary, attn := t.sl.attn }

/-- R189: a request refused: the answer alone. -/
def Refused (code type itemNumber : Byte) (s t : State) : Prop :=
  t = { s with sl := answered s.sl (refusedBytes code type itemNumber) }

/-- The values after a reset over configuration `c`, with the LRATE strap read (R2, R31, R52, R75, R115, R137, R154, R169,
R182, R196, R202), each as its rule writes it. -/
def AfterReset (c : ConfigStore) (lrateHigh : Bool) (s t : State) : Prop :=
  t.pending = s.pending ∧ t.cfs = c ∧
    t.li =
      { driver := .released, receiver := .idle, reception := [], expected := none, startSlot := none, ownFrame := none
        abortPending := false
        dominantRun := 0, restarted := false, stuck := false, rxErrors := 0, lastRxError := .none, txErrors := 0 } ∧
    t.rsq =
      { mode := .config, muteCause := .none, phase := .untimed, slotCounter := 0, roundCount := 0, resyncCount := 0
        lastOwnSlot := .none, statusSequence := 0, statusSent := false, queue := [], holding := none, windowPosition := none
        muteTimer := none, idleCount := none } ∧
    (∀ a, t.peer a = { state := .absent, age := 0, sequenceGaps := 0, roleChanged := false, stated := none }) ∧
    (∀ x, t.pole x =
      { state := .initial, elevation := 0, bounces := 0, drops := 0, outcome := .none, qualified := false
        qualifying := false, stateTimer := none, qualifyTimer := none, confirmTimer := none, quietTimer := none }) ∧
    t.ps =
      { poleP := t.ps.poleP, poleN := t.ps.poleN, band := .none, lineVoltage := 0, gapFlag := false, gapTimer := none
        restoreQualifyTimer := none, supervising := false } ∧
    t.alc =
      { entries := [], unlisted := false, breakHold := false, unclaimedHoldTimer := none, windowClaimed := false } ∧
    t.ca =
      { demand := 0, demandHoldTimer := none, ownCharge := 0, lineCondition := .unknown, poleVoltage := none
        budget := 0, share := 0, allowance := 0, grant := 0, overdrawTimer := none, overdrawFlag := false } ∧
    (∀ i, cell t.iou.inputs i = { lastRaw := false, run := 1, value := .unknown }) ∧
    (∀ k, t.latch k = { value := 0, age := 65535, stale := true }) ∧
    t.iou =
      { inputs := t.iou.inputs, changeSet := 0, outputs := 0, general := 0, latches := t.iou.latches
        sampleErrors := 0, sampled := 0, settling := 0 } ∧
    t.ll.lowest = 7 ∧ t.ll.restoreTimer = none ∧
    (∀ k, t.channel k =
      ⟨false, false, if (cell c.settings.channels k).rating = 0 then .unused else .off, .none⟩) ∧
    t.sl =
      { rateHigh := lrateHigh, rx := [], rts := true, idleTimer := none, assembler := .hunting, buffer := []
        damaged := false, tx := [], stx := none, summary := { mode := true }, mask := Topics.all, attn := true } ∧
    t.pins = { s.pins with lrateHigh := lrateHigh, line := .recessive }

/-! ### What a command leaves of a pole (R6, R7, R14) -/

/-- The record of pole `x` after a RAISE judged in `s` (R6, R7). -/
def Raised (x : PoleId) (s t : State) : Prop :=
  let r := s.pole x
  if s.ps.supervising = false then t.pole x = { r with outcome := .ignoredState }
  else if r.state = .raising then (t.pole x).outcome = r.outcome ∧ (r.qualified = false → t.pole x = r)
  else if s.rsq.mode ≠ .run ∨ r.state ≠ .stowed then
    (t.pole x).outcome = .ignoredState ∧ (r.state ≠ .initial → t.pole x = { r with outcome := .ignoredState })
  else if s.ownListed (dropCause x) = true ∨ s.stopEffect = true then t.pole x = { r with outcome := .ignoredAlarm }
  else
    t.pole x =
      { r with
        state := .raising, stateTimer := some 0, qualifyTimer := none, qualified := false, outcome := .accepted }

/-- The record of pole `x` after a LOWER judged in `s` (R6, R14, R17). -/
def Lowered (x : PoleId) (s t : State) : Prop :=
  let r := s.pole x
  let down : Pole := r.lowered (s.stowedClosed x)
  if s.ps.supervising = false then t.pole x = { r with outcome := .ignoredState }
  else match r.state with
    | .initial => t.pole x = { down with outcome := .accepted }
    | .raising => t.pole x = { down with outcome := .accepted }
    | .stowed => t.pole x = { r with outcome := .ignoredState }
    | .stuck => t.pole x = { r with outcome := .ignoredState }
    | .lowerWait => t.pole x = r
    | .lowering => t.pole x = r
    | _ =>
      t.pole x =
        { r with
          state := .lowerWait, stateTimer := some 0, outcome := .accepted
          quietTimer := if s.quietCondition then r.quietTimer <|> some 0 else none }

/-- A command names a pole. -/
def names : PoleSel → PoleId → Bool
  | .p, x => x == .p
  | .n, x => x == .n
  | .both, _ => true

/-- The poles a command names are judged, each for itself (R6). -/
def Commanded (a : PoleAction) (ps : PoleSel) (s t : State) : Prop :=
  ∀ x, names ps x = true → match a with
    | .raise => Raised x s t
    | .lower => Lowered x s t

/-- R128, R129: an internal notice is merged with an identical one that waits, joins the tail, or replaces the notice
held. -/
def Placed (n : Notice) (s t : State) : Prop :=
  if n ∈ s.rsq.queue ∨ s.rsq.holding = some n then t.rsq = s.rsq
  else if s.rsq.queue.length < 8 then t.rsq = { s.rsq with queue := s.rsq.queue ++ [n] }
  else t.rsq = { s.rsq with holding := some n }

/-- R38, R39: the notice acknowledges the own entry of a cause. -/
def Acknowledges (n : Option Notice) (c : Cause) (s : State) : Prop :=
  n = some .ackAll ∨ n = some (.ack (.station s.own) c)

/-- R25, R26, R34: the reason of an own entry has gone, so that it is cleared once it is acknowledged. -/
def ReasonGone (c : Cause) (s : State) : Prop :=
  let poles := s.role = .pole ∧ s.ps.supervising = true
  match c with
  | .poleDropP => poles ∧ (s.pole .p).state = .stowed
  | .poleDropN => poles ∧ (s.pole .n).state = .stowed
  | .sensorLoss =>
    poles ∧ s.fresh elevPChannel = true ∧ s.fresh elevNChannel = true ∧ s.fresh lineVChannel = true
  | .deskStop => s.activeStops = 0
  | .lineLoss => False
  | .unclaimed => False

/-- R1, R118: the station as its entry to RUN leaves it before the frame that made it join is applied: in RUN, and with
pole supervision begun in a POLE station. -/
def State.joined (s : State) : State :=
  if s.rsq.mode = .listen then
    { s with
      rsq := { s.rsq with mode := .run }
      ps := { s.ps with supervising := s.ps.supervising || s.role == .pole } }
  else s

/-- An entry of a key is listed PENDING. -/
def ListedPending (src : Source) (c : Cause) (t : State) : Prop :=
  ∃ e ∈ t.alarms, e.hasKey src c = true ∧ e.state = .pending

/-- A raise of the key has a place: the key is listed or the list has room (R32, R33). -/
def HasPlace (src : Source) (c : Cause) (s : State) : Prop :=
  s.listed src c = true ∨ s.alarms.length < Figures.alarmCapacity

/-- R170: the sample of the millisecond settled the input: it stands at the level given, its run is at the debounce
count as it stands, and the debounced value differs. -/
def ChangeDue (i : Fin 16) (active : Bool) (s : State) : Prop :=
  s.iou.settling.getLsbD i.val = true ∧ (cell s.iou.inputs i).lastRaw = active ∧
    s.cfs.settings.inputs.debounce ≤ (cell s.iou.inputs i).run ∧ (cell s.iou.inputs i).value ≠ levelOf active

/-- The place of a channel in the priority order, counted from 0 for the highest (R84). -/
def rank (s : State) (k : Fin 8) : Nat := (k.val + 7 - s.ll.lowest.val) % 8

/-- R91, R93: a WAITING or SHED channel is restored if the ON channels and it fit the allowance with the margin (left
out where the allowance is the own charge), the line feeds it or it is battery-fed, and no pole source states LOW. -/
def MayRestore (s : State) (k : Fin 8) : Prop :=
  ((s.channel k).state = .waiting ∨ (s.channel k).state = .shed) ∧
    (eight.map fun j => if (s.channel j).state = .on then s.rating j else 0).sum + s.rating k +
        (if s.ca.allowance = s.ca.ownCharge then 0 else s.cfs.settings.ladder.restoreMargin) ≤ s.ca.allowance ∧
    (s.ca.lineCondition = .available ∨ (s.channelCfg k).batteryFed = true) ∧
    ∀ d ∈ s.poleSources, d.band ≠ some .low

/-- The end of an event has nothing more to do in the state. -/
def Settled (s : State) : Prop := s.blocksEnd s = s

/-- The link is ready for a message and nothing of another stands in its buffer. -/
def LinkClear (s : State) : Prop := s.linkReady = true ∧ s.sl.buffer = [] ∧ s.sl.damaged = false

end Machine
end Sys2Proof
end

