-- ==== Sys2Proof/WellFormed.lean ====
section
/-!
DEFINITION. Which commands are well formed: operands within what their event can carry. A command that is not well formed
still has a meaning; these checks say which commands the outside world can bring about.
-/

namespace Sys2Proof

/-- A CONFIG_WRITE whose message is at most 48 payload bytes long: the record number and two bytes an item (10.3, 12.4). -/
def configWriteFits (items : List Half) : Bool := decide (2 * items.length + 1 ≤ Figures.payloadMax)

/-- A SEND_NOTICE carries no CLEAR (12.4). -/
def noticeSendable : Notice → Bool
  | .clear _ => false
  | _ => true

/-- A CLEAR or a cause set never names UNCLAIMED, and the source UNKNOWN goes with UNCLAIMED alone (R29, 12.1). -/
def noticeMeaningful : Notice → Bool
  | .ack .unknown c => c == .unclaimed
  | .ack (.station _) c => c != .unclaimed
  | .clear c => c != .unclaimed
  | _ => true

/-- A message brought whole has a payload that LENGTH can give (10.3). -/
def messageFits : LinkMessage → Bool
  | .damaged _ => true
  | .whole _ payload _ => decide (payload.length ≤ Figures.payloadMax)

/-- A reception holds at most 18 characters (R136). -/
def receptionFits (chars : List Byte) : Bool := decide (chars.length ≤ 18)

/-- The operands of a command lie within what its event can carry. -/
def Instr.wf : Instr → Bool
  | .configWrite _ items => configWriteFits items
  | .sendNotice n => noticeSendable n && noticeMeaningful n
  | .badMessage m => messageFits m
  | .sampleWordDiscarded bits => bits != 16
  | .receiveError chars _ => receptionFits chars
  | .breakDetection receiving => receptionFits receiving
  | .echoMismatch index _ => decide (index < 18)
  | .powerOnReset _ => true
  | .pinReset _ _ => true
  | .reset => true
  | .linkByteReceived _ _ _ => true
  | .idleTimerExpiry => true
  | .transmitByteStart _ _ => true
  | .join => true
  | .readStation => true
  | .readPeer _ => true
  | .readAlarms _ => true
  | .readPoles => true
  | .readChannels => true
  | .readIo => true
  | .readChanges => true
  | .setAttnMask _ => true
  | .setOutput _ _ => true
  | .setDemand _ => true
  | .setChannelRequest _ => true
  | .setChannelRelease _ => true
  | .setChannelMask _ => true
  | .setChannelUnmask _ => true
  | .setChannelShed _ => true
  | .setLowest _ => true
  | .poleCommand _ _ _ => true
  | .debouncedChange _ _ _ => true
  | .sampleWord _ _ => true
  | .latchStale channels _ => channels != 0
  | .qualifyTimerExpiry _ => true
  | .raiseMaxExpiry _ => true
  | .confirmTimerExpiry _ _ => true
  | .quietTimerExpiry _ => true
  | .lowerWaitMaxExpiry _ => true
  | .lowerMaxExpiry _ => true
  | .gapTimerExpiry _ => true
  | .restoreQualifyExpiry => true
  | .unclaimedHoldExpiry => true
  | .demandHoldExpiry => true
  | .overdrawTimerExpiry => true
  | .restoreTimerExpiry => true
  | .peerStale _ => true
  | .peerLost _ => true
  | .muteTimerExpiry => true
  | .idleCountExpiry => true
  | .statusReceived _ _ => true
  | .noticeReceived _ _ => true
  | .alarmReceived _ _ => true
  | .duplicateAddress _ => true
  | .lineActivityEnd => true
  | .ownSlotStart _ _ => true
  | .skipInterval => true
  | .roundEnd => true
  | .ownStatusComplete => true
  | .ownNoticeComplete => true
  | .ownAlarmComplete => true
  | .abortJudgedError => true
  | .breakAssert => true
  | .breakRelease => true
  | .breakEnd => true
  | .claimPositionStart _ _ => true
  | .windowComplete => true
  | .stuckLine => true
  | .stxByteEnd => true
  | .inputSample _ _ => true

end Sys2Proof
end

