-- ==== Sys2Proof/Certificates/Slice0/Obligations.lean ====
section
/-!
DEFINITION. The statements for the provers. Each says what a command, an operation or the whole part does, for every
state that meets its hypotheses; the docstring names the rules it draws on.
-/

section

open Sys2Proof Sys2Proof.Machine

/-! ### The whole part -/

/-- The command at the front of the queue runs with the queue's rest. -/
def Obligations.StepRunsFront : Prop :=
  ∀ (c : Instr) (rest : List Instr) (s : State), s.pending = c :: rest → step s = exec c { s with pending := rest }

/-- A step with no command waiting is one millisecond: ages rise, running timers advance, every input not yet sampled
in the millisecond is sampled, and one that its sample settles has its change queued, the idle count counts a
recessive line with no frame in reception, a receiver in DISCARD on a recessive line is in IDLE, and nothing else
changes but the dominant run and the queue; a break the station drives has its detection and its release queued, one
whose count a change of the bit rate restarted its detection again, and one held past 256 bit times the stuck line
(R119, R138, R142, R147, R148, R150, R155, R170, R179). The step itself, the events queued, the idle count and the
dominant run of a break by whole milliseconds, that millisecond of recessive line and the input sampled once are the
model's choices (log entries 1, 3, 19, 43, 28 and 41). -/
def Obligations.IdleStepAges : Prop :=
  ∀ s : State, s.pending = [] → ∃ t, step s = .next t ∧
    t.cfs = s.cfs ∧ t.pins = s.pins ∧
    t.li =
      { s.li with
        receiver :=
          if s.li.receiver = .discard ∧ s.hears = true ∧ s.pins.line = .recessive then .idle else s.li.receiver
        dominantRun :=
          if s.pins.line = .dominant ∧
              (20 ≤ s.li.dominantRun ∨ s.li.restarted = true ∧ (s.li.stuck = true ∨ s.rsq.mode = .config)) then
            min (if s.li.stuck = true then 257 else 256) (s.li.dominantRun + s.station.bitRate.bitsPerMs)
          else s.li.dominantRun } ∧
    (∀ a, t.peer a =
      if (s.peer a).state = .absent then s.peer a else { s.peer a with age := min 65535 ((s.peer a).age + 1) }) ∧
    (∀ c, t.latch c = { s.latch c with age := min 65535 ((s.latch c).age + 1) }) ∧
    (∀ i, cell t.iou.inputs i =
      let raw := s.pins.contacts.getLsbD i.val
      let x := cell s.iou.inputs i
      if s.iou.sampled.getLsbD i.val = true then x
      else { x with lastRaw := raw, run := if x.lastRaw = raw then min 15 (x.run + 1) else 1 }) ∧
    (∀ i : Fin 16, t.iou.settling.getLsbD i.val = true ↔
      s.iou.sampled.getLsbD i.val = false ∧ s.cfs.settings.inputs.debounce ≤ (cell t.iou.inputs i).run ∧
        (cell t.iou.inputs i).value ≠ levelOf (s.pins.contacts.getLsbD i.val)) ∧
    t.iou =
      { s.iou with inputs := t.iou.inputs, latches := t.iou.latches, sampled := 0, settling := t.iou.settling } ∧
    t.alc =
      { s.alc with
        entries := s.alarms.map fun e => { e with age := min 65535 (e.age + 1) }
        unclaimedHoldTimer := s.alc.unclaimedHoldTimer.map (· + 1) } ∧
    t.ca =
      { s.ca with
        demandHoldTimer := s.ca.demandHoldTimer.map (· + 1), overdrawTimer := s.ca.overdrawTimer.map (· + 1) } ∧
    t.ll = { s.ll with restoreTimer := s.ll.restoreTimer.map (· + 1) } ∧
    t.rsq = { s.rsq with muteTimer := s.rsq.muteTimer.map (· + 1), idleCount := t.rsq.idleCount } ∧
    t.rsq.idleCount =
      (s.rsq.idleCount.map fun n =>
        if s.pins.line = .recessive ∧ s.li.receiver ≠ .frame then min 8192 (n + s.station.bitRate.bitsPerMs) else 0) ∧
    t.sl = { s.sl with idleTimer := s.sl.idleTimer.map (· + 1) } ∧
    (∀ x, t.pole x =
      { s.pole x with
        stateTimer := (s.pole x).stateTimer.map (· + 1), qualifyTimer := (s.pole x).qualifyTimer.map (· + 1)
        confirmTimer := (s.pole x).confirmTimer.map (· + 1), quietTimer := (s.pole x).quietTimer.map (· + 1) }) ∧
    t.ps =
      { s.ps with
        poleP := t.ps.poleP, poleN := t.ps.poleN, gapTimer := s.ps.gapTimer.map (· + 1)
        restoreQualifyTimer := s.ps.restoreQualifyTimer.map (· + 1) } ∧
    (∀ i active, .debouncedChange i active s.pins.line ∈ t.pending ↔
      t.iou.settling.getLsbD i.val = true ∧ active = s.pins.contacts.getLsbD i.val) ∧
    (.breakDetection [] ∈ t.pending ↔
      s.li.dominantRun < 20 ∧ s.li.stuck = false ∧
        (s.li.driver = .brk ∨ s.li.restarted = true ∧ s.rsq.mode ≠ .config ∧ s.pins.line = .dominant)) ∧
    (.breakRelease ∈ t.pending ↔ s.li.driver = .brk) ∧
    (.stuckLine ∈ t.pending ↔
      s.li.driver ≠ .brk ∧ s.li.stuck = false ∧ s.pins.line = .dominant ∧
        (20 ≤ s.li.dominantRun ∨ s.li.restarted = true ∧ s.rsq.mode = .config) ∧
        256 < s.li.dominantRun + s.station.bitRate.bitsPerMs) ∧
    (∀ a, .peerStale a ∈ t.pending ↔ (t.peer a).state = .fresh ∧ s.station.staleMs ≤ (t.peer a).age) ∧
    (.restoreTimerExpiry ∈ t.pending ↔ Reached t.ll.restoreTimer s.cfs.settings.ladder.restoreInterval)

/-- The state after a power-on reset meets every law. -/
def Obligations.ResetMeetsLaws : Prop :=
  LawsHold State.reset ∧ Judged State.reset ∧ PolesKept State.reset ∧ CountsKept State.reset ∧
    SettingsKept State.reset.cfs.settings

/-- Every step keeps the laws of Safety.lean together (R1, R28, R29, R51, R63, R66, R67, R74, R75, R87, R114 to R116,
R122, R126, R128, R136, R138, R142, R146, R150, R153, R174, R182, R195); among them that a station not in RUN drives
the line at no time (R116), and that the receiver is in FRAME exactly while it holds the first characters of a frame
(R142). The slot counter kept from a start bit and the mark of a run whose count was restarted are the model's own
(log entries 18, 30 and 43), and that a station whose abort is unjudged has its driver released, a wanted break
waiting for the judgement, is its choice: R44 names no such condition (log entry 45). -/
def Obligations.StepKeepsLaws : Prop := ∀ s t : State, LawsHold s → step s = .next t → LawsHold t

/-- Every step keeps the FIFOs within their places (R182, R183, R188), every output at the condition its function names
(R174, R176), and a pole's RAISE and LOWER outputs never on together (R19). -/
def Obligations.StepKeepsPins : Prop :=
  ∀ s t : State, step s = .next t →
    (FifosKept s → FifosKept t) ∧
    (OutputsShown s →
      OutputsShown t ∧
        ∀ (o p : Fin 16) (x : PoleId), t.outputFn o = .raisePole x → t.outputFn p = .lowerPole x →
          ¬(t.iou.outputs.getLsbD o.val = true ∧ t.iou.outputs.getLsbD p.val = true))

/-- The alarm list keeps its keys distinct and its 24 places (R29), and the notice queue its distinct notices and its
8 places (R128 to R130), through every step; and every step keeps the counts, ages and values within their ranges,
saturating where they would pass them, under settings within theirs (Conventions; R1, R30, R51, R114, R136, R154,
R168, R197). -/
def Obligations.StepKeepsLists : Prop :=
  (∀ s t : State, ListKept s → QueueKept s → step s = .next t → ListKept t ∧ QueueKept t) ∧
  ∀ s t : State, SettingsKept s.cfs.settings → CountsKept s → step s = .next t → CountsKept t

/-- R53, R56 to R62: through every step from JOIN onward the own charge, the line condition, the pole-source voltage, the
budget and the share are those of the inputs as they stand, in every state in which they are. -/
def Obligations.StepKeepsJudgement : Prop := ∀ s t : State, LawsHold s → Judged s → step s = .next t → Judged t

/-- R1, R8 to R10, R17, R21, R23, R25, R26, R34: every step keeps the laws of the poles: which timers run, when a pole
is RAISING or waits with its mark, what the gap flag and the restore-qualify timer rest on, that no acknowledged own
entry outlasts its reason, and that without supervision the poles are at rest (R1, R2, R32). That a RAISING pole's
mark is cleared as it is lowered is the model's reading (log entry 25). -/
def Obligations.StepKeepsPoles : Prop := ∀ s t : State, LawsHold s → PolesKept s → step s = .next t → PolesKept t

/-- R197: a power-on reset leaves every setting at its default, the defaults pass every check of JOIN in every role, and
every step keeps each setting within its range. -/
def Obligations.SettingsInRange : Prop :=
  (∀ (s : State) (lrateHigh : Bool),
    ∃ t, exec (.powerOnReset lrateHigh) s = .next t ∧
      (List.range 15).map (fun r => recordItems r t.cfs.settings) =
        [[0, roleCode .aux, 2, 16, 500, 60, 500, 50, 400, 80, 100], [600, 560, 400, 20, 20, 200, 20, 500, 10],
          [150, 500, 40, 20, 300, 6000, 4000, 1500, 200, 450, 20, 500, 5, 20], [400, 5, 0], [200],
          List.replicate 16 (inputFnCode .general) ++ [5], List.replicate 16 (outputFnCode .general)] ++
        List.replicate 8 [0, 0, requestSourceCode .link] ∧
      ∀ r, firstFailed
        (joinChecks { t.cfs.settings with station := { t.cfs.settings.station with role := r } }) = none) ∧
    ∀ s t : State, SettingsKept s.cfs.settings → step s = .next t → SettingsKept t.cfs.settings

/-- No command stops the part, and none disturbs the commands that wait; an expiry or an event of the line leaves the
configuration, the link but for its topics, the inputs and latches, and the pins but for the line. -/
def Obligations.EventsFrame : Prop :=
  (∀ (c : Instr) (s : State), ∃ t, exec c s = .next t ∧ t.pending = s.pending) ∧
  ∀ (c : Instr) (s t : State), isEvent c = true → exec c s = .next t → EventFrame s t

/-- Among expiries, events of the line and commands of the inputs, only a STATUS, a NOTICE or an ageing limit changes
a peer record, and then that of its own address (R155, R158, R161, R162). -/
def Obligations.PeersFrame : Prop :=
  ∀ (c : Instr) (s t : State) (a : Fin 16), isEvent c = true ∨ isInput c = true → peerOf c ≠ some a →
    exec c s = .next t → t.peer a = s.peer a

/-- From JOIN until the next reset the configuration is frozen (R201): outside CONFIG only a power-on reset changes a
setting. A message is brought whole to a link that waits for one. -/
def Obligations.ConfigFrozen : Prop :=
  ∀ (c : Instr) (s t : State), s.rsq.mode ≠ .config → (isMessage c = true → LinkClear s ∧ c.wf = true) →
    exec c s = .next t →
    t.cfs.settings = s.cfs.settings ∨
      ((∃ h, c = .powerOnReset h) ∨ (∃ h, c = .pinReset h true)) ∧ t.cfs.settings = State.reset.cfs.settings

/-- The station's mode changes at the events of R116's table and at no other: to CONFIG only by a reset, at its pin or
power or by a RESET request, alone, spelled by a message or completed by an event of the link's bytes, which then
leaves the reset cause LINK and the Round Sequencer at its values after reset; and out of CONFIG to LISTEN only by a
JOIN, likewise, of a configuration that passes every check (R200, R201). -/
def Obligations.ModeChanges : Prop :=
  ∀ (c : Instr) (s t : State), (isMessage c = true → LinkClear s ∧ c.wf = true) → exec c s = .next t →
    t.rsq.mode = s.rsq.mode ∨
      t.rsq.mode = .config ∧
        (isPinReset c = true ∨ Brings .reset c ∧ t.cfs.resetCause = .link ∧ t.rsq = State.reset.rsq) ∨
      s.rsq.mode = .config ∧ t.rsq.mode = .listen ∧ Brings .join c ∧ t.cfs.valid = true ∧
        firstFailed (joinChecks t.cfs.settings) = none ∧ (isLinkByte c = false → t.cfs.settings = s.cfs.settings) ∨
      s.rsq.mode = .listen ∧ t.rsq.mode = .run ∧
        ((∃ a b, c = .statusReceived a b ∧ a ≠ s.own) ∨ (∃ a b, c = .noticeReceived a b ∧ a ≠ s.own) ∨
          c = .idleCountExpiry) ∨
      s.rsq.mode ≠ .config ∧ t.rsq.mode = .mute ∧ t.rsq.muteCause = .duplicate ∧ (∃ b, c = .duplicateAddress b) ∨
      s.rsq.mode = .run ∧ t.rsq.mode = .mute ∧ t.rsq.muteCause = .txErrors ∧ c = .abortJudgedError ∨
      s.rsq.mode = .mute ∧ s.rsq.muteCause = .txErrors ∧ t.rsq.mode = .listen ∧ c = .muteTimerExpiry

/-- The allowance rises only at a round end, and then by no more than ramp_step (R63, R64). -/
def Obligations.AllowanceRises : Prop :=
  ∀ (c : Instr) (s t : State), exec c s = .next t →
    t.ca.allowance ≤ s.ca.allowance ∨
      (c = .roundEnd ∨ c = .idleCountExpiry) ∧ t.rsq.mode = .run ∧
        t.ca.allowance ≤ s.ca.allowance + s.cfs.settings.apportion.rampStep

/-- A change of what a topic covers sets the topic in its event, and no event of the line or of a timer clears one
(R27, R50, R71, R97, R152, R166, R193). -/
def Obligations.TopicsFollowChanges : Prop :=
  ∀ (c : Instr) (s t : State), isEvent c = true → exec c s = .next t →
    s.sl.summary.union t.sl.summary = t.sl.summary ∧
    (s.alarms.map (fun e => (e.source, e.cause, e.state, e.detail, e.repeats)) ≠
        t.alarms.map (fun e => (e.source, e.cause, e.state, e.detail, e.repeats)) ∨
      s.alc.unlisted ≠ t.alc.unlisted → t.sl.summary.alarms = true) ∧
    ((∃ x, (s.pole x).state ≠ (t.pole x).state ∨ (s.pole x).outcome ≠ (t.pole x).outcome) ∨ s.ps.band ≠ t.ps.band ∨
      s.ps.gapFlag ≠ t.ps.gapFlag → t.sl.summary.poles = true) ∧
    (s.ca.allowance ≠ t.ca.allowance ∨ s.ca.grant ≠ t.ca.grant ∨ s.ca.lineCondition ≠ t.ca.lineCondition ∨
      s.ca.overdrawFlag ≠ t.ca.overdrawFlag → t.sl.summary.allowance = true) ∧
    ((∃ k, (s.channel k).state ≠ (t.channel k).state) → t.sl.summary.channels = true) ∧
    ((∃ a, (s.peer a).state ≠ (t.peer a).state ∨ (s.peer a).roleChanged ≠ (t.peer a).roleChanged) →
      t.sl.summary.peers = true) ∧
    (s.li.rxErrors < t.li.rxErrors ∨ s.li.txErrors < t.li.txErrors → t.sl.summary.lineErrors = true) ∧
    (s.rsq.mode ≠ t.rsq.mode → t.sl.summary.mode = true)

/-! ### Messages, frames and computations -/

/-- A request's bytes, one after another, and the request brought whole have the same effect on a link that waits for a
message (R187, R188, R205; log entry 8). -/
def Obligations.BytesMakeRequest : Prop :=
  ∀ (r : Request) (s : State), LinkClear s → (requestPayload r).length ≤ Figures.payloadMax →
    s.linkBytes (requestBytes r) = s.byteSeen.takeRequest r

/-- A frame as it is sent is received as a valid frame, of the length of its kind (R140 to R143), and a frame with one of
its last two characters altered fails its check. -/
def Obligations.SentFramesAreValid : Prop :=
  ∀ (a : Fin 16) (b : FrameBody),
    judgeRun (frameChars a b) .reached = .valid ∧
      (frameChars a b).length = (match b with | .status _ => 18 | .notice _ => 8 | .alarm _ => 6) ∧
      ∀ (init : List Byte) (hi lo hi' lo' : Byte), frameChars a b = init ++ [hi, lo] → (hi', lo') ≠ (hi, lo) →
        judgeRun (init ++ [hi', lo']) .reached = .error .crc

/-- What a station states is what its peers file: a notice reads back as itself, and a STATUS of values within their
ranges as its own fields (R126, R158, R204, 12.2). -/
def Obligations.StatedIsFiled : Prop :=
  (∀ n : Notice, noticeMeaningful n = true → readNotice (noticeBody n) = some n) ∧
    ∀ s : State, s.rsq.statusSequence ≤ 255 → s.ca.ownCharge ≤ 2047 → s.ca.allowance ≤ 2047 → s.drawnCurrent ≤ 2047 →
      s.ps.lineVoltage ≤ 1023 → (s.latch battAvailChannel).value ≤ 2047 → (s.latch socChannel).value ≤ 100 →
      readStatus (statusBody s.statement) = s.statement

/-- R58: the line budget enters the budget under AVAILABLE alone, from the pole-source voltage; it meets both ends, is
linear between them rounded down, and never falls as the voltage rises; the net line budget is the line budget less
the reserve, or 0. -/
def Obligations.LineBudgetShape : Prop :=
  (∀ (s : State) (lc : LineCondition) (v : Nat), s.stopEffect = false →
    s.formBudget lc (some v) =
      if lc = .available then min 2047 (netLineBudget s.cfs.settings.apportion v + s.batteryOffer) else s.batteryOffer) ∧
  ∀ (c : ApportionSettings) (v : Nat), c.vFloor < c.vKnee →
    (c.vKnee ≤ v → lineBudget c v = c.poleMax) ∧ (v ≤ c.vFloor → lineBudget c v = 0) ∧
      (∀ q, c.vFloor < v → v < c.vKnee →
        (q = lineBudget c v ↔
          q * (c.vKnee - c.vFloor) ≤ c.poleMax * (v - c.vFloor) ∧
            c.poleMax * (v - c.vFloor) < (q + 1) * (c.vKnee - c.vFloor))) ∧
      lineBudget c v ≤ lineBudget c (v + 1) ∧ lineBudget c v ≤ c.poleMax ∧
      (c.reserve ≤ lineBudget c v → netLineBudget c v + c.reserve = lineBudget c v) ∧
      (lineBudget c v < c.reserve → netLineBudget c v = 0)

/-- R62: the class fill hands out no more than the budget and no part above its charge; a class is served before every
later one, in full where the remainder covers its sum, and otherwise each element its charge's share of the remainder,
rounded down. -/
def Obligations.ClassFillFits : Prop :=
  ∀ (l : List Demand) (budget : Nat),
    (l.map (fillPart l budget)).sum ≤ budget ∧
      (∀ d ∈ l, fillPart l budget d ≤ d.charge) ∧
      ((l.map Demand.charge).sum ≤ budget → ∀ d ∈ l, fillPart l budget d = d.charge) ∧
      (∀ d ∈ l, fillPart l budget d < d.charge → ∀ e ∈ l, d.cls < e.cls → fillPart l budget e = 0) ∧
      ∀ d ∈ l,
        let before := ((l.filter fun e => decide (e.cls < d.cls)).map Demand.charge).sum
        let own := ((l.filter fun e => decide (e.cls = d.cls)).map Demand.charge).sum
        fillPart l budget d = if before + own ≤ budget then d.charge else d.charge * (budget - before) / own

/-! ### Resets -/

/-- The three resets (R202): a power-on reset takes the defaults, a pin or link reset keeps the configuration, each
records its cause, every block takes its values after reset, and the LRATE strap is read at each (R182, R183); a RESET
request is not answered (R191). Which commands show that the strap has moved (log entry 35) and that a reset leaves
the line recessive (log entry 6) are the model's choices. -/
def Obligations.ResetsLeaveValues : Prop :=
  ∀ (s : State) (lrateHigh : Bool),
    (∃ t, exec (.powerOnReset lrateHigh) s = .next t ∧ AfterReset State.reset.cfs lrateHigh s t) ∧
    (∃ t, exec (.pinReset lrateHigh false) s = .next t ∧ AfterReset { s.cfs with resetCause := .pin } lrateHigh s t) ∧
    (∃ t, exec (.pinReset lrateHigh true) s = .next t ∧ AfterReset State.reset.cfs lrateHigh s t) ∧
    (LinkClear s →
      ∃ t, exec .reset s = .next t ∧ AfterReset { s.cfs with resetCause := .link } s.pins.lrateHigh s t)

/-! ### Bytes of the station link -/

/-- R183 to R185, R187: while a complete message waits, a byte goes to the tail of the receive FIFO, and one that
finds 32 bytes there or has a bad stop bit leaves a loss mark; otherwise the assembler takes the byte as its state
says, and answers a LENGTH above 48 BAD_FORM with no TYPE (R189). A loss mark it takes spoils the message, which is
answered BAD_FORM with the TYPE it had reached. The clause on the pins, that the LRATE strap stands from this event on
as the command's operand gives it, is the model's choice (log entry 35). -/
def Obligations.LinkByteTaken : Prop :=
  (∀ (b : Byte) (stopOk : Bool) (levels : LinkLevels) (s : State), s.sl.assembler = .complete →
      s.answerRoom = false →
      ∃ t, exec (.linkByteReceived b stopOk levels) s = .next t ∧
        LinkOnly levels.line s t ∧
        t.pins = { s.pins with lrateHigh := levels.lrateHigh, line := t.pins.line } ∧
        (s.ownPending = false → t.li = (s.sense levels.line).li) ∧
        t.sl =
          if stopOk = true ∧ rxBytes s.sl.rx < 32 then
            { s.sl with
              idleTimer := some 0, rx := s.sl.rx ++ [.byte b], rts := s.sl.rts && decide (rxBytes s.sl.rx + 1 < 24) }
          else
            { s.sl with
              idleTimer := some 0
              rx := if s.sl.rx.getLast? = some .lossMark then s.sl.rx else s.sl.rx ++ [.lossMark] }) ∧
  (∀ (b : Byte) (levels : LinkLevels) (s : State), s.sl.rx = [] → s.sl.assembler ≠ .complete →
      s.answerRoom = true →
      ∃ t, exec (.linkByteReceived b false levels) s = .next t ∧ LinkOnly levels.line s t ∧
        t.sl =
          { s.sl with
            idleTimer := some 0, assembler := .hunting, buffer := [], damaged := false
            tx :=
              s.sl.tx ++
                refusedBytes 1 (if s.sl.assembler = .hunting then 0xFF else (s.sl.buffer[2]?).getD 0xFF) 0 }) ∧
  ∀ (b : Byte) (levels : LinkLevels) (s : State), s.sl.rx = [] →
    ∃ t, exec (.linkByteReceived b true levels) s = .next t ∧
      (s.sl.assembler = .hunting → LinkOnly levels.line s t ∧
        t.sl =
          if b = 0x7E then
            { s.sl with idleTimer := some 0, rts := true, assembler := .length, buffer := [b], damaged := false }
          else { s.sl with idleTimer := some 0, rts := true }) ∧
      (s.sl.assembler = .length → b.toNat ≤ 48 → LinkOnly levels.line s t ∧
        t.sl = { s.sl with idleTimer := some 0, rts := true, assembler := .body, buffer := s.sl.buffer ++ [b] }) ∧
      (s.sl.assembler = .length → s.sl.buffer = [0x7E] → 48 < b.toNat → s.answerRoom = true →
        LinkOnly levels.line s t ∧
        t.sl =
          { s.sl with
            idleTimer := some 0, rts := true, assembler := .hunting, buffer := [], damaged := false
            tx := s.sl.tx ++ [0x7E, 3, 0x81, 1, 0xFF, 0, 0x7C] }) ∧
      (s.sl.assembler = .body → s.sl.buffer.length + 1 ≠ (s.sl.buffer.getD 1 0).toNat + 4 →
        1 < s.sl.buffer.length → LinkOnly levels.line s t ∧
        t.sl = { s.sl with idleTimer := some 0, rts := true, buffer := s.sl.buffer ++ [b] })

/-- R183, R187: a link idle for 5 ms discards, without an answer, a message broken off in it; a complete message that
waits keeps, and the gap is marked behind it. An expiry before the 5 ms, or with the timer stopped, does not occur. -/
def Obligations.IdleTimerDiscards : Prop :=
  (∀ s : State, ¬Reached s.sl.idleTimer 5 → exec .idleTimerExpiry s = .next s) ∧
  ∀ s : State, Reached s.sl.idleTimer 5 → s.sl.rx = [] →
    ∃ t, exec .idleTimerExpiry s = .next t ∧
      (s.sl.assembler = .hunting → t = { s with sl := { s.sl with idleTimer := none } }) ∧
      (s.sl.assembler = .length ∨ s.sl.assembler = .body →
        t = { s with sl := { s.sl with idleTimer := none, assembler := .hunting, buffer := [], damaged := false } }) ∧
      (s.sl.assembler = .complete → s.answerRoom = false →
        t = { s with sl := { s.sl with idleTimer := none, rx := [.gapMark] } })

/-- R186, R188, R191, R202: a byte starts when STX is idle, a byte waits and CTS is asserted, and STX is idle again at
the byte's end; the place it frees may let a waiting request be taken in the event, with its answer behind the bytes
that wait, unless it is a RESET, which makes a link reset. Where no request is taken, everything stands but the
Station Link, the line with what it shows the Line Interface and the idle count, and the pins. That the LRATE strap
follows the command's operand, and so the rate after that RESET, is the model's choice (log entry 35). -/
def Obligations.TransmitterSends : Prop :=
  ∀ (s : State) (levels : LinkLevels),
    (∃ t, exec .stxByteEnd s = .next t ∧ t = { s with sl := { s.sl with stx := none } }) ∧
    (∃ t, exec (.transmitByteStart false levels) s = .next t ∧ t.sl = s.sl ∧ t.pins.cts = false ∧
      t.pins = { s.pins with cts := false, lrateHigh := levels.lrateHigh, line := t.pins.line } ∧
      LinkOnly levels.line s t ∧ (s.ownPending = false → t.li = (s.sense levels.line).li)) ∧
    (∃ t, exec (.transmitByteStart true levels) s = .next t ∧ t.pins.cts = true ∧
      t.pins.lrateHigh = levels.lrateHigh ∧
      (s.sl.stx ≠ none ∨ s.sl.tx = [] → t.sl = s.sl ∧ LinkOnly levels.line s t) ∧
      (∀ b rest, s.sl.stx = none → s.sl.tx = b :: rest →
        s.sl.assembler ≠ .complete ∧ s.sl.rx = [] ∨ s.sl.assembler = .complete ∧ 64 < rest.length + 52 →
          t.sl = { s.sl with stx := some b, tx := rest } ∧ LinkOnly levels.line s t) ∧
      ∀ b rest, s.sl.stx = none → s.sl.tx = b :: rest →
        t.sl.stx = some b ∧ (∃ more, t.sl.tx = rest ++ more) ∨ t.cfs.resetCause = .link ∧ t.rsq.mode = .config ∧
          t.sl.rateHigh = levels.lrateHigh)

/-- R187, R189: a message that is damaged, whose CHECK is wrong, whose TYPE names no request or whose payload no request
takes is refused; one that spells a request is that request. -/
def Obligations.BadMessagesAnswered : Prop :=
  ∀ s : State, LinkClear s →
    (∃ t, exec (.badMessage (.damaged none)) s = .next t ∧ Refused 1 0xFF 0 s t) ∧
    (∀ type, ∃ t, exec (.badMessage (.damaged (some type))) s = .next t ∧ Refused 1 type 0 s t) ∧
    ∀ (type : Byte) (payload : List Byte) (check : Byte), payload.length ≤ 48 →
      ∃ t, exec (.badMessage (.whole type payload check)) s = .next t ∧
        (payload.foldl (· + ·) (byteOf payload.length + type) + check ≠ 0 → Refused 1 type 0 s t) ∧
        (payload.foldl (· + ·) (byteOf payload.length + type) + check = 0 →
          (type.toNat = 0 ∨ 16 < type.toNat → Refused 2 type 0 s t) ∧
          (∀ code, parseRequest type payload = .error code → 0 < type.toNat → type.toNat ≤ 16 →
            code = .badForm ∧ Refused 1 type 0 s t) ∧
          ∀ r, parseRequest type payload = .ok r → t = s.byteSeen.takeRequest r)

/-! ### Requests -/

/-- R189: a refused request changes no state of the part apart from the answer. The tests in their order: form (R205),
mode and object (R190), role (R112), and room or a valid configuration. -/
def Obligations.RequestsRefused : Prop :=
  ∀ (s : State) (r : Request) (line : LineLevel), LinkClear s → (requestPayload r).length ≤ Figures.payloadMax →
    s.sense line = s → s.breakWanted = false →
    (∀ code n, s.judge r = some (code, n) →
      ∃ t, exec (commandOf line r) s = .next t ∧ Refused (byteOf (refusalCode code)) (requestType r) (byteOf n) s t) ∧
    (formOk r = true →
      ((r = .join ∨ ∃ x y, r = .configWrite x y) → s.rsq.mode ≠ .config → s.judge r = some (.wrongMode, 0)) ∧
      (((∃ x, r = .setDemand x) ∨ (∃ x y, r = .setChannel x y) ∨ (∃ x, r = .sendNotice x) ∨
          ∃ x y, r = .poleCommand x y) → s.rsq.mode = .config → s.judge r = some (.wrongMode, 0)) ∧
      (r = .readPoles → s.role ≠ .pole → s.judge r = some (.wrongRole, 0)) ∧
      ((∃ x y, r = .poleCommand x y) → s.rsq.mode ≠ .config → s.role ≠ .pole → s.judge r = some (.wrongRole, 0)) ∧
      (∀ a, r = .readPeer a → (16 ≤ a.toNat ∨ a.toNat = s.own.val) → s.judge r = some (.noSuch, 0)) ∧
      (∀ i, r = .readAlarms i → 24 ≤ i.toNat → s.judge r = some (.noSuch, 0)) ∧
      (∀ o on, r = .setOutput o on → (∀ p : Fin 16, p.val = o.toNat → s.outputFn p ≠ .general) →
        s.judge r = some (.noSuch, 0)) ∧
      (∀ k a, r = .setChannel k a → s.rsq.mode ≠ .config →
        (8 ≤ k.toNat ∨ a ≠ .setLowest ∧ ∃ j : Fin 8, j.val = k.toNat ∧ (s.channel j).state = .unused) →
        s.judge r = some (.noSuch, 0)) ∧
      (∀ x y, r = .configWrite x y → s.rsq.mode = .config → 15 ≤ x.toNat → s.judge r = some (.noSuch, 0)))

/-- R190, R192: the reads that change nothing return the records as they stand. -/
def Obligations.ReadsReturnRecords : Prop :=
  ∀ s : State, LinkClear s →
    (exec .readStation s = .next { s with sl := answered s.sl (replyBytes 0x04 (stationRecord s)) }) ∧
    (exec .readChannels s = .next { s with sl := answered s.sl (replyBytes 0x08 (channelsRecord s)) }) ∧
    (∀ i : Byte, i.toNat < 24 →
      exec (.readAlarms i) s = .next { s with sl := answered s.sl (replyBytes 0x06 (alarmsRecord i.toNat s)) }) ∧
    (s.role = .pole →
      exec .readPoles s = .next { s with sl := answered s.sl (replyBytes 0x07 (polesRecord s)) }) ∧
    (stationRecord s).length = 35 ∧ (channelsRecord s).length = 25 ∧ (polesRecord s).length = 18 ∧
    (ioRecord s).length = 42 ∧ ∀ i, (alarmsRecord i s).length = 3 + 5 * min 8 (s.alarms.length - i)

/-- R166, R173, R181, R194, R195: READ_PEER clears the role-changed flag of the record it returns, READ_IO empties the
change set, READ_CHANGES clears exactly the topics it returns, SET_ATTN_MASK replaces the mask alone, and after every step
ATTN is asserted exactly while a topic is both set and in the mask. -/
def Obligations.ReadsThatClear : Prop :=
  (∀ s : State, LinkClear s →
      (∀ a : Fin 16, a ≠ s.own →
        ∃ t, exec (.readPeer (byteOf a.val)) s = .next t ∧ t.peer a = { s.peer a with roleChanged := false } ∧
          (∀ b, b ≠ a → t.peer b = s.peer b) ∧
          t = { s with pt := t.pt, sl := answered s.sl (replyBytes 0x05 (peerRecord a (s.peer a))) }) ∧
      (exec .readIo s =
        .next { s with iou := { s.iou with changeSet := 0 }, sl := answered s.sl (replyBytes 0x09 (ioRecord s)) }) ∧
      (exec .readChanges s =
        .next
          { s with
            sl :=
              { answered s.sl (replyBytes 0x0A [topicByte (s.sl.summary.inter s.sl.mask)]) with
                summary := s.sl.summary.without (s.sl.summary.inter s.sl.mask), attn := false } }) ∧
      ∀ m : Byte,
        exec (.setAttnMask m) s =
          .next
            { s with
              sl :=
                { answered s.sl (replyBytes 0x0B [m]) with
                  mask := topicsOf m, attn := (s.sl.summary.inter (topicsOf m)).nonempty } }) ∧
    ∀ s t : State, AttnShown s → step s = .next t → AttnShown t

/-- R175: SET_OUTPUT sets the GENERAL value and the output, sets no topic, and answers with the output's state. -/
def Obligations.OutputSet : Prop :=
  ∀ (s : State) (o : Fin 16) (on : Bool), LinkClear s → OutputsShown s → s.outputFn o = .general →
    ∃ t, exec (.setOutput (byteOf o.val) on) s = .next t ∧
      (∀ p : Fin 16, t.iou.general.getLsbD p.val = if p = o then on else s.iou.general.getLsbD p.val) ∧
      (∀ p : Fin 16, t.iou.outputs.getLsbD p.val = if p = o then on else s.iou.outputs.getLsbD p.val) ∧
      t =
        { s with
          iou := { s.iou with general := t.iou.general, outputs := t.iou.outputs }
          sl := answered s.sl (replyBytes 0x0C [byteOf o.val, if on then 1 else 0]) }

/-- R53, R54: SET_DEMAND holds the clamped demand and its timer and forms the own charge anew; the allowance falls to the
share in the event if it stood above it (R65), and the reply carries the demand held. -/
def Obligations.DemandSet : Prop :=
  ∀ (s : State) (amperes : Half), LinkClear s → s.rsq.mode ≠ .config →
    ∃ t, exec (.setDemand amperes) s = .next t ∧
      t.ca.demand = min 2047 amperes.toNat ∧
      t.ca.demandHoldTimer = (if amperes = 0 then none else some 0) ∧
      t.ca.ownCharge =
        min 2047 (min 2047 amperes.toNat +
          (eight.map fun k => if (s.channel k).requested && !(s.channel k).masked then s.rating k else 0).sum) ∧
      t.ca.share ≤ t.ca.ownCharge ∧
      t.ca.allowance = (if s.rsq.mode = .run then min s.ca.allowance t.ca.share else 0) ∧
      (∀ k, Shedding (s.channel k) (t.channel k)) ∧ CurrentFrame s t ∧
      AnsweredWith (replyBytes 0x0D (twoBytes (min 2047 amperes.toNat))) s t

/-- R77 to R83, R89, R97: what each SET_CHANNEL action leaves of the channel it names; every other channel can only be
shed, the reply carries the record and L, and the CHANNELS topic is set for another channel's change alone. SET_LOWEST
moves L and changes no channel state, and sets no topic (R85). -/
def Obligations.ChannelSet : Prop :=
  (∀ (s : State) (k : Fin 8) (a : ChannelAction), LinkClear s → s.rsq.mode ≠ .config →
      (s.channel k).state ≠ .unused → a ≠ .setLowest →
      ∃ t, exec (commandOf .recessive (.setChannel (byteOf k.val) a)) s = .next t ∧
        (let c := s.channel k
         match a with
         | .request =>
           if (s.channelCfg k).source = .inputLevel ∨ c.requested = true then Shedding c (t.channel k)
           else
             (c.state = .off → t.channel k = { c with requested := true, state := .waiting }) ∧
               (c.state = .held → t.channel k = { c with requested := true })
         | .release =>
           if (s.channelCfg k).source = .inputLevel ∨ c.requested = false then Shedding c (t.channel k)
           else
             t.channel k =
               if c.state = .held ∨ c.state = .off then { c with requested := false }
               else { c with requested := false, state := .off, shedCause := .none }
         | .mask => t.channel k = if c.state = .held then c else { c with masked := true, state := .held, shedCause := .none }
         | .unmask =>
           if c.state = .held then
             t.channel k = { c with masked := false, state := if c.requested then .waiting else .off }
           else Shedding c (t.channel k)
         | .shed =>
           t.channel k = if c.state = .off ∨ c.state = .held then c else { c with state := .shed, shedCause := .request }
         | .setLowest => True) ∧
        (∀ j, j ≠ k → Shedding (s.channel j) (t.channel j)) ∧ t.ll.lowest = s.ll.lowest ∧
        t.ll.restoreTimer = s.ll.restoreTimer ∧ t.ca.demand = s.ca.demand ∧ CurrentFrame s t ∧
        (t.sl.summary.channels = true ↔
          s.sl.summary.channels = true ∨ ∃ j, j ≠ k ∧ (s.channel j).state ≠ (t.channel j).state) ∧
        AnsweredWith (replyBytes 0x0E (byteOf k.val :: channelRecord k t ++ [byteOf s.ll.lowest.val])) s t) ∧
  ∀ (s : State) (k : Fin 8), LinkClear s → s.rsq.mode ≠ .config → Settled s →
    ∃ t, exec (.setLowest (byteOf k.val)) s = .next t ∧ t.ll = { s.ll with lowest := k } ∧ t.ca = s.ca ∧
      t.alc = s.alc ∧ t.ps = s.ps ∧ t.li = s.li ∧ CurrentFrame s t ∧ t.sl.summary = s.sl.summary ∧
      AnsweredWith (replyBytes 0x0E (byteOf k.val :: channelRecord k s ++ [byteOf k.val])) s t

/-- R128, R129: SEND_NOTICE merges with an identical notice that waits, joins the tail, or is refused QUEUE_FULL. -/
def Obligations.NoticeSent : Prop :=
  ∀ (s : State) (n : Notice), LinkClear s → s.rsq.mode ≠ .config → noticeSendable n = true →
    (n ∈ s.rsq.queue ∨ s.rsq.holding = some n →
      exec (.sendNotice n) s = .next { s with sl := answered s.sl (replyBytes 0x0F [1]) }) ∧
    (n ∉ s.rsq.queue → s.rsq.holding ≠ some n → s.rsq.queue.length < 8 →
      exec (.sendNotice n) s =
        .next
          { s with
            rsq := { s.rsq with queue := s.rsq.queue ++ [n] }, sl := answered s.sl (replyBytes 0x0F [0]) }) ∧
    (n ∉ s.rsq.queue → s.rsq.holding ≠ some n → 8 ≤ s.rsq.queue.length →
      ∃ t, exec (.sendNotice n) s = .next t ∧ Refused 6 0x0F 0 s t)

/-- R6, R7, R14: POLE_COMMAND in a POLE station applies RAISE or LOWER at once to each pole named and answers with
their outcomes. That a RAISING pole's mark is cleared as it is lowered is the model's reading (log entry 25), and that
each pole named is judged before the wait of the other ends its choice (log entry 46). -/
def Obligations.PoleCommandJudged : Prop :=
  ∀ (s : State) (a : PoleAction) (ps : PoleSel) (line : LineLevel), LinkClear s → s.rsq.mode ≠ .config →
    s.role = .pole →
    ∃ t, exec (.poleCommand a ps line) s = .next t ∧ Commanded a ps s t ∧ t.ps.band = s.ps.band ∧
      t.ps.lineVoltage = s.ps.lineVoltage ∧ CurrentFrame (s.sense line) t ∧
      AnsweredWith
        (replyBytes 0x10
          [if names ps .p then byteOf (outcomeCode (t.pole .p).outcome) else 0xFF,
            if names ps .n then byteOf (outcomeCode (t.pole .n).outcome) else 0xFF]) s t

/-- R138, R198, R199, R205: a CONFIG_WRITE in range replaces its record whole, clears the config-valid flag, leaves
every other record, acts in CONFIG at once, restarts the dominant-run count where it changes the bit rate (R138), and
is answered with the record as held; one out of range names the first bad item and changes nothing; one without
contents reads the record back. That a break in progress is remembered past the restart is the model's own (log
entries 30 and 43). -/
def Obligations.ConfigWritten : Prop :=
  ∀ (s : State) (record : Byte) (items : List Half), LinkClear s → s.rsq.mode = .config → record.toNat < 15 →
    (∃ t, exec (.configWrite record []) s = .next t ∧
      t = { s with sl := answered s.sl (replyBytes 0x01 (configRecord record s)) }) ∧
    (items.length = (itemTests record.toNat).length →
      (∀ n, firstBad 1 (itemTests record.toNat) (items.map BitVec.toNat) = some n →
        ∃ t, exec (.configWrite record items) s = .next t ∧ Refused 7 0x01 (byteOf n) s t) ∧
      (firstBad 1 (itemTests record.toNat) (items.map BitVec.toNat) = none →
        ∃ t, exec (.configWrite record items) s = .next t ∧
          recordItems record.toNat t.cfs.settings = items.map BitVec.toNat ∧
          (∀ r, r < 15 → r ≠ record.toNat → recordItems r t.cfs.settings = recordItems r s.cfs.settings) ∧
          t.cfs.valid = false ∧ t.cfs.resetCause = s.cfs.resetCause ∧ t.pending = s.pending ∧ t.rsq = s.rsq ∧
          t.pt = s.pt ∧ t.ps = s.ps ∧ t.alc = s.alc ∧ t.ca = s.ca ∧ t.pins = s.pins ∧
          t.li =
            (if s.station.bitRate = t.station.bitRate then s.li
            else
              { s.li with
                dominantRun := 0
                restarted :=
                  s.li.restarted ||
                    decide (s.pins.line = .dominant ∧ (20 ≤ s.li.dominantRun ∨ s.li.stuck = true)) }) ∧
          t.ll.lowest = s.ll.lowest ∧ t.ll.restoreTimer = s.ll.restoreTimer ∧
          (∀ k, t.channel k =
            if record.toNat = 7 + k.val then
              { requested := false, masked := false, state := if t.rating k = 0 then .unused else .off, shedCause := .none }
            else s.channel k) ∧
          (∀ c, t.latch c =
            { s.latch c with
              stale := (s.latch c).stale ||
                (decide (s.poleCfg.sampleTimeout ≠ t.poleCfg.sampleTimeout) &&
                  decide (t.poleCfg.sampleTimeout ≤ (s.latch c).age)) }) ∧
          t.iou = { s.iou with general := t.iou.general, latches := t.iou.latches, outputs := t.iou.outputs } ∧
          (∀ o, t.iou.general.getLsbD o.val = (s.iou.general.getLsbD o.val && decide (s.outputFn o = t.outputFn o))) ∧
          OutputsShown t ∧
          AnsweredWith (replyBytes 0x01 (record :: (items.map fun i => twoBytes i.toNat).flatten)) s t))

/-- R200, R201, R76, R34: JOIN makes its checks in their order, each refusal naming the first that fails; when all
hold the station enters LISTEN and the blocks begin their work in the event. -/
def Obligations.Joined : Prop :=
  ∀ s : State, LinkClear s → s.rsq.mode = .config → ConfigQuiet s →
    let c := s.cfs.settings
    (∀ n, firstFailed (joinChecks c) = some n → ∃ t, exec .join s = .next t ∧ Refused 7 0x02 (byteOf n) s t) ∧
    (firstFailed (joinChecks c) = none ↔
      c.station.address.val < c.station.roundLength ∧ c.station.staleMs < c.station.lostMs ∧
        c.apportion.vFloor + 50 ≤ c.apportion.vKnee ∧
        (c.station.role = .pole →
          c.pole.contactLo + 20 ≤ c.pole.contactHi ∧ c.pole.tGap + c.pole.hyst + 10 ≤ c.pole.tLow) ∧
        (∀ i k, s.inputFn i = .channelReq k → (s.channelCfg k).source ≠ .link ∧ s.rating k ≠ 0) ∧
        ∀ o p k, s.outputFn o = .channel k → s.outputFn p = .channel k → o = p) ∧
    (firstFailed (joinChecks c) = none →
      ∃ t, exec .join s = .next t ∧ t.cfs = { s.cfs with valid := true } ∧
        t.rsq = { s.rsq with mode := .listen, idleCount := some 0 } ∧
        t.li = { s.li with receiver := .discard, reception := [], expected := none, startSlot := none } ∧ t.pt = s.pt ∧
        t.ps = s.ps ∧ t.pins = s.pins ∧
        t.pending = s.pending ∧ SameInputs s t ∧ t.ll.restoreTimer = some 0 ∧ t.ll.lowest = s.ll.lowest ∧
        (∀ k, t.channel k =
          if (s.channelCfg k).source = .inputLevel ∧ s.channelReqActive k = true ∧ s.rating k ≠ 0 then
            { requested := true, masked := false, state := .waiting, shedCause := .none }
          else s.channel k) ∧
        t.alc.entries =
          (if s.activeStops = 0 then []
          else [⟨.station s.own, .deskStop, none, .pending, .localRaise, 0, 0⟩]) ∧
        t.ca.allowance = 0 ∧
        t.ca.lineCondition = (if s.li.stuck = true ∨ s.role ≠ .pole then .unknown else .offWire) ∧
        t.sl.summary.mode = true ∧ AnsweredWith (replyBytes 0x02 [1]) s t)

/-! ### Inputs and samples -/

/-- R170, R173: a sample of one input whose level differs from the last raw sample, the first of its millisecond: the
last raw sample takes the level, the run restarts at 1, and where the debounce count is 1 the input settles, with the
change set and the INPUTS topic. That a sample that repeats the level is counted by the millisecond, and that a second
in the millisecond only shows the contact, are the model's choices (log entry 41). -/
def Obligations.InputSampled : Prop :=
  ∀ (s : State) (i : Fin 16) (active : Bool),
    let x := cell s.iou.inputs i
    let taken := x.lastRaw != active && !s.iou.sampled.getLsbD i.val
    let change := taken && decide (s.cfs.settings.inputs.debounce ≤ 1) && x.value != levelOf active
    ∃ t, exec (.inputSample i active) s = .next t ∧
      cell t.iou.inputs i = (if taken then ⟨active, 1, if change then levelOf active else x.value⟩ else x) ∧
      (∀ j : Fin 16, t.iou.sampled.getLsbD j.val = (s.iou.sampled.getLsbD j.val || taken && decide (j = i))) ∧
      (∀ j : Fin 16, t.iou.settling.getLsbD j.val = (s.iou.settling.getLsbD j.val && !(taken && decide (j = i)))) ∧
      (∀ j, j ≠ i → cell t.iou.inputs j = cell s.iou.inputs j) ∧
      t.iou.changeSet = (if change then addBit s.iou.changeSet i.val else s.iou.changeSet) ∧
      (change = true → t.sl.summary.inputs = true) ∧
      t.iou =
        { s.iou with
          inputs := t.iou.inputs, changeSet := t.iou.changeSet, outputs := t.iou.outputs, sampled := t.iou.sampled
          settling := t.iou.settling } ∧
      (∀ j : Fin 16, t.pins.contacts.getLsbD j.val = if j = i then active else s.pins.contacts.getLsbD j.val) ∧
      t.cfs = s.cfs ∧ t.pt = s.pt ∧ t.sl = { s.sl with summary := t.sl.summary, attn := t.sl.attn }

/-- R170 to R173: a debounced change, at the sample that made the run reach the debounce count, enters the change set
and sets INPUTS in every mode; in CONFIG it reaches no other block. Without that sample, at another level, below the
count as it stands, or at the debounced value's own level there is no change; that the sample of a millisecond is
settled by a command of its own is the model's choice (log entry 41). -/
def Obligations.InputChanged : Prop :=
  (∀ (s : State) (i : Fin 16) (active : Bool) (line : LineLevel), ¬ChangeDue i active s →
    exec (.debouncedChange i active line) s = .next s) ∧
  ∀ (s : State) (i : Fin 16) (active : Bool) (line : LineLevel), ChangeDue i active s →
    ∃ t, exec (.debouncedChange i active line) s = .next t ∧
      cell t.iou.inputs i = { cell s.iou.inputs i with value := levelOf active } ∧
      (∀ j : Fin 16, t.iou.settling.getLsbD j.val = (s.iou.settling.getLsbD j.val && decide (j ≠ i))) ∧
      (∀ j, j ≠ i → cell t.iou.inputs j = cell s.iou.inputs j) ∧
      (∀ j : Fin 16, t.iou.changeSet.getLsbD j.val = (decide (j = i) || s.iou.changeSet.getLsbD j.val)) ∧
      t.iou =
        { s.iou with
          inputs := t.iou.inputs, changeSet := t.iou.changeSet, outputs := t.iou.outputs, settling := t.iou.settling } ∧
      t.sl.summary.inputs = true ∧ t.cfs = s.cfs ∧ t.pt = s.pt ∧
      t.sl = { s.sl with summary := t.sl.summary, attn := t.sl.attn } ∧
      (s.rsq.mode = .config → t = { s.sense line with iou := t.iou, sl := t.sl })

/-- R34, R77, R78, R109, R110, R172: what an input delivers from JOIN onward: an ACK, RAISE or LOWER button a notice
at its rising edge, the latter two also the command to the poles of a POLE station; the first STOP_BUTTON a DESK_STOP;
a CHANNEL_REQ input the request of its channel; and a STOWED input a hooked pole, or one that has left its hook (R5,
R17, R18). A GENERAL input reaches no block: where nothing else is to settle it moves no pole, entry, channel or
allowance. A notice that finds the queue full waits in the holding place (R129). That a RAISING pole's mark is cleared
as it is lowered is the model's reading (log entry 25); that the sample of a millisecond is settled by a command of
its own, and that each pole a LOWER names is judged before the wait of the other ends, are its choices (log entries 41
and 46). -/
def Obligations.InputsDeliver : Prop :=
  ∀ (s : State) (i : Fin 16) (active : Bool) (line : LineLevel), ChangeDue i active s →
    s.rsq.mode ≠ .config →
    ∃ t, exec (.debouncedChange i active line) s = .next t ∧
      (let rising := (cell s.iou.inputs i).value = .inactive ∧ active = true
       match s.inputFn i with
       | .ackButton =>
         (rising → s.rsq.queue.length < 8 → s.rsq.holding = none → .ackAll ∈ t.rsq.queue) ∧
           (rising → Settled s → Placed .ackAll (s.sense line) t) ∧
           (¬rising → (.ackAll ∈ t.rsq.queue ↔ .ackAll ∈ s.rsq.queue))
       | .raiseButton =>
         (rising → s.rsq.queue.length < 8 → s.rsq.holding = none → .command .raise .both ∈ t.rsq.queue) ∧
           (rising → Settled s → s.role ≠ .pole → Placed (.command .raise .both) (s.sense line) t) ∧
           (rising → s.role = .pole → Commanded .raise .both s t)
       | .lowerButton =>
         (rising → s.rsq.queue.length < 8 → s.rsq.holding = none → .command .lower .both ∈ t.rsq.queue) ∧
           (rising → Settled s → s.role ≠ .pole → Placed (.command .lower .both) (s.sense line) t) ∧
           (rising → s.role = .pole → Commanded .lower .both s t)
       | .stopButton =>
         active = true → s.activeStops = 0 → HasPlace (.station s.own) .deskStop s →
           ListedPending (.station s.own) .deskStop t ∧ t.ca.budget = 0 ∧ t.ca.allowance = 0
       | .channelReq k =>
         ((s.channelCfg k).source = .inputEdge → rising → (s.channel k).state = .off → (s.channel k).requested = false →
           t.channel k = { s.channel k with requested := true, state := .waiting } ∧ t.sl.summary.channels = true) ∧
         ((s.channelCfg k).source = .inputLevel → active = true → (s.channel k).state = .off →
           (s.channel k).requested = false →
           t.channel k = { s.channel k with requested := true, state := .waiting } ∧ t.sl.summary.channels = true) ∧
         ((s.channelCfg k).source = .inputLevel → active = false → (s.channel k).requested = true →
           (∀ j, j ≠ i → s.inputFn j = .channelReq k → s.inputActive j = false) →
           (t.channel k).requested = false ∧ (t.channel k).state ≠ .on ∧ t.sl.summary.channels = true)
       | .general =>
         SameRounds (s.sense line).rsq t ∧
           (Settled s → t.rsq = (s.sense line).rsq ∧ t.ps = s.ps ∧ t.alc = s.alc ∧ t.ll = s.ll ∧ t.ca = s.ca)
       | .stowed x =>
         SameRounds (s.sense line).rsq t ∧
           (s.role = .pole → s.ps.supervising = true → s.stowedInput x = some i →
             (active = true →
               (s.pole x).state = .lowering ∨ (s.pole x).state = .stuck ∨
                 (s.pole x).state = .initial ∧ (s.pole x).qualifying = true →
               t.pole x =
                 { s.pole x with
                   state := .stowed, stateTimer := none, qualifyTimer := none, confirmTimer := none, quietTimer := none
                   qualified := false, qualifying := false }) ∧
             ((cell s.iou.inputs i).value = .active → (s.pole x).state = .stowed →
               t.pole x =
                 { s.pole x with
                   state := .lowering, stateTimer := some 0, qualifyTimer := none, confirmTimer := none
                   quietTimer := none, qualified := false, qualifying := false }) ∧
             ((s.pole x).state = .onWire ∨ (s.pole x).state = .suspect ∨ (s.pole x).state = .lowerWait ∨
               (s.pole x).state = .raising ∧ (s.pole x).qualified = false → t.pole x = s.pole x)))

/-- R177, R178: a word of 16 bits sets its latch, clamped, fresh and of age 0; a word of another length is counted and
changes nothing else. R3: at a LINE_V arrival in a POLE station from JOIN onward the line voltage is the value, the
band follows the table, and a change of band sets POLES. R16: a CURR arrival starts the quiet timer of a LOWER_WAIT
pole when the quiet condition comes to hold, and stops it when it does not. R69: a DRAWN arrival starts and stops the
overdraw timer, and a draw within the allowance and its margin clears the flag. -/
def Obligations.SampleTaken : Prop :=
  (∀ (s : State) (word : Half) (line : LineLevel),
      (∃ t, exec (.sampleWord word line) s = .next t ∧
        (∀ c, t.latch c =
          if c.val = word.toNat / 8192 then ⟨min (channelMax c) (word.toNat % 8192), 0, false⟩ else s.latch c) ∧
        t.iou = { s.iou with latches := t.iou.latches, outputs := t.iou.outputs } ∧
        (s.rsq.mode = .config → t = { s.sense line with iou := t.iou, sl := t.sl }) ∧
        (s.role ≠ .pole → t.ps = s.ps) ∧ t.cfs = s.cfs ∧ t.pt = s.pt ∧ t.pending = s.pending ∧ SamePins s t ∧
        t.sl = { s.sl with summary := t.sl.summary, attn := t.sl.attn } ∧ SameRounds (s.sense line).rsq t) ∧
      ∀ bits, bits ≠ 16 →
        exec (.sampleWordDiscarded bits) s =
          .next { s with iou := { s.iou with sampleErrors := min 255 (s.iou.sampleErrors + 1) } }) ∧
  (∀ (s : State) (x : PoleId) (word : Half) (line : LineLevel), s.rsq.mode ≠ .config → s.role = .pole →
      s.ps.supervising = true → word.toNat / 8192 = 2 ∨ word.toNat / 8192 = 3 → (s.pole x).state = .lowerWait →
      ∃ t, exec (.sampleWord word line) s = .next t ∧
        t.pole x =
          { s.pole x with
            quietTimer :=
              if t.fresh currPChannel = true ∧ t.fresh currNChannel = true ∧
                  (t.latch currPChannel).value ≤ s.poleCfg.quiet ∧ (t.latch currNChannel).value ≤ s.poleCfg.quiet then
                (s.pole x).quietTimer <|> some 0
              else none }) ∧
  (∀ (s : State) (word : Half) (line : LineLevel), s.rsq.mode ≠ .config → word.toNat / 8192 = 5 →
      ∃ t, exec (.sampleWord word line) s = .next t ∧
        (let above := t.ca.allowance + s.cfs.settings.apportion.overdrawMargin < min 2047 (word.toNat % 8192)
         (above → t.ca.overdrawTimer = (s.ca.overdrawTimer <|> some 0) ∧ t.ca.overdrawFlag = s.ca.overdrawFlag) ∧
           (¬above → t.ca.overdrawTimer = none ∧ t.ca.overdrawFlag = false))) ∧
  ∀ (s : State) (word : Half) (line : LineLevel), s.rsq.mode ≠ .config → s.role = .pole → word.toNat / 8192 = 4 →
    s.poleCfg.tGap + s.poleCfg.hyst ≤ s.poleCfg.tLow →
    ∃ t, exec (.sampleWord word line) s = .next t ∧
      (let v := min 1023 (word.toNat % 8192)
       let g := s.poleCfg
       t.ps.lineVoltage = v ∧
         (v < g.tGap → t.ps.band = .none) ∧
         (g.tGap ≤ v → v < g.tGap + g.hyst → t.ps.band = if s.ps.band = .none then .none else .low) ∧
         (g.tGap + g.hyst ≤ v → v < g.tLow → t.ps.band = .low) ∧
         (g.tLow ≤ v → v < g.tLow + g.hyst → t.ps.band = if s.ps.band = .normal then .normal else .low) ∧
         (g.tLow + g.hyst ≤ v → t.ps.band = .normal) ∧
         (t.ps.band ≠ s.ps.band → t.sl.summary.poles = true))

/-- R4, R5, R8, R9, R11 to R13, R15, R17, R18: what an elevation arriving at a pole under supervision makes of the
pole, in each of its states. The mark and the timers cleared at entry to LOWERING are the model's reading (log entry
25). -/
def Obligations.ElevationJudged : Prop :=
  ∀ (s : State) (x : PoleId) (word : Half) (line : LineLevel), s.rsq.mode ≠ .config → s.role = .pole →
    s.ps.supervising = true → word.toNat / 8192 = (elevChannel x).val →
    ∃ t, exec (.sampleWord word line) s = .next t ∧
      (let e := min 900 (word.toNat % 8192)
       let r := s.pole x
       let jump := r.elevation + s.poleCfg.dropStep ≤ e
       let inside := s.poleCfg.contactLo ≤ e ∧ e ≤ s.poleCfg.contactHi
       (r.state = .onWire ∨ r.state = .suspect ∨ r.state = .lowerWait → jump →
         t.pole x =
           { ({ r with drops := min 255 (r.drops + 1) } : Pole).lowered (s.stowedClosed x) with elevation := e } ∧
         (HasPlace (.station s.own) (dropCause x) s → ListedPending (.station s.own) (dropCause x) t) ∧
         (HasPlace (.station s.own) (dropCause x) s → t.ca.lineCondition = .alarm)) ∧
       (r.state = .onWire → ¬jump →
         t.pole x =
           if inside then { r with elevation := e }
           else { r with elevation := e, state := .suspect, confirmTimer := some 0 }) ∧
       (r.state = .suspect → ¬jump →
         t.pole x =
           if inside then
             { r with elevation := e, state := .onWire, confirmTimer := none, bounces := min 255 (r.bounces + 1) }
           else { r with elevation := e, confirmTimer := r.confirmTimer <|> some 0 }) ∧
       (r.state = .lowerWait → ¬jump →
         t.pole x =
           if inside then
             if r.confirmTimer.isSome then
               { r with elevation := e, confirmTimer := none, bounces := min 255 (r.bounces + 1) }
             else { r with elevation := e }
           else { r with elevation := e, confirmTimer := r.confirmTimer <|> some 0 }) ∧
       (r.state = .stowed ∨ r.state = .lowering ∨ r.state = .stuck → t.pole x = { r with elevation := e }) ∧
       (r.state = .raising → r.qualified = false →
         t.pole x =
           { r with
             elevation := e
             qualifyTimer := if inside ∧ s.ps.band ≠ .none then r.qualifyTimer <|> some 0 else none }) ∧
       (r.state = .raising → r.qualified = true → ¬inside →
         t.pole x =
           { r with elevation := e, qualifyTimer := none, qualified := false, stateTimer := some 0 }) ∧
       (r.state = .initial → r.qualifying = true → ¬inside →
         t.pole x = { r.lowered (s.stowedClosed x) with elevation := e }) ∧
       (r.state = .initial → r.qualifying = false → r.qualified = false → s.stowedKnown x = true →
         t.pole x =
           if s.stowedClosed x = true then { r.lowered true with elevation := e }
           else if inside then
             { r with
               elevation := e, qualifying := true
               qualifyTimer := if s.ps.band ≠ .none then r.qualifyTimer <|> some 0 else none }
           else { r.lowered false with elevation := e }))

/-- R20, R24, R179: the fresh latches of the map whose ages stand at sample_timeout or above become stale, with their
values and ages kept, and no other changes; a stale elevation stops its pole's confirm timer; and in a POLE station with a
pole out of its hook a newly stale ELEV or LINE_V is announced. -/
def Obligations.LatchesStale : Prop :=
  ∀ (s : State) (m : Byte) (line : LineLevel),
    ∃ t, exec (.latchStale m line) s = .next t ∧
      (∀ c : Fin 8, t.latch c =
        if m.getLsbD c.val = true ∧ s.fresh c = true ∧ s.poleCfg.sampleTimeout ≤ (s.latch c).age then
          { s.latch c with stale := true }
        else s.latch c) ∧
      t.iou = { s.iou with latches := t.iou.latches, outputs := t.iou.outputs } ∧ t.cfs = s.cfs ∧ t.pt = s.pt ∧
      t.pending = s.pending ∧ SamePins s t ∧ SameRounds (s.sense line).rsq t ∧
      (s.rsq.mode ≠ .config → s.role = .pole → s.ps.supervising = true →
        (∀ x, m.getLsbD (elevChannel x).val = true → s.latchDue (elevChannel x) = true →
          (t.pole x).confirmTimer = none ∧ (t.pole x).drops = (s.pole x).drops ∧
            ((s.pole x).state = .raising ∨ (s.pole x).state = .initial ∧ (s.pole x).qualifying = true →
              (t.pole x).qualifyTimer = none ∧ (t.pole x).qualified = false)) ∧
        ∀ d, sensorDetails.find? (fun d => m.getLsbD (detailCode d) && s.latchDue (detailChannel d)) = some d →
          (∃ x, (s.pole x).state ≠ .stowed ∧ (s.pole x).state ≠ .initial) →
          HasPlace (.station s.own) .sensorLoss s →
          ∃ e ∈ t.alarms, e.hasKey (.station s.own) .sensorLoss = true ∧ e.state = .pending ∧ e.detail = some d)

/-! ### Timers -/

/-- R8: expiry of a qualify timer that has reached qualify_ms: the pole goes to ON_WIRE alone, both go together, or
the pole takes its qualified mark and waits for the other. Before that the expiry does not occur. -/
def Obligations.QualifyExpires : Prop :=
  (∀ (s : State) (x : PoleId), ¬Reached (s.pole x).qualifyTimer s.poleCfg.qualifyMs →
    exec (.qualifyTimerExpiry x) s = .next s) ∧
  ∀ (s : State) (x : PoleId), Reached (s.pole x).qualifyTimer s.poleCfg.qualifyMs → (s.pole x).isQualifying = true →
    ∃ t, exec (.qualifyTimerExpiry x) s = .next t ∧
      (let r := s.pole x
       let o := s.pole x.other
       let on (r : Pole) : Pole :=
         { r with state := .onWire, qualifying := false, qualified := false, stateTimer := none, qualifyTimer := none }
       if o.isQualifying = false then t.pole x = on r
       else if o.qualified = true then t.pole x = on r ∧ t.pole x.other = on o
       else
         t.pole x = { r with qualified := true, qualifyTimer := none, stateTimer := none } ∧ t.pole x.other = o)

/-- R9, R10, R12, R13, R15 to R17: the other expiries of a pole's timers, each at its setting or figure and in the
state that runs the timer, and none before it. The mark and the timers cleared at entry to LOWERING are the model's
reading (log entry 25). -/
def Obligations.PoleTimersExpire : Prop :=
  ∀ (s : State) (x : PoleId) (line : LineLevel),
    let r := s.pole x
    (¬(r.state = .raising ∧ Reached r.stateTimer s.poleCfg.raiseMax) → exec (.raiseMaxExpiry x) s = .next s) ∧
    (¬Reached r.confirmTimer s.poleCfg.confirmMs → exec (.confirmTimerExpiry x line) s = .next s) ∧
    (¬Reached r.quietTimer 20 → exec (.quietTimerExpiry x) s = .next s) ∧
    (¬(r.state = .lowerWait ∧ Reached r.stateTimer s.poleCfg.lowerWaitMax) →
      exec (.lowerWaitMaxExpiry x) s = .next s) ∧
    (¬(r.state = .lowering ∧ Reached r.stateTimer s.poleCfg.lowerMax) → exec (.lowerMaxExpiry x) s = .next s) ∧
    (r.state = .raising → Reached r.stateTimer s.poleCfg.raiseMax →
      ∃ t, exec (.raiseMaxExpiry x) s = .next t ∧
        t.pole x = { r.lowered (s.stowedClosed x) with outcome := .raiseFailed } ∧
        (s.rsq.mode ≠ .config → s.role = .pole → s.ps.supervising = true → (s.pole x.other).isQualifying = true →
          (s.pole x.other).qualified = true → (t.pole x.other).state = .onWire)) ∧
    (r.state = .suspect ∨ r.state = .lowerWait → Reached r.confirmTimer s.poleCfg.confirmMs →
      ∃ t, exec (.confirmTimerExpiry x line) s = .next t ∧
        t.pole x = ({ r with drops := min 255 (r.drops + 1) } : Pole).lowered (s.stowedClosed x) ∧
        (HasPlace (.station s.own) (dropCause x) s → ListedPending (.station s.own) (dropCause x) t)) ∧
    (r.state = .lowerWait → Reached r.quietTimer 20 →
      ∃ t, exec (.quietTimerExpiry x) s = .next t ∧ t.pole x = r.lowered (s.stowedClosed x)) ∧
    (r.state = .lowerWait → Reached r.stateTimer s.poleCfg.lowerWaitMax →
      ∃ t, exec (.lowerWaitMaxExpiry x) s = .next t ∧ t.pole x = r.lowered (s.stowedClosed x)) ∧
    (r.state = .lowering → Reached r.stateTimer s.poleCfg.lowerMax →
      ∃ t, exec (.lowerMaxExpiry x) s = .next t ∧
        t.pole x = { r with state := .stuck, stateTimer := none, outcome := .lowerFailed })

/-- R22, R23, R42: the gap timer's expiry at gap_max lists LINE_LOSS with the gap flag kept and the timer stopped; the
restore-qualify expiry at qualify_ms removes it and queues its CLEAR. Neither occurs before its time. -/
def Obligations.LineLossListedAndCleared : Prop :=
  ∀ (s : State) (line : LineLevel),
    (¬Reached s.ps.gapTimer s.poleCfg.gapMax → exec (.gapTimerExpiry line) s = .next s) ∧
    (¬Reached s.ps.restoreQualifyTimer s.poleCfg.qualifyMs → exec .restoreQualifyExpiry s = .next s) ∧
    (Reached s.ps.gapTimer s.poleCfg.gapMax → HasPlace (.station s.own) .lineLoss s → s.rsq.mode ≠ .config →
      ∃ t, exec (.gapTimerExpiry line) s = .next t ∧ ListedPending (.station s.own) .lineLoss t ∧
        t.ca.lineCondition = .alarm ∧
        (s.ps.gapFlag = true → s.ps.band = .none → (∀ x, (s.pole x).onOrSuspect = true) →
          t.ps.gapFlag = true ∧ t.ps.gapTimer = none)) ∧
    (Reached s.ps.restoreQualifyTimer s.poleCfg.qualifyMs → s.ownListed .lineLoss = true → s.queueRoom = true →
      s.rsq.holding = none →
      ∃ t, exec .restoreQualifyExpiry s = .next t ∧ t.ownListed .lineLoss = false ∧
        t.ps.restoreQualifyTimer = none ∧ .clear .lineLoss ∈ t.rsq.queue)

/-- R49, R55: the unclaimed hold's expiry removes the UNCLAIMED entry; the demand hold's expiry gives up the demand
and sets ALLOWANCE. R70, R84, R88: each overdraw expiry sets the flag, restarts the timer and sheds the
lowest-priority ON channel, if one is ON. Each occurs at its setting and not before it, nor with its timer stopped. -/
def Obligations.HoldsExpire : Prop :=
  (∀ s : State,
      (¬Reached s.alc.unclaimedHoldTimer s.cfs.settings.alarm.unclaimedHold → exec .unclaimedHoldExpiry s = .next s) ∧
      (¬Reached s.ca.demandHoldTimer s.cfs.settings.apportion.demandHold → exec .demandHoldExpiry s = .next s) ∧
      (¬Reached s.ca.overdrawTimer s.cfs.settings.apportion.overdrawMs → exec .overdrawTimerExpiry s = .next s) ∧
      (Reached s.alc.unclaimedHoldTimer s.cfs.settings.alarm.unclaimedHold →
        ∃ t, exec .unclaimedHoldExpiry s = .next t ∧ t.listed .unknown .unclaimed = false ∧
          t.alc.unclaimedHoldTimer = none ∧
          (s.alarms.length < 24 → ∀ e ∈ s.alarms, e.source ≠ .station s.own → e.hasKey .unknown .unclaimed = false →
            e ∈ t.alarms) ∧ SameRounds s.rsq t ∧ t.pt = s.pt) ∧
      (Reached s.ca.demandHoldTimer s.cfs.settings.apportion.demandHold → s.rsq.mode ≠ .config →
        ∃ t, exec .demandHoldExpiry s = .next t ∧ t.ca.demand = 0 ∧ t.ca.demandHoldTimer = none ∧
          t.ca.ownCharge =
            min 2047 (eight.map fun k => if (s.channel k).requested && !(s.channel k).masked then s.rating k else 0).sum ∧
          t.ca.allowance ≤ t.ca.ownCharge ∧ t.sl.summary.allowance = true ∧ (∀ k, Shedding (s.channel k) (t.channel k)) ∧
          CurrentFrame s t)) ∧
  ∀ s : State, Reached s.ca.overdrawTimer s.cfs.settings.apportion.overdrawMs → s.rsq.mode ≠ .config →
    s.overdrawn = true →
    ∃ t, exec .overdrawTimerExpiry s = .next t ∧ t.ca.overdrawFlag = true ∧ t.ca.overdrawTimer = some 0 ∧
      t.ca.demand = s.ca.demand ∧ t.ca.ownCharge = s.formCharge ∧ CurrentFrame s t ∧
      (∀ k, (s.channel k).state = .on → (∀ j, (s.channel j).state = .on → rank s j ≤ rank s k) →
        t.channel k = { s.channel k with state := .shed, shedCause := .overdraw } ∧
          ∀ j, j ≠ k → (s.channel j).state ≠ .on → t.channel j = s.channel j) ∧
      ((∀ k, (s.channel k).state ≠ .on) → t.ll.channels = s.ll.channels) ∧
      ∀ k, Shedding (s.channel k) (t.channel k)

/-- R84, R90 to R93: a restore expiry, at restore_interval and not before it, restarts its timer and restores the first
channel in priority order that has room, line and band; with rotate on it becomes L. -/
def Obligations.RestoreExpires : Prop :=
  (∀ s : State, ¬Reached s.ll.restoreTimer s.cfs.settings.ladder.restoreInterval →
    exec .restoreTimerExpiry s = .next s) ∧
  ∀ s : State, Reached s.ll.restoreTimer s.cfs.settings.ladder.restoreInterval → s.rsq.mode ≠ .config → Settled s →
    ∃ t, exec .restoreTimerExpiry s = .next t ∧ t.ll.restoreTimer = some 0 ∧ t.ca.allowance = s.ca.allowance ∧
      CurrentFrame s t ∧
      ((∀ k, ¬MayRestore s k) → t.ll.channels = s.ll.channels ∧ t.ll.lowest = s.ll.lowest) ∧
      ∀ k, MayRestore s k → (∀ j, MayRestore s j → rank s k ≤ rank s j) →
        t.channel k = { s.channel k with state := .on, shedCause := .none } ∧
        (∀ j, j ≠ k → t.channel j = s.channel j) ∧
        t.ll.lowest = (if s.cfs.settings.ladder.rotate then k else s.ll.lowest) ∧
        t.onSum = s.onSum + s.rating k ∧ t.onSum + t.ca.grant = t.ca.allowance

/-- R155 to R157: a FRESH record at stale_ms becomes STALE and a STALE one at lost_ms LOST, with its stated fields and its
age kept and PEERS set; a record that a frame has set back below the limit stays as it is; and a station whose last pole
source is gone judges the line UNKNOWN (R57). -/
def Obligations.PeersAge : Prop :=
  ∀ (s : State) (a : Fin 16),
    ((s.peer a).state = .fresh → s.station.staleMs ≤ (s.peer a).age →
      ∃ t, exec (.peerStale a) s = .next t ∧ t.peer a = { s.peer a with state := .stale } ∧
        (∀ b, b ≠ a → t.peer b = s.peer b) ∧ t.sl.summary.peers = true ∧ SameRounds s.rsq t ∧
        (s.rsq.mode ≠ .config → s.role ≠ .pole → s.alarmEffect = false →
          (∀ b, b ≠ a → (s.peer b).poleSource = none) → t.ca.lineCondition = .unknown)) ∧
    ((s.peer a).state = .stale → s.station.lostMs ≤ (s.peer a).age →
      ∃ t, exec (.peerLost a) s = .next t ∧ t.peer a = { s.peer a with state := .lost } ∧
        (∀ b, b ≠ a → t.peer b = s.peer b) ∧ t.sl.summary.peers = true ∧ SameRounds s.rsq t) ∧
    ((s.peer a).age < s.station.staleMs → exec (.peerStale a) s = .next s) ∧
    ((s.peer a).age < s.station.lostMs → exec (.peerLost a) s = .next s)

/-- R119, R135: the end of a transmit-error mute puts the station in LISTEN with its error count 0; a full idle count
takes a round end and puts it in RUN, its receiver in IDLE, where a PENDING own entry asserts a break at once (R44); a
dominant line, a count below 8,192 or a mute of less than 1000 ms lets neither run out. The idle count that stays
stopped in a break or a window is the model's reading (log entry 20), and that no break is asserted while an abort is
unjudged its choice (log entry 45). -/
def Obligations.MuteAndIdleExpire : Prop :=
  ∀ s : State,
    (¬Reached s.rsq.muteTimer 1000 → exec .muteTimerExpiry s = .next s) ∧
    (s.rsq.mode = .mute → s.rsq.muteCause = .txErrors → Reached s.rsq.muteTimer 1000 →
      ∃ t, exec .muteTimerExpiry s = .next t ∧ t.rsq.mode = .listen ∧ t.rsq.muteCause = .none ∧
        t.rsq.muteTimer = none ∧ t.li = { s.li with txErrors := 0 } ∧
        t.rsq.idleCount = (if s.rsq.phase = .brk ∨ s.rsq.phase = .window then none else some 0) ∧
        t.rsq.slotCounter = s.rsq.slotCounter ∧ t.rsq.lastOwnSlot = s.rsq.lastOwnSlot ∧ t.pt = s.pt ∧
        t.sl.summary.mode = true) ∧
    (s.pins.line = .dominant ∨ s.rsq.mode ≠ .listen ∨ s.rsq.idleCount ≠ some 8192 → exec .idleCountExpiry s = .next s) ∧
    (s.rsq.mode = .listen → s.rsq.idleCount = some 8192 → s.pins.line = .recessive → ListKept s →
      ∃ t, exec .idleCountExpiry s = .next t ∧ t.rsq.mode = .run ∧ t.rsq.idleCount = none ∧ t.rsq.slotCounter = 0 ∧
        t.rsq.phase = .slot ∧ t.rsq.roundCount = (s.rsq.roundCount + 1) % 65536 ∧
        t.rsq.resyncCount = s.rsq.resyncCount ∧ t.pt = s.pt ∧ t.sl.summary.mode = true ∧
        (s.role = .pole → t.ps.supervising = true) ∧
        (s.li.driver = .released → t.li.receiver = .idle) ∧
        (s.ownPending = true → s.li.abortPending = false → t.li.driver = .brk))

/-! ### Frames received -/

/-- R36, R118, R122, R158 to R160: a valid STATUS of another station: its record is filed whole and FRESH, its causes
are compared with the list, and the slot counter and the mode follow; the resync count compares the sender with the
counter at the frame's start bit (R122), and from when that counter is kept is the model's choice (log entry 18). A
receiver in DISCARD takes no frame (R142), and one in FRAME none that its characters do not begin: that a frame
command brings the whole frame is the model's choice (log entry 42). -/
def Obligations.StatusHeard : Prop :=
  (∀ (s : State) (a : Fin 16) (b : StatusBody),
    s.li.receiver = .discard ∨ ¬s.li.reception <+: frameChars a (.status b) → exec (.statusReceived a b) s = .next s) ∧
  ∀ (s : State) (a : Fin 16) (b : StatusBody), s.hears = true → s.li.receiver ≠ .discard →
    s.li.reception <+: frameChars a (.status b) → a ≠ s.own →
    ∃ t, exec (.statusReceived a b) s = .next t ∧
      (let r := s.peer a
       let new := readStatus b
       t.peer a =
         { state := .fresh, age := 0, stated := some new
           sequenceGaps :=
             (match r.stated with
             | some old => if new.sequence = (old.sequence + 1) % 256 then r.sequenceGaps else min 255 (r.sequenceGaps + 1)
             | none => r.sequenceGaps)
           roleChanged := r.roleChanged || (match r.stated with | some old => old.role != new.role | none => false) }) ∧
      (∀ c, a ≠ c → t.peer c = s.peer c) ∧
      (∀ c ∈ setCauses, inCauseSet b.causes c = false → t.listed (.station a) c = false) ∧
      (s.alarms.length + 6 ≤ 24 → ∀ c ∈ setCauses, inCauseSet b.causes c = true →
        if s.listed (.station a) c = true then ∀ e ∈ s.alarms, e.hasKey (.station a) c = true → e ∈ t.alarms
        else ⟨.station a, c, none, .announced, .status, 0, 0⟩ ∈ t.alarms) ∧
      t.li.receiver = .idle ∧ t.li.rxErrors = s.li.rxErrors ∧ t.li.txErrors = s.li.txErrors ∧
      (if s.rsq.phase = .window then t.rsq.phase = .window ∧ t.rsq.slotCounter = s.rsq.slotCounter
        else
          t.rsq.slotCounter = min (a.val + 1) s.roundLength ∧
            t.rsq.phase = if a.val + 1 < s.roundLength then .slot else .roundEnd) ∧
      t.rsq.mode = (if s.rsq.mode = .listen then .run else s.rsq.mode) ∧
      t.rsq.resyncCount =
        (if s.rsq.mode = .listen ∨ s.rsq.phase = .window ∨ s.li.startSlot.getD s.rsq.slotCounter = a.val then s.rsq.resyncCount
        else min 255 (s.rsq.resyncCount + 1))

/-- R38 to R41, R118, R161, R204: a valid NOTICE of another station refreshes a FRESH or STALE record, moves the slot
counter, makes a station in LISTEN enter RUN, and is applied as its kind says; one with an undefined field is applied
as nothing. An own entry it acknowledges is cleared where its reason has gone (R25, R26, R34, R42). A receiver in
DISCARD takes no frame (R142), and one in FRAME none that its characters do not begin (log entry 42). A COMMAND judged
before the poles that begin supervision are settled, and a RAISING pole's mark cleared as it is lowered, are the
model's readings (log entries 37 and 25), and that each pole a COMMAND names is judged before the wait of the other
ends its choice (log entry 46). -/
def Obligations.NoticeHeard : Prop :=
  (∀ (s : State) (a : Fin 16) (b : NoticeBody),
    s.li.receiver = .discard ∨ ¬s.li.reception <+: frameChars a (.notice b) → exec (.noticeReceived a b) s = .next s) ∧
  ∀ (s : State) (a : Fin 16) (b : NoticeBody), s.hears = true → s.li.receiver ≠ .discard →
    s.li.reception <+: frameChars a (.notice b) → a ≠ s.own →
    ∃ t, exec (.noticeReceived a b) s = .next t ∧
      t.peer a =
        (let r := s.peer a
         if r.state = .fresh ∨ r.state = .stale then { r with state := .fresh, age := 0 } else r) ∧
      (∀ c, a ≠ c → t.peer c = s.peer c) ∧
      (if s.rsq.phase = .window then t.rsq.phase = .window ∧ t.rsq.slotCounter = s.rsq.slotCounter
        else
          t.rsq.slotCounter = min (a.val + 1) s.roundLength ∧
            t.rsq.phase = if a.val + 1 < s.roundLength then .slot else .roundEnd) ∧
      t.rsq.mode = (if s.rsq.mode = .listen then .run else s.rsq.mode) ∧
      (s.rsq.mode = .listen → t.rsq.idleCount = none ∧ t.rsq.resyncCount = s.rsq.resyncCount) ∧
      (s.alarms.length < 24 → ∀ e ∈ s.alarms, e.source ≠ .station s.own →
        match readNotice b with
        | some (.ack src c) => (if e.hasKey src c ∧ e.state = .announced then { e with state := .acknowledged } else e) ∈ t.alarms
        | some .ackAll => (if e.state = .announced then { e with state := .acknowledged } else e) ∈ t.alarms
        | some (.clear c) => e ∈ t.alarms ↔ e.hasKey (.station a) c = false
        | some .clearLost =>
          (e ∈ t.alarms ↔ ∀ c, e.source = .station c → (s.peer c).state ≠ .lost ∧ (s.peer c).state ≠ .absent)
        | _ => e ∈ t.alarms) ∧
      (readNotice b = some .ackAll → s.alarms.length < 24 → t.alc.unlisted = false) ∧
      (∀ action ps, readNotice b = some (.command action ps) →
        if s.role = .pole then Commanded action ps s.joined t else t.ps = s.ps) ∧
      (readNotice b = none → s.role ≠ .pole → t.ps = s.ps) ∧
      ∀ c, Acknowledges (readNotice b) c s → ListKept s →
        ∀ e ∈ s.alarms, e.hasKey (.station s.own) c = true →
          (e.state ≠ .pending → ReasonGone c s →
            t.ownListed c = false ∧
              (s.rsq.queue.length + 4 ≤ 8 → s.rsq.holding = none → .clear c ∈ t.rsq.queue)) ∧
          (c = .lineLoss ∨ c = .deskStop → e.state = .pending ∨ ¬ReasonGone c s → s.alarms.length < 24 →
            (if e.state = .announced then { e with state := .acknowledged } else e) ∈ t.alarms)

/-- R35, R37, R48, R124, R134, R162: a valid ALARM frame of another station lists its causes, or sets the unlisted
flag for those a full list has no place for, claims a window, and moves neither the slot counter nor its sender's
record; a valid frame with the own address mutes the station, and in one already muted for it ends at the receiver
(R142), claims a window if it is an ALARM (R48) and changes nothing more (R134), as the model reads these rules
together (log entries 12 and 13). A receiver in DISCARD takes no frame (R142), and one in FRAME none that its
characters do not begin (log entry 42). The MODE topic at a change of the mute cause alone is the model's reading (log
entry 11). -/
def Obligations.AlarmsAndDuplicatesHeard : Prop :=
  (∀ s : State,
    (∀ (a : Fin 16) (b : AlarmBody), s.li.receiver = .discard ∨ ¬s.li.reception <+: frameChars a (.alarm b) →
      exec (.alarmReceived a b) s = .next s) ∧
    ∀ body : FrameBody, s.li.receiver = .discard ∨ ¬s.li.reception <+: frameChars s.own body →
      exec (.duplicateAddress body) s = .next s) ∧
  ∀ s : State, s.hears = true → s.li.receiver ≠ .discard →
    (∀ (a : Fin 16) (b : AlarmBody), s.li.reception <+: frameChars a (.alarm b) → a ≠ s.own →
      ∃ t, exec (.alarmReceived a b) s = .next t ∧
        (s.alarms.length + 6 ≤ 24 → ∀ c ∈ setCauses, inCauseSet b.causes c = true →
          ∃ e ∈ t.alarms, e.hasKey (.station a) c = true ∧ e.state = .announced ∧ e.age = 0 ∧
            (s.listed (.station a) c = false →
              e.learnedBy = .alarmFrame ∧ e.repeats = 0 ∧
                e.detail = if c = .sensorLoss then detailOfCode b.detail.toNat else none)) ∧
        (24 ≤ s.alarms.length → ∀ c ∈ setCauses, inCauseSet b.causes c = true → s.listed (.station a) c = false →
          t.alc.unlisted = true) ∧
        t.alc.windowClaimed = (decide (s.rsq.phase = .window) || s.alc.windowClaimed) ∧ t.pt = s.pt ∧
        t.rsq.mode = s.rsq.mode ∧ t.rsq.slotCounter = s.rsq.slotCounter ∧ t.rsq.phase = s.rsq.phase ∧
        t.rsq.resyncCount = s.rsq.resyncCount) ∧
    (∀ body : FrameBody, s.li.reception <+: frameChars s.own body → s.rsq.muteCause ≠ .duplicate →
      ∃ t, exec (.duplicateAddress body) s = .next t ∧ t.rsq.mode = .mute ∧ t.rsq.muteCause = .duplicate ∧
        t.rsq.muteTimer = none ∧ t.ca.allowance = 0 ∧ t.pt = s.pt ∧ t.sl.summary.mode = true ∧
        t.li.driver = .released ∧
        ∀ x, s.role = .pole → s.ps.supervising = true → s.rsq.mode = .run → (s.pole x).state = .raising →
          (t.pole x).state = .lowering ∨ (t.pole x).state = .stowed) ∧
    ∀ body : FrameBody, s.li.reception <+: frameChars s.own body → s.rsq.mode = .mute →
      s.rsq.muteCause = .duplicate →
      ∃ t, exec (.duplicateAddress body) s = .next t ∧ t.rsq.mode = .mute ∧ t.rsq.muteCause = .duplicate ∧
        t.rsq.slotCounter = s.rsq.slotCounter ∧ t.rsq.phase = s.rsq.phase ∧ t.rsq.resyncCount = s.rsq.resyncCount ∧
        t.pt = s.pt ∧
        t.li =
          { s.li with
            receiver := .idle, reception := [], expected := none, startSlot := none, dominantRun := 0
            restarted := false } ∧
        t.alc.windowClaimed =
          ((match body with | .alarm _ => decide (s.rsq.phase = .window) | _ => false) || s.alc.windowClaimed) ∧
        (Settled s → t.rsq = s.rsq ∧ t.ps = s.ps ∧ t.alc.entries = s.alc.entries ∧ t.ca = s.ca ∧ t.ll = s.ll)

/-- R122, R124, R136, R138, R142, R143: a frame in error is counted once, by its kind, leaves the receiver in IDLE
where the line has fallen idle, and moves no slot counter, peer record, alarm entry or line condition; activity that
opens no frame is not counted, nor is anything met in DISCARD, which ends only as the line falls idle; characters of a
run that goes on join the frame in reception, whose expected length its header gives, and keep the slot counter of its
start bit (log entry 18); at the activity's end the receiver is IDLE. The dominant run is kept in every mode, a break
and CONFIG included. That a command shows a run that goes on is the model's choice (log entry 42). -/
def Obligations.ErrorsCounted : Prop :=
  (∀ s : State, s.hears = true →
    (∀ (chars : List Byte) (ending : RunEnding), ∃ t, exec (.receiveError chars ending) s = .next t ∧
      t.pt = s.pt ∧ t.rsq.slotCounter = s.rsq.slotCounter ∧ t.rsq.phase = s.rsq.phase ∧ t.rsq.mode = s.rsq.mode ∧
      (Settled s → t.alc = s.alc ∧ t.ca.lineCondition = s.ca.lineCondition)) ∧
    (∀ (chars : List Byte) (ending : RunEnding) (k : RxErrorKind), s.li.receiver ≠ .discard →
      judgeRun (s.li.reception ++ chars) ending = .error k →
      ∃ t, exec (.receiveError chars ending) s = .next t ∧ t.li.rxErrors = min 255 (s.li.rxErrors + 1) ∧
        t.li.lastRxError = k ∧
        t.li.receiver = (if ending ≠ .idle ∧ (k = .framing ∨ k = .length) then .discard else .idle) ∧
        t.li.reception = [] ∧ t.li.txErrors = s.li.txErrors ∧ t.sl.summary.lineErrors = true) ∧
    (∀ (first : Byte) (rest : List Byte) (ending : RunEnding),
      (first ≠ 0xA7 → judgeRun (first :: rest) ending = .noFrame) ∧
        (first = 0xA7 → rest = [] →
          (ending = .idle → judgeRun (first :: rest) ending = .error .gap) ∧
            (ending = .badStop → judgeRun (first :: rest) ending = .error .framing) ∧
            ∀ n, ending = .going n → judgeRun (first :: rest) ending = .going) ∧
        ∀ header more, first = 0xA7 → rest = header :: more →
          (header.toNat / 16 = 0 ∨ 3 < header.toNat / 16 → judgeRun (first :: rest) ending = .error .length) ∧
          ((header.toNat / 16 = 1 ∧ more.length < 16 ∨ header.toNat / 16 = 2 ∧ more.length < 6 ∨
              header.toNat / 16 = 3 ∧ more.length < 4) →
            (ending = .badStop → judgeRun (first :: rest) ending = .error .framing) ∧
              (ending = .idle → judgeRun (first :: rest) ending = .error .gap) ∧
              ∀ n, ending = .going n → judgeRun (first :: rest) ending = .going)) ∧
    (∀ (chars : List Byte) (ending : RunEnding), s.li.receiver ≠ .discard →
      judgeRun (s.li.reception ++ chars) ending = .noFrame →
      ∃ t, exec (.receiveError chars ending) s = .next t ∧ t.li.rxErrors = s.li.rxErrors ∧
        t.li.lastRxError = s.li.lastRxError ∧
        t.li.receiver = (if s.li.reception ++ chars = [] ∨ ending = .idle then .idle else .discard)) ∧
    (∀ (chars : List Byte) (n : Nat), s.li.receiver ≠ .discard →
      judgeRun (s.li.reception ++ chars) (.going n) = .going →
      ∃ t, exec (.receiveError chars (.going n)) s = .next t ∧ t.li.rxErrors = s.li.rxErrors ∧
        t.li.lastRxError = s.li.lastRxError ∧ t.li.reception = s.li.reception ++ chars ∧
        t.li.receiver = (if s.li.reception ++ chars = [] then s.li.receiver else .frame) ∧
        (s.li.reception ++ chars ≠ [] → t.li.startSlot = some (s.li.startSlot.getD s.rsq.slotCounter)) ∧
        t.li.dominantRun = min n 19 ∧ (n ≠ 0 → t.pins.line = .dominant) ∧
        (chars ≠ [] ∨ n ≠ 0 → t.rsq.idleCount = s.rsq.idleCount.map fun _ => 0) ∧
        ∀ first header more, s.li.reception ++ chars = first :: header :: more →
          (header.toNat / 16 = 1 → t.li.expected = some 18) ∧ (header.toNat / 16 = 2 → t.li.expected = some 8) ∧
            (header.toNat / 16 = 3 → t.li.expected = some 6)) ∧
    (∀ (chars : List Byte) (ending : RunEnding), s.li.receiver = .discard →
      ∃ t, exec (.receiveError chars ending) s = .next t ∧ t.li.rxErrors = s.li.rxErrors ∧
        t.li.lastRxError = s.li.lastRxError ∧ t.li.receiver = (if ending = .idle then .idle else .discard)) ∧
    (s.li.reception = [] ∨ s.li.receiver = .discard →
      ∃ t, exec .lineActivityEnd s = .next t ∧ t.li.receiver = .idle ∧ t.li.rxErrors = s.li.rxErrors ∧ t.pt = s.pt ∧
        t.rsq.slotCounter = s.rsq.slotCounter ∧ t.rsq.phase = s.rsq.phase ∧ t.rsq.mode = s.rsq.mode) ∧
    (s.li.receiver = .frame → judgeRun s.li.reception .idle = .error .gap →
      ∃ t, exec .lineActivityEnd s = .next t ∧ t.li.receiver = .idle ∧ t.li.reception = [] ∧
        t.li.rxErrors = min 255 (s.li.rxErrors + 1) ∧ t.li.lastRxError = .gap ∧ t.pt = s.pt ∧
        t.rsq.slotCounter = s.rsq.slotCounter ∧ t.rsq.phase = s.rsq.phase ∧ t.rsq.mode = s.rsq.mode)) ∧
  ∀ (s : State) (chars : List Byte) (n : Nat), s.li.stuck = false →
    (20 ≤ s.li.dominantRun →
      ∃ t, exec (.receiveError chars (.going n)) s = .next t ∧ t.pins.line = .dominant ∧
        t.li = { s.li with dominantRun := max s.li.dominantRun (min n 256) }) ∧
    (s.rsq.mode = .config → s.li.dominantRun < 20 → s.li.driver = .released →
      ∃ t, exec (.receiveError chars (.going n)) s = .next t ∧
        t.li =
          { s.li with
            dominantRun := min n 19
            restarted := s.li.restarted && decide (n ≠ 0)
            startSlot := if n = 0 ∧ s.li.receiver ≠ .frame then none else s.li.startSlot } ∧
        t.pins.line = if n = 0 then .recessive else .dominant)

/-! ### Slots and own frames -/

/-- R120, R125, R126, R144: at its own slot a station in RUN sends the notice at the head of its queue, unless its
last own-slot frame was a NOTICE, and otherwise a STATUS of the values then current; a break comes first, and a
dominant line or a start bit already taken leaves the slot unused, and so does a receiver not yet in IDLE (R124). The
allowance stated is the current one (R63, R72), in the first STATUS after a reset as in any other, where R203 has it
be 0 (log entry 40). That an abort not yet judged leaves the slot unused, and lets no break be asserted, is the
model's choice (log entry 45). The line dominant at the frame's start is the model's reading (log entry 32). -/
def Obligations.OwnSlotStarts : Prop :=
  ∀ (s : State) (line : LineLevel) (startTaken : Bool), s.rsq.mode = .run → s.rsq.phase = .slot →
    s.rsq.slotCounter = s.own.val → s.li.driver = .released →
    (s.li.receiver ≠ .idle ∨ s.li.abortPending = true → exec (.ownSlotStart line startTaken) s = .next s) ∧
    (s.statement.sequence = s.rsq.statusSequence ∧ s.statement.charge = s.ca.ownCharge ∧
      s.statement.allowance = s.ca.allowance) ∧
    (s.li.receiver = .idle → s.li.abortPending = false →
      ∃ t, exec (.ownSlotStart line startTaken) s = .next t ∧ t.rsq.lastOwnSlot = s.rsq.lastOwnSlot ∧
        t.rsq.statusSequence = s.rsq.statusSequence ∧ t.rsq.slotCounter = s.rsq.slotCounter ∧ t.pt = s.pt ∧
        (let u := s.sense line
         if u.breakWanted = true then ListKept s → t.li.driver = .brk ∧ t.li.ownFrame = none
         else if u.pins.line = .dominant ∨ startTaken = true then t.li.driver ≠ .frame
         else
           t.li.driver = .frame ∧ t.pins.line = .dominant ∧
             t.li.ownFrame =
               some
                 (match s.rsq.queue with
                 | n :: _ =>
                   if s.rsq.lastOwnSlot = .notice then
                     ⟨.status, frameChars s.own (.status (statusBody s.statement)), 0⟩
                   else ⟨.notice, frameChars s.own (.notice (noticeBody n)), 0⟩
                 | [] => ⟨.status, frameChars s.own (.status (statusBody s.statement)), 0⟩)))

/-- R121, R123, R47: a skipped slot passes the counter on; a round end sets it to 0, counts the round and clears the break
hold, and in LISTEN the idle count starts again (R119). Neither is taken while the line is driven or dominant, or the
receiver not in IDLE (R123, R124, R132). R64: at a round end taken in RUN with nothing else to settle, the
allowance goes to the share, or climbs towards it by ramp_step, and no channel is shed. -/
def Obligations.RoundsTurn : Prop :=
  (∀ s : State,
      (s.li.driver ≠ .released ∨ s.pins.line = .dominant ∨ s.li.receiver ≠ .idle →
        exec .skipInterval s = .next s ∧ exec .roundEnd s = .next s) ∧
      (s.rsq.mode = .run ∨ s.rsq.mode = .mute → s.rsq.phase = .slot → s.intervalRuns = true →
        ∃ t, exec .skipInterval s = .next t ∧ t.rsq.slotCounter = min (s.rsq.slotCounter + 1) s.roundLength ∧
          t.rsq.phase = (if s.rsq.slotCounter + 1 < s.roundLength then .slot else .roundEnd) ∧
          t.rsq.resyncCount = s.rsq.resyncCount ∧ t.rsq.roundCount = s.rsq.roundCount ∧ t.rsq.mode = s.rsq.mode ∧
          t.pt = s.pt) ∧
      (s.rsq.mode ≠ .config → s.rsq.phase = .roundEnd → s.intervalRuns = true →
        ∃ t, exec .roundEnd s = .next t ∧ t.rsq.slotCounter = 0 ∧
          t.rsq.roundCount = (s.rsq.roundCount + 1) % 65536 ∧ t.alc.breakHold = false ∧ t.rsq.mode = s.rsq.mode ∧
          t.pt = s.pt ∧ t.rsq.phase = (if s.rsq.mode = .listen then .untimed else .slot) ∧
          (s.rsq.mode = .listen → t.rsq.idleCount = some 0))) ∧
  ∀ s : State, s.rsq.mode = .run → s.rsq.phase = .roundEnd → s.intervalRuns = true → s.alc.breakHold = false →
    Settled s →
    ∃ t, exec .roundEnd s = .next t ∧ t.ca.share = s.ca.share ∧ t.ca.budget = s.ca.budget ∧
      t.ca.allowance =
        (if s.ca.share ≤ s.ca.allowance then s.ca.share
        else min s.ca.share (s.ca.allowance + s.cfs.settings.apportion.rampStep)) ∧
      t.ll = s.ll ∧ t.onSum + t.ca.grant = t.ca.allowance ∧ CurrentFrame { s with rsq := t.rsq } t

/-- R45, R122, R126, R130, R144, R146: an own frame that completes: a STATUS raises the sequence, a NOTICE leaves the
queue and is applied, an ALARM announces its entries; each passes its place and lowers the transmit error count. The
driver released in the event of completion is the model's choice (log entry 23), and that a RAISING pole's mark is
cleared as it is lowered is its reading (log entry 25), and that each pole a COMMAND names is judged before the wait
of the other ends its choice (log entry 46). -/
def Obligations.OwnFramesComplete : Prop :=
  ∀ s : State,
    (s.sending = some .status →
      ∃ t, exec .ownStatusComplete s = .next t ∧ t.rsq.lastOwnSlot = .status ∧
        t.rsq.statusSequence = (s.rsq.statusSequence + 1) % 256 ∧ t.rsq.statusSent = true ∧
        t.rsq.slotCounter = min (s.own.val + 1) s.roundLength ∧
        t.rsq.phase = (if s.own.val + 1 < s.roundLength then .slot else .roundEnd) ∧
        t.rsq.resyncCount = s.rsq.resyncCount ∧ t.li.driver ≠ .frame ∧ t.li.ownFrame = none ∧
        t.li.txErrors = s.li.txErrors - 1 ∧ t.pt = s.pt) ∧
    (∀ n rest, s.sending = some .notice → s.rsq.queue = n :: rest →
      ∃ t, exec .ownNoticeComplete s = .next t ∧ t.rsq.lastOwnSlot = .notice ∧
        (∃ more, t.rsq.queue = rest ++ s.rsq.holding.toList ++ more) ∧
        t.rsq.statusSequence = s.rsq.statusSequence ∧
        t.rsq.slotCounter = min (s.own.val + 1) s.roundLength ∧ t.li.driver ≠ .frame ∧ t.li.ownFrame = none ∧
        t.li.txErrors = s.li.txErrors - 1 ∧ t.pt = s.pt ∧
        (n = .ackAll → ∀ e ∈ t.alarms, e.state ≠ .announced) ∧
        (∀ action ps, n = .command action ps → s.rsq.mode ≠ .config → s.role = .pole → Commanded action ps s t)) ∧
    (∀ f, s.sending = some .alarm → s.li.ownFrame = some f → ListKept s →
      ∃ t, exec .ownAlarmComplete s = .next t ∧ t.rsq.lastOwnSlot = s.rsq.lastOwnSlot ∧
        t.rsq.slotCounter = s.rsq.slotCounter ∧ t.rsq.phase = s.rsq.phase ∧ t.li.driver ≠ .frame ∧
        t.li.ownFrame = none ∧ t.li.txErrors = s.li.txErrors - 1 ∧ t.pt = s.pt ∧
        t.alc.windowClaimed = (decide (s.rsq.phase = .window) || s.alc.windowClaimed) ∧
        ∀ e ∈ s.alarms, e.source = .station s.own → e.state = .pending →
          if inCauseSet (f.chars.getD 2 0) e.cause = true then { e with state := .announced } ∈ t.alarms
          else e ∈ t.alarms)

/-- R44, R135, R138, R145, R146: a character read back with any bit differing aborts the frame uncounted; the abort
judged an error is counted, and the eighth in RUN mutes the station, which then drives the line at no time (R116); the
dominant run is that of the character's last bits (R138). An ECHO_MISMATCH whose bits agree being the echo of a good
character, which moves on to the next, is the model's choice (log entry 4); that the line then stands as the
character's last bit, and that a break that waits is asserted at its recessive stop bit, where R144 has it wait for
the frame's first recessive bit, is the model's reading (log entry 32). That at a character that differs the driver is
released and a wanted break waits for the abort's judgement, at a recessive stop bit too, is the model's choice: R44
names no such condition (log entry 45). -/
def Obligations.EchoesJudged : Prop :=
  ∀ s : State,
    (∀ (f : OwnFrame) (i : Nat) (c : Byte) (readBack : BitVec 10), s.li.driver = .frame → s.li.ownFrame = some f →
      f.chars[i]? = some c → s.lineHeld = false →
      ∃ t, exec (.echoMismatch i readBack) s = .next t ∧ t.li.txErrors = s.li.txErrors ∧ t.pt = s.pt ∧
        t.rsq.slotCounter = s.rsq.slotCounter ∧ t.rsq.phase = s.rsq.phase ∧ t.rsq.lastOwnSlot = s.rsq.lastOwnSlot ∧
        t.rsq.statusSequence = s.rsq.statusSequence ∧
        (∀ k : Fin 11, (∀ j : Fin 10, 10 ≤ j.val + k.val → readBack.getLsbD j.val = false) →
          (k.val < 10 → readBack.getLsbD (9 - k.val) = true) →
          t.li.dominantRun = k.val) ∧
        (if readBack.getLsbD 0 = false ∧ (∀ k : Fin 8, readBack.getLsbD (k.val + 1) = c.getLsbD k.val) ∧
            readBack.getLsbD 9 = true then
          if s.rsq.mode = .run ∧ s.ownPending = true ∧ s.rsq.phase ≠ .window ∧ s.li.abortPending = false then
            ListKept s → t.li.driver = .brk ∧ t.li.ownFrame = none ∧ t.pins.line = .dominant
          else
            t.li.driver = .frame ∧ t.li.ownFrame = some { f with sent := i + 1 } ∧
              t.li.abortPending = s.li.abortPending ∧ t.pins.line = .recessive
        else
          t.li.driver = .released ∧ t.li.ownFrame = none ∧ t.li.abortPending = true ∧ t.li.receiver = .discard ∧
            t.pins.line = if readBack.getLsbD 9 = true then .recessive else .dominant)) ∧
    (s.li.abortPending = true → s.hears = true →
      ∃ t, exec .abortJudgedError s = .next t ∧ t.li.abortPending = false ∧
        t.li.txErrors = min 8 (s.li.txErrors + 1) ∧ t.sl.summary.lineErrors = true ∧ t.pt = s.pt ∧
        t.rsq.lastOwnSlot = s.rsq.lastOwnSlot ∧ t.rsq.statusSequence = s.rsq.statusSequence ∧
        (if 7 ≤ s.li.txErrors ∧ s.rsq.mode = .run then
          t.rsq.mode = .mute ∧ t.rsq.muteCause = .txErrors ∧ t.rsq.muteTimer = some 0 ∧ t.ca.allowance = 0 ∧
            t.li.driver = .released
        else t.rsq.mode = s.rsq.mode ∧ t.rsq.muteCause = s.rsq.muteCause))

/-! ### Breaks and windows -/

/-- R44, R148: once the line is recessive a RUN station with a PENDING own entry asserts a break outside a window,
cutting its own frame; a station with none, or not in RUN, or in a window, asserts nothing; at its end the driver is
released. The clause on a station whose abort awaits its judgement, which asserts nothing and keeps the abort waiting,
is the model's choice: R44 names no such condition (log entry 45). -/
def Obligations.BreaksDriven : Prop :=
  ∀ s : State,
    (s.lineHeld = false → s.rsq.mode = .run → s.rsq.phase ≠ .window → s.ownPending = true →
      s.li.abortPending = false → ListKept s →
      ∃ t, exec .breakAssert s = .next t ∧ t.li.driver = .brk ∧ t.li.ownFrame = none ∧ t.pins.line = .dominant ∧
        t.li.txErrors = s.li.txErrors ∧ t.rsq.lastOwnSlot = s.rsq.lastOwnSlot ∧
        t.rsq.statusSequence = s.rsq.statusSequence ∧ t.rsq.phase = s.rsq.phase ∧ t.pt = s.pt) ∧
    (s.li.driver ≠ .brk → (s.ownPending = false ∨ s.rsq.mode ≠ .run ∨ s.rsq.phase = .window ∨ s.li.abortPending = true) →
      ∃ t, exec .breakAssert s = .next t ∧
        t.li =
          if s.lineHeld = true then s.li
          else
            { s.li with
              dominantRun := 0, restarted := false
              startSlot := if s.li.receiver = .frame then s.li.startSlot else none }) ∧
    (s.li.driver = .brk → s.pins.line = .dominant →
      ∃ t, exec .breakRelease s = .next t ∧ t.li = { s.li with driver := .released } ∧ t.pins = s.pins ∧ t.pt = s.pt)

/-- R47, R87, R124, R143, R146, R147, R149: a break detection sets the break hold, abandons the timing or the window
in progress, cuts a frame in flight without a transmit error, ends a frame in reception in LENGTH (a receiver in
DISCARD had none), and leaves no line-fed channel ON; in CONFIG the run is counted alone (R136). R150: a run past 256
bit times is a stuck line, in every mode; from JOIN the line condition is then ALARM or UNKNOWN and no line-fed
channel is ON. That STUCK_LINE acts on any run that has reached 20 bit times, and on none below, is the model's choice
(log entry 43). -/
def Obligations.BreakDetected : Prop :=
  (∀ (s : State) (receiving : List Byte), s.li.dominantRun < 20 →
      ∃ t, exec (.breakDetection receiving) s = .next t ∧ t.li.dominantRun = 20 ∧ t.pins.line = .dominant ∧
        t.li.txErrors = s.li.txErrors ∧ t.rsq.mode = s.rsq.mode ∧ t.rsq.slotCounter = s.rsq.slotCounter ∧ t.pt = s.pt ∧
        (s.rsq.mode = .config →
          t.rsq = { s.rsq with idleCount := s.rsq.idleCount.map fun _ => 0 } ∧ t.alc = s.alc ∧
            t.li = { s.li with dominantRun := 20 } ∧ t.li.rxErrors = s.li.rxErrors) ∧
        (s.rsq.mode ≠ .config →
          t.rsq.phase = .brk ∧ t.rsq.windowPosition = none ∧ t.rsq.idleCount = none ∧ t.alc.breakHold = true ∧
            t.li.ownFrame = none ∧ t.li.abortPending = false ∧ t.li.receiver = .idle ∧ t.li.reception = [] ∧
            t.li.startSlot = none ∧
            t.li.driver = (if s.li.driver = .frame then .released else s.li.driver) ∧ t.ca.lineCondition = .alarm ∧
            (∀ k, t.isOn k = true → (s.channelCfg k).batteryFed = true) ∧
            (if (s.li.reception ++ receiving).head? = some 0xA7 ∧ s.li.driver ≠ .frame ∧ s.li.receiver ≠ .discard then
              t.li.rxErrors = min 255 (s.li.rxErrors + 1) ∧ t.li.lastRxError = .length ∧ t.sl.summary.lineErrors = true
            else t.li.rxErrors = s.li.rxErrors))) ∧
  ∀ s : State, (s.li.dominantRun < 20 → exec .stuckLine s = .next s) ∧ (20 ≤ s.li.dominantRun →
    ∃ t, exec .stuckLine s = .next t ∧ t.li.stuck = true ∧ t.li.dominantRun = 257 ∧ t.pins.line = .dominant ∧
      t.li = { s.li with stuck := true, dominantRun := 257 } ∧ t.pt = s.pt ∧
      SameRounds { s.rsq with idleCount := s.rsq.idleCount.map fun _ => 0 } t ∧
      (s.rsq.mode ≠ .config →
        (t.ca.lineCondition = if t.alarmEffect = true then .alarm else .unknown) ∧
          ∀ k, t.isOn k = true → (s.channelCfg k).batteryFed = true))

/-- R45, R131, R138, R147: at a break's end the window begins with position 0; at its position, which for the station
of address 0 is the break's end, a RUN station with a PENDING own entry sends its claim, and any other sends nothing.
That a run whose count was restarted ends as a break by this command is the model's choice (log entry 43). The window
and position 0 beginning in one event, and a driver still in BREAK released, or given to the claim, at the break's
end, are the model's readings (log entries 22 and 24); that the level of the line alone decides whether a claim
starts, and that none starts while an abort is unjudged, are its choices (log entries 44 and 45). -/
def Obligations.WindowsAndClaims : Prop :=
  ∀ (s : State),
    (20 ≤ s.li.dominantRun ∨ s.li.stuck = true ∨ s.li.restarted = true →
      ∃ t, exec .breakEnd s = .next t ∧ t.li.dominantRun = 0 ∧ t.li.stuck = false ∧
        t.li.restarted = false ∧ t.pt = s.pt ∧ (s.rsq.mode = .config → t.rsq = s.rsq) ∧
        (s.rsq.mode ≠ .config →
          t.rsq.phase = .window ∧ t.rsq.windowPosition = some 0 ∧ t.rsq.idleCount = none ∧
            t.alc.windowClaimed = false ∧ t.rsq.slotCounter = s.rsq.slotCounter ∧
            (if s.own = 0 ∧ s.rsq.mode = .run ∧ s.ownPending = true ∧ s.li.driver ≠ .frame ∧ s.li.abortPending = false then
              t.li.driver = .frame ∧ t.li.ownFrame = some ⟨.alarm, frameChars s.own (.alarm s.claim), 0⟩
            else
              t.li.driver = (if s.li.driver = .brk then .released else s.li.driver) ∧
                t.li.ownFrame = s.li.ownFrame))) ∧
    (∀ (p : Fin 16) (line : LineLevel), s.rsq.mode ≠ .config → s.rsq.phase = .window →
      (∀ q, s.rsq.windowPosition = some q → q < p) →
      ∃ t, exec (.claimPositionStart p line) s = .next t ∧ t.rsq.windowPosition = some p ∧ t.rsq.phase = .window ∧
        t.pt = s.pt ∧
        (if p = s.own ∧ s.rsq.mode = .run ∧ s.ownPending = true ∧ s.li.driver = .released ∧
            (s.sense line).pins.line = .recessive ∧ s.li.abortPending = false then
          t.li =
            { (s.sense line).li with
              driver := .frame, ownFrame := some ⟨.alarm, frameChars s.own (.alarm s.claim), 0⟩ }
        else t.li = (s.sense line).li)) ∧
    (∀ c, inCauseSet s.claim.causes c =
      (setCauses.contains c &&
        s.alarms.any fun e => e.source == .station s.own && e.cause == c && e.state == .pending))

/-- R44, R48, R132: a window's end begins the round-end interval with the counter at N; an unclaimed window lists
UNCLAIMED and starts its hold; and a PENDING own entry of a RUN station asserts a new break at once if the line is
recessive, so that no round end is taken for this window; on a dominant line it waits. The line is as last shown (log
entry 5), and no break is asserted while an abort is unjudged (log entry 45). -/
def Obligations.WindowCompletes : Prop :=
  ∀ s : State, s.rsq.mode ≠ .config → s.rsq.phase = .window →
    ∃ t, exec .windowComplete s = .next t ∧ t.rsq.phase = .roundEnd ∧ t.rsq.slotCounter = s.roundLength ∧
      t.rsq.windowPosition = none ∧ t.pt = s.pt ∧
      (s.alc.windowClaimed = false →
        t.alc.unclaimedHoldTimer = some 0 ∧
          (HasPlace .unknown .unclaimed s → s.alarms.length < 23 →
            ∃ e ∈ t.alarms, e.hasKey .unknown .unclaimed = true ∧ e.state = .announced ∧ e.age = 0)) ∧
      (s.alc.windowClaimed = true →
        t.alc.unclaimedHoldTimer = s.alc.unclaimedHoldTimer ∧
          (s.listed .unknown .unclaimed = false → t.listed .unknown .unclaimed = false)) ∧
      (s.rsq.mode = .run → s.ownPending = true → s.pins.line = .recessive → s.li.driver ≠ .brk →
        s.li.abortPending = false → ListKept s →
        t.li.driver = .brk ∧ exec .roundEnd t = .next t) ∧
      (s.pins.line = .dominant → t.li = s.li ∧ t.pins = s.pins)

end
end

