-- ==== Sys2Proof/Laws/State.lean ====
section
/-!
SUPPORT. One lemma per block for each replacement of a block, and for the records read and written inside the blocks; all
of them true by unfolding, so that no later proof unfolds a record update.
-/

namespace Sys2Proof
namespace Machine

@[simp] theorem withCfs_pending (s : State) (x : ConfigStore) : (s.withCfs x).pending = s.pending := rfl
@[simp] theorem withCfs_cfs (s : State) (x : ConfigStore) : (s.withCfs x).cfs = x := rfl
@[simp] theorem withCfs_li (s : State) (x : ConfigStore) : (s.withCfs x).li = s.li := rfl
@[simp] theorem withCfs_rsq (s : State) (x : ConfigStore) : (s.withCfs x).rsq = s.rsq := rfl
@[simp] theorem withCfs_pt (s : State) (x : ConfigStore) : (s.withCfs x).pt = s.pt := rfl
@[simp] theorem withCfs_ps (s : State) (x : ConfigStore) : (s.withCfs x).ps = s.ps := rfl
@[simp] theorem withCfs_alc (s : State) (x : ConfigStore) : (s.withCfs x).alc = s.alc := rfl
@[simp] theorem withCfs_ca (s : State) (x : ConfigStore) : (s.withCfs x).ca = s.ca := rfl
@[simp] theorem withCfs_ll (s : State) (x : ConfigStore) : (s.withCfs x).ll = s.ll := rfl
@[simp] theorem withCfs_iou (s : State) (x : ConfigStore) : (s.withCfs x).iou = s.iou := rfl
@[simp] theorem withCfs_sl (s : State) (x : ConfigStore) : (s.withCfs x).sl = s.sl := rfl
@[simp] theorem withCfs_pins (s : State) (x : ConfigStore) : (s.withCfs x).pins = s.pins := rfl

@[simp] theorem withLi_pending (s : State) (x : LineInterface) : (s.withLi x).pending = s.pending := rfl
@[simp] theorem withLi_cfs (s : State) (x : LineInterface) : (s.withLi x).cfs = s.cfs := rfl
@[simp] theorem withLi_li (s : State) (x : LineInterface) : (s.withLi x).li = x := rfl
@[simp] theorem withLi_rsq (s : State) (x : LineInterface) : (s.withLi x).rsq = s.rsq := rfl
@[simp] theorem withLi_pt (s : State) (x : LineInterface) : (s.withLi x).pt = s.pt := rfl
@[simp] theorem withLi_ps (s : State) (x : LineInterface) : (s.withLi x).ps = s.ps := rfl
@[simp] theorem withLi_alc (s : State) (x : LineInterface) : (s.withLi x).alc = s.alc := rfl
@[simp] theorem withLi_ca (s : State) (x : LineInterface) : (s.withLi x).ca = s.ca := rfl
@[simp] theorem withLi_ll (s : State) (x : LineInterface) : (s.withLi x).ll = s.ll := rfl
@[simp] theorem withLi_iou (s : State) (x : LineInterface) : (s.withLi x).iou = s.iou := rfl
@[simp] theorem withLi_sl (s : State) (x : LineInterface) : (s.withLi x).sl = s.sl := rfl
@[simp] theorem withLi_pins (s : State) (x : LineInterface) : (s.withLi x).pins = s.pins := rfl

@[simp] theorem withRsq_pending (s : State) (x : Sequencer) : (s.withRsq x).pending = s.pending := rfl
@[simp] theorem withRsq_cfs (s : State) (x : Sequencer) : (s.withRsq x).cfs = s.cfs := rfl
@[simp] theorem withRsq_li (s : State) (x : Sequencer) : (s.withRsq x).li = s.li := rfl
@[simp] theorem withRsq_rsq (s : State) (x : Sequencer) : (s.withRsq x).rsq = x := rfl
@[simp] theorem withRsq_pt (s : State) (x : Sequencer) : (s.withRsq x).pt = s.pt := rfl
@[simp] theorem withRsq_ps (s : State) (x : Sequencer) : (s.withRsq x).ps = s.ps := rfl
@[simp] theorem withRsq_alc (s : State) (x : Sequencer) : (s.withRsq x).alc = s.alc := rfl
@[simp] theorem withRsq_ca (s : State) (x : Sequencer) : (s.withRsq x).ca = s.ca := rfl
@[simp] theorem withRsq_ll (s : State) (x : Sequencer) : (s.withRsq x).ll = s.ll := rfl
@[simp] theorem withRsq_iou (s : State) (x : Sequencer) : (s.withRsq x).iou = s.iou := rfl
@[simp] theorem withRsq_sl (s : State) (x : Sequencer) : (s.withRsq x).sl = s.sl := rfl
@[simp] theorem withRsq_pins (s : State) (x : Sequencer) : (s.withRsq x).pins = s.pins := rfl

@[simp] theorem withPt_pending (s : State) (x : Vector Peer 16) : (s.withPt x).pending = s.pending := rfl
@[simp] theorem withPt_cfs (s : State) (x : Vector Peer 16) : (s.withPt x).cfs = s.cfs := rfl
@[simp] theorem withPt_li (s : State) (x : Vector Peer 16) : (s.withPt x).li = s.li := rfl
@[simp] theorem withPt_rsq (s : State) (x : Vector Peer 16) : (s.withPt x).rsq = s.rsq := rfl
@[simp] theorem withPt_pt (s : State) (x : Vector Peer 16) : (s.withPt x).pt = x := rfl
@[simp] theorem withPt_ps (s : State) (x : Vector Peer 16) : (s.withPt x).ps = s.ps := rfl
@[simp] theorem withPt_alc (s : State) (x : Vector Peer 16) : (s.withPt x).alc = s.alc := rfl
@[simp] theorem withPt_ca (s : State) (x : Vector Peer 16) : (s.withPt x).ca = s.ca := rfl
@[simp] theorem withPt_ll (s : State) (x : Vector Peer 16) : (s.withPt x).ll = s.ll := rfl
@[simp] theorem withPt_iou (s : State) (x : Vector Peer 16) : (s.withPt x).iou = s.iou := rfl
@[simp] theorem withPt_sl (s : State) (x : Vector Peer 16) : (s.withPt x).sl = s.sl := rfl
@[simp] theorem withPt_pins (s : State) (x : Vector Peer 16) : (s.withPt x).pins = s.pins := rfl

@[simp] theorem withPs_pending (s : State) (x : PoleSupervisor) : (s.withPs x).pending = s.pending := rfl
@[simp] theorem withPs_cfs (s : State) (x : PoleSupervisor) : (s.withPs x).cfs = s.cfs := rfl
@[simp] theorem withPs_li (s : State) (x : PoleSupervisor) : (s.withPs x).li = s.li := rfl
@[simp] theorem withPs_rsq (s : State) (x : PoleSupervisor) : (s.withPs x).rsq = s.rsq := rfl
@[simp] theorem withPs_pt (s : State) (x : PoleSupervisor) : (s.withPs x).pt = s.pt := rfl
@[simp] theorem withPs_ps (s : State) (x : PoleSupervisor) : (s.withPs x).ps = x := rfl
@[simp] theorem withPs_alc (s : State) (x : PoleSupervisor) : (s.withPs x).alc = s.alc := rfl
@[simp] theorem withPs_ca (s : State) (x : PoleSupervisor) : (s.withPs x).ca = s.ca := rfl
@[simp] theorem withPs_ll (s : State) (x : PoleSupervisor) : (s.withPs x).ll = s.ll := rfl
@[simp] theorem withPs_iou (s : State) (x : PoleSupervisor) : (s.withPs x).iou = s.iou := rfl
@[simp] theorem withPs_sl (s : State) (x : PoleSupervisor) : (s.withPs x).sl = s.sl := rfl
@[simp] theorem withPs_pins (s : State) (x : PoleSupervisor) : (s.withPs x).pins = s.pins := rfl

@[simp] theorem withAlc_pending (s : State) (x : AlarmController) : (s.withAlc x).pending = s.pending := rfl
@[simp] theorem withAlc_cfs (s : State) (x : AlarmController) : (s.withAlc x).cfs = s.cfs := rfl
@[simp] theorem withAlc_li (s : State) (x : AlarmController) : (s.withAlc x).li = s.li := rfl
@[simp] theorem withAlc_rsq (s : State) (x : AlarmController) : (s.withAlc x).rsq = s.rsq := rfl
@[simp] theorem withAlc_pt (s : State) (x : AlarmController) : (s.withAlc x).pt = s.pt := rfl
@[simp] theorem withAlc_ps (s : State) (x : AlarmController) : (s.withAlc x).ps = s.ps := rfl
@[simp] theorem withAlc_alc (s : State) (x : AlarmController) : (s.withAlc x).alc = x := rfl
@[simp] theorem withAlc_ca (s : State) (x : AlarmController) : (s.withAlc x).ca = s.ca := rfl
@[simp] theorem withAlc_ll (s : State) (x : AlarmController) : (s.withAlc x).ll = s.ll := rfl
@[simp] theorem withAlc_iou (s : State) (x : AlarmController) : (s.withAlc x).iou = s.iou := rfl
@[simp] theorem withAlc_sl (s : State) (x : AlarmController) : (s.withAlc x).sl = s.sl := rfl
@[simp] theorem withAlc_pins (s : State) (x : AlarmController) : (s.withAlc x).pins = s.pins := rfl

@[simp] theorem withCa_pending (s : State) (x : Apportioner) : (s.withCa x).pending = s.pending := rfl
@[simp] theorem withCa_cfs (s : State) (x : Apportioner) : (s.withCa x).cfs = s.cfs := rfl
@[simp] theorem withCa_li (s : State) (x : Apportioner) : (s.withCa x).li = s.li := rfl
@[simp] theorem withCa_rsq (s : State) (x : Apportioner) : (s.withCa x).rsq = s.rsq := rfl
@[simp] theorem withCa_pt (s : State) (x : Apportioner) : (s.withCa x).pt = s.pt := rfl
@[simp] theorem withCa_ps (s : State) (x : Apportioner) : (s.withCa x).ps = s.ps := rfl
@[simp] theorem withCa_alc (s : State) (x : Apportioner) : (s.withCa x).alc = s.alc := rfl
@[simp] theorem withCa_ca (s : State) (x : Apportioner) : (s.withCa x).ca = x := rfl
@[simp] theorem withCa_ll (s : State) (x : Apportioner) : (s.withCa x).ll = s.ll := rfl
@[simp] theorem withCa_iou (s : State) (x : Apportioner) : (s.withCa x).iou = s.iou := rfl
@[simp] theorem withCa_sl (s : State) (x : Apportioner) : (s.withCa x).sl = s.sl := rfl
@[simp] theorem withCa_pins (s : State) (x : Apportioner) : (s.withCa x).pins = s.pins := rfl

@[simp] theorem withLl_pending (s : State) (x : Ladder) : (s.withLl x).pending = s.pending := rfl
@[simp] theorem withLl_cfs (s : State) (x : Ladder) : (s.withLl x).cfs = s.cfs := rfl
@[simp] theorem withLl_li (s : State) (x : Ladder) : (s.withLl x).li = s.li := rfl
@[simp] theorem withLl_rsq (s : State) (x : Ladder) : (s.withLl x).rsq = s.rsq := rfl
@[simp] theorem withLl_pt (s : State) (x : Ladder) : (s.withLl x).pt = s.pt := rfl
@[simp] theorem withLl_ps (s : State) (x : Ladder) : (s.withLl x).ps = s.ps := rfl
@[simp] theorem withLl_alc (s : State) (x : Ladder) : (s.withLl x).alc = s.alc := rfl
@[simp] theorem withLl_ca (s : State) (x : Ladder) : (s.withLl x).ca = s.ca := rfl
@[simp] theorem withLl_ll (s : State) (x : Ladder) : (s.withLl x).ll = x := rfl
@[simp] theorem withLl_iou (s : State) (x : Ladder) : (s.withLl x).iou = s.iou := rfl
@[simp] theorem withLl_sl (s : State) (x : Ladder) : (s.withLl x).sl = s.sl := rfl
@[simp] theorem withLl_pins (s : State) (x : Ladder) : (s.withLl x).pins = s.pins := rfl

@[simp] theorem withIou_pending (s : State) (x : InputOutput) : (s.withIou x).pending = s.pending := rfl
@[simp] theorem withIou_cfs (s : State) (x : InputOutput) : (s.withIou x).cfs = s.cfs := rfl
@[simp] theorem withIou_li (s : State) (x : InputOutput) : (s.withIou x).li = s.li := rfl
@[simp] theorem withIou_rsq (s : State) (x : InputOutput) : (s.withIou x).rsq = s.rsq := rfl
@[simp] theorem withIou_pt (s : State) (x : InputOutput) : (s.withIou x).pt = s.pt := rfl
@[simp] theorem withIou_ps (s : State) (x : InputOutput) : (s.withIou x).ps = s.ps := rfl
@[simp] theorem withIou_alc (s : State) (x : InputOutput) : (s.withIou x).alc = s.alc := rfl
@[simp] theorem withIou_ca (s : State) (x : InputOutput) : (s.withIou x).ca = s.ca := rfl
@[simp] theorem withIou_ll (s : State) (x : InputOutput) : (s.withIou x).ll = s.ll := rfl
@[simp] theorem withIou_iou (s : State) (x : InputOutput) : (s.withIou x).iou = x := rfl
@[simp] theorem withIou_sl (s : State) (x : InputOutput) : (s.withIou x).sl = s.sl := rfl
@[simp] theorem withIou_pins (s : State) (x : InputOutput) : (s.withIou x).pins = s.pins := rfl

@[simp] theorem withSl_pending (s : State) (x : StationLink) : (s.withSl x).pending = s.pending := rfl
@[simp] theorem withSl_cfs (s : State) (x : StationLink) : (s.withSl x).cfs = s.cfs := rfl
@[simp] theorem withSl_li (s : State) (x : StationLink) : (s.withSl x).li = s.li := rfl
@[simp] theorem withSl_rsq (s : State) (x : StationLink) : (s.withSl x).rsq = s.rsq := rfl
@[simp] theorem withSl_pt (s : State) (x : StationLink) : (s.withSl x).pt = s.pt := rfl
@[simp] theorem withSl_ps (s : State) (x : StationLink) : (s.withSl x).ps = s.ps := rfl
@[simp] theorem withSl_alc (s : State) (x : StationLink) : (s.withSl x).alc = s.alc := rfl
@[simp] theorem withSl_ca (s : State) (x : StationLink) : (s.withSl x).ca = s.ca := rfl
@[simp] theorem withSl_ll (s : State) (x : StationLink) : (s.withSl x).ll = s.ll := rfl
@[simp] theorem withSl_iou (s : State) (x : StationLink) : (s.withSl x).iou = s.iou := rfl
@[simp] theorem withSl_sl (s : State) (x : StationLink) : (s.withSl x).sl = x := rfl
@[simp] theorem withSl_pins (s : State) (x : StationLink) : (s.withSl x).pins = s.pins := rfl

@[simp] theorem withPins_pending (s : State) (x : Pins) : (s.withPins x).pending = s.pending := rfl
@[simp] theorem withPins_cfs (s : State) (x : Pins) : (s.withPins x).cfs = s.cfs := rfl
@[simp] theorem withPins_li (s : State) (x : Pins) : (s.withPins x).li = s.li := rfl
@[simp] theorem withPins_rsq (s : State) (x : Pins) : (s.withPins x).rsq = s.rsq := rfl
@[simp] theorem withPins_pt (s : State) (x : Pins) : (s.withPins x).pt = s.pt := rfl
@[simp] theorem withPins_ps (s : State) (x : Pins) : (s.withPins x).ps = s.ps := rfl
@[simp] theorem withPins_alc (s : State) (x : Pins) : (s.withPins x).alc = s.alc := rfl
@[simp] theorem withPins_ca (s : State) (x : Pins) : (s.withPins x).ca = s.ca := rfl
@[simp] theorem withPins_ll (s : State) (x : Pins) : (s.withPins x).ll = s.ll := rfl
@[simp] theorem withPins_iou (s : State) (x : Pins) : (s.withPins x).iou = s.iou := rfl
@[simp] theorem withPins_sl (s : State) (x : Pins) : (s.withPins x).sl = s.sl := rfl
@[simp] theorem withPins_pins (s : State) (x : Pins) : (s.withPins x).pins = x := rfl

@[simp] theorem pole_withPole_self (ps : PoleSupervisor) (x : PoleId) (r : Pole) : (ps.withPole x r).pole x = r := by
  cases x <;> rfl

@[simp] theorem pole_withPole_other (ps : PoleSupervisor) (x : PoleId) (r : Pole) :
    (ps.withPole x r).pole x.other = ps.pole x.other := by
  cases x <;> rfl

@[simp] theorem other_pole_withPole (ps : PoleSupervisor) (x : PoleId) (r : Pole) :
    (ps.withPole x.other r).pole x = ps.pole x := by
  cases x <;> rfl

@[simp] theorem state_pole_withPole (s : State) (x : PoleId) (r : Pole) : (s.withPole x r).pole x = r := by
  cases x <;> rfl

@[simp] theorem state_pole_withPole_other (s : State) (x : PoleId) (r : Pole) :
    (s.withPole x r).pole x.other = s.pole x.other := by
  cases x <;> rfl

@[simp] theorem alarms_withAlarms (s : State) (l : List AlarmEntry) : (s.withAlarms l).alarms = l := rfl
@[simp] theorem alarms_setUnlisted (s : State) : s.setUnlisted.alarms = s.alarms := rfl
@[simp] theorem unlisted_setUnlisted (s : State) : s.setUnlisted.alc.unlisted = true := rfl
@[simp] theorem unlisted_withAlarms (s : State) (l : List AlarmEntry) :
    (s.withAlarms l).alc.unlisted = s.alc.unlisted := rfl

@[simp] theorem peer_withPeer_self (s : State) (a : Fin 16) (r : Peer) : (s.withPeer a r).peer a = r := by
  simp [State.peer, State.withPeer]

theorem peer_withPeer_ne (s : State) {a b : Fin 16} (r : Peer) (h : b ≠ a) : (s.withPeer a r).peer b = s.peer b := by
  simp [State.peer, State.withPeer, cell_setCell_ne _ _ h]

@[simp] theorem channel_withChannel_self (s : State) (k : Fin 8) (c : Channel) : (s.withChannel k c).channel k = c := by
  simp [State.channel, State.withChannel]

theorem channel_withChannel_ne (s : State) {j k : Fin 8} (c : Channel) (h : j ≠ k) :
    (s.withChannel k c).channel j = s.channel j := by
  simp [State.channel, State.withChannel, cell_setCell_ne _ _ h]

@[simp] theorem latch_withLatch_self (s : State) (c : Fin 8) (x : Latch) : (s.withLatch c x).latch c = x := by
  simp [State.latch, State.withLatch]

theorem latch_withLatch_ne (s : State) {c d : Fin 8} (x : Latch) (h : d ≠ c) : (s.withLatch c x).latch d = s.latch d := by
  simp [State.latch, State.withLatch, cell_setCell_ne _ _ h]

@[simp] theorem input_withInput_self (s : State) (i : Fin 16) (x : Input) : cell (s.withInput i x).iou.inputs i = x := by
  simp [State.withInput]

@[simp] theorem taking_li (s : State) (r : ReceiverState) (l : List Byte) :
    (s.taking r l).li =
      { s.li with
        receiver := r, reception := l, expected := expectedLength l
        startSlot := if r = .frame then s.li.startSlot else none } := rfl

@[simp] theorem startSeen_li (s : State) :
    s.startSeen.li = { s.li with startSlot := s.li.startSlot <|> some s.rsq.slotCounter } := rfl

@[simp] theorem lineTo_recessive_li (s : State) :
    (s.lineTo .recessive).li =
      { s.li with
        dominantRun := 0, restarted := false
        startSlot := if s.li.receiver = .frame then s.li.startSlot else none } := rfl

@[simp] theorem restartRun_li (s : State) :
    s.restartRun.li =
      { s.li with
        dominantRun := 0
        restarted :=
          s.li.restarted ||
            (s.pins.line == .dominant && (decide (Figures.breakBits ≤ s.li.dominantRun) || s.li.stuck)) } := rfl

@[simp] theorem lineTo_recessive_rsq (s : State) : (s.lineTo .recessive).rsq = s.rsq := rfl

theorem lineTo_dominant_li (s : State) :
    (s.lineTo .dominant).li = if s.hears && s.li.receiver == .idle then s.startSeen.li else s.li := by
  let t := s.withPins { s.pins with line := .dominant }
  have e : (s.lineTo .dominant).li = (if t.hears && t.li.receiver == .idle then t.startSeen else t).li := rfl
  rw [e, apply_ite State.li]
  rfl

@[simp] theorem lineTo_dominant_rsq (s : State) :
    (s.lineTo .dominant).rsq = { s.rsq with idleCount := s.rsq.idleCount.map fun _ => 0 } := by
  unfold State.lineTo
  dsimp only
  split <;> rfl

@[simp] theorem lineTo_pins (s : State) (l : LineLevel) : (s.lineTo l).pins = { s.pins with line := l } := by
  cases l
  · rfl
  · unfold State.lineTo
    dsimp only
    split <;> rfl

@[simp] theorem strapped_pins (s : State) (b : Bool) : (s.strapped b).pins = { s.pins with lrateHigh := b } := rfl

@[simp] theorem peerGoesStale_peer (s : State) (a : Fin 16) :
    (s.peerGoesStale a).peer a = { s.peer a with state := .stale } := by
  simp [State.peerGoesStale]

@[simp] theorem peerGoesLost_peer (s : State) (a : Fin 16) :
    (s.peerGoesLost a).peer a = { s.peer a with state := .lost } := by
  simp [State.peerGoesLost]

/-! ### What each condition of the line and of ageing asks -/

@[simp] theorem assembles_iff (s : State) : s.assembles = true ↔ s.li.receiver ≠ .discard := by
  simp [State.assembles]

theorem hears_iff (s : State) :
    s.hears = true ↔
      s.rsq.mode ≠ .config ∧ s.li.driver = .released ∧ s.li.dominantRun < Figures.breakBits ∧ s.li.stuck = false := by
  simp [State.hears, and_assoc]

theorem receives_iff (s : State) (a : Fin 16) (b : FrameBody) :
    s.receives a b = true ↔ s.hears = true ∧ s.li.receiver ≠ .discard ∧ s.li.reception <+: frameChars a b := by
  simp [State.receives, and_assoc]

theorem intervalRuns_iff (s : State) :
    s.intervalRuns = true ↔ s.li.driver = .released ∧ s.pins.line = .recessive ∧ s.li.receiver = .idle := by
  simp [State.intervalRuns, and_assoc]

theorem lineHeld_iff (s : State) :
    s.lineHeld = true ↔ Figures.breakBits ≤ s.li.dominantRun ∨ s.li.stuck = true ∨ s.li.driver = .brk := by
  simp [State.lineHeld, or_assoc]

theorem due_iff (t : Timer) (limit : Nat) : Timer.due limit t = true ↔ Reached t limit := by
  cases t <;> simp [Timer.due, Reached]

theorem idleCountDue_iff (s : State) :
    s.idleCountDue = true ↔
      s.rsq.mode = .listen ∧ s.rsq.idleCount = some Figures.idleBits ∧ s.pins.line = .recessive := by
  simp [State.idleCountDue, and_assoc]

theorem changeDue_iff (s : State) (i : Fin 16) (active : Bool) :
    s.changeDue i active = true ↔ ChangeDue i active s := by
  unfold State.changeDue ChangeDue Input.settles
  by_cases h : (cell s.iou.inputs i).lastRaw = active <;> simp [h]

theorem staleDue_iff (s : State) (a : Fin 16) :
    s.staleDue a = true ↔ (s.peer a).state = .fresh ∧ s.station.staleMs ≤ (s.peer a).age := by
  simp [State.staleDue]

theorem lostDue_iff (s : State) (a : Fin 16) :
    s.lostDue a = true ↔ (s.peer a).state = .stale ∧ s.station.lostMs ≤ (s.peer a).age := by
  simp [State.lostDue]

theorem latchDue_iff (s : State) (c : Fin 8) :
    s.latchDue c = true ↔ s.fresh c = true ∧ s.poleCfg.sampleTimeout ≤ (s.latch c).age := by
  simp [State.latchDue]

end Machine
end Sys2Proof
end

