-- ==== Sys2Proof/Laws/Frames.lean ====
section
/-!
SUPPORT. The frame of each shared operation: the blocks it leaves as they are, said once.
-/

namespace Sys2Proof
namespace Machine

/-- A property that every turn of a fold keeps holds at its end. -/
theorem foldl_keeps {α β : Type} (P : β → Prop) (f : β → α → β) (h : ∀ b a, P b → P (f b a)) (l : List α) :
    ∀ b, P b → P (l.foldl f b) := by
  induction l with
  | nil => exact fun b hb => hb
  | cons a l ih => exact fun b hb => ih _ (h b a hb)

@[simp] theorem refreshAttn_frame (s : State) :
    (s.refreshAttn).pending = s.pending ∧ (s.refreshAttn).cfs = s.cfs ∧ (s.refreshAttn).li = s.li ∧
      (s.refreshAttn).rsq = s.rsq ∧ (s.refreshAttn).pt = s.pt ∧ (s.refreshAttn).ps = s.ps ∧
      (s.refreshAttn).alc = s.alc ∧ (s.refreshAttn).ca = s.ca ∧ (s.refreshAttn).ll = s.ll ∧
      (s.refreshAttn).iou = s.iou ∧ (s.refreshAttn).pins = s.pins := by
  generalize h : s.refreshAttn = t
  unfold State.refreshAttn at h
  try dsimp only at h
  all_goals subst h; simp

@[simp] theorem setTopics_frame (s : State) (x : Topics) :
    (s.setTopics x).pending = s.pending ∧ (s.setTopics x).cfs = s.cfs ∧ (s.setTopics x).li = s.li ∧
      (s.setTopics x).rsq = s.rsq ∧ (s.setTopics x).pt = s.pt ∧ (s.setTopics x).ps = s.ps ∧
      (s.setTopics x).alc = s.alc ∧ (s.setTopics x).ca = s.ca ∧ (s.setTopics x).ll = s.ll ∧
      (s.setTopics x).iou = s.iou ∧ (s.setTopics x).pins = s.pins := by
  generalize h : s.setTopics x = t
  unfold State.setTopics at h
  try dsimp only at h
  all_goals subst h; simp

@[simp] theorem withPole_frame (s : State) (x : PoleId) (r : Pole) :
    (s.withPole x r).pending = s.pending ∧ (s.withPole x r).cfs = s.cfs ∧ (s.withPole x r).li = s.li ∧
      (s.withPole x r).rsq = s.rsq ∧ (s.withPole x r).pt = s.pt ∧ (s.withPole x r).alc = s.alc ∧
      (s.withPole x r).ca = s.ca ∧ (s.withPole x r).ll = s.ll ∧ (s.withPole x r).iou = s.iou ∧
      (s.withPole x r).sl = s.sl ∧ (s.withPole x r).pins = s.pins := by
  generalize h : s.withPole x r = t
  unfold State.withPole at h
  try dsimp only at h
  all_goals subst h; simp

@[simp] theorem withAlarms_frame (s : State) (l : List AlarmEntry) :
    (s.withAlarms l).pending = s.pending ∧ (s.withAlarms l).cfs = s.cfs ∧ (s.withAlarms l).li = s.li ∧
      (s.withAlarms l).rsq = s.rsq ∧ (s.withAlarms l).pt = s.pt ∧ (s.withAlarms l).ps = s.ps ∧
      (s.withAlarms l).ca = s.ca ∧ (s.withAlarms l).ll = s.ll ∧ (s.withAlarms l).iou = s.iou ∧
      (s.withAlarms l).sl = s.sl ∧ (s.withAlarms l).pins = s.pins := by
  generalize h : s.withAlarms l = t
  unfold State.withAlarms at h
  try dsimp only at h
  all_goals subst h; simp

@[simp] theorem setUnlisted_frame (s : State) :
    (s.setUnlisted).pending = s.pending ∧ (s.setUnlisted).cfs = s.cfs ∧ (s.setUnlisted).li = s.li ∧
      (s.setUnlisted).rsq = s.rsq ∧ (s.setUnlisted).pt = s.pt ∧ (s.setUnlisted).ps = s.ps ∧
      (s.setUnlisted).ca = s.ca ∧ (s.setUnlisted).ll = s.ll ∧ (s.setUnlisted).iou = s.iou ∧
      (s.setUnlisted).sl = s.sl ∧ (s.setUnlisted).pins = s.pins := by
  generalize h : s.setUnlisted = t
  unfold State.setUnlisted at h
  try dsimp only at h
  all_goals subst h; simp

@[simp] theorem placeEntry_frame (s : State) (e : AlarmEntry) :
    (s.placeEntry e).pending = s.pending ∧ (s.placeEntry e).cfs = s.cfs ∧ (s.placeEntry e).li = s.li ∧
      (s.placeEntry e).rsq = s.rsq ∧ (s.placeEntry e).pt = s.pt ∧ (s.placeEntry e).ps = s.ps ∧
      (s.placeEntry e).ca = s.ca ∧ (s.placeEntry e).ll = s.ll ∧ (s.placeEntry e).iou = s.iou ∧
      (s.placeEntry e).sl = s.sl ∧ (s.placeEntry e).pins = s.pins := by
  generalize h : s.placeEntry e = t
  unfold State.placeEntry at h
  try dsimp only at h
  repeat' split at h
  all_goals subst h; simp

@[simp] theorem raiseOwn_frame (s : State) (c : Cause) (d : Option SensorDetail) :
    (s.raiseOwn c d).pending = s.pending ∧ (s.raiseOwn c d).cfs = s.cfs ∧ (s.raiseOwn c d).li = s.li ∧
      (s.raiseOwn c d).rsq = s.rsq ∧ (s.raiseOwn c d).pt = s.pt ∧ (s.raiseOwn c d).ps = s.ps ∧
      (s.raiseOwn c d).ca = s.ca ∧ (s.raiseOwn c d).ll = s.ll ∧ (s.raiseOwn c d).iou = s.iou ∧
      (s.raiseOwn c d).sl = s.sl ∧ (s.raiseOwn c d).pins = s.pins := by
  generalize h : s.raiseOwn c d = t
  unfold State.raiseOwn at h
  try dsimp only at h
  repeat' split at h
  all_goals subst h; simp

@[simp] theorem learnAlarm_frame (s : State) (a : Fin 16) (d : Option SensorDetail) (c : Cause) :
    (s.learnAlarm a d c).pending = s.pending ∧ (s.learnAlarm a d c).cfs = s.cfs ∧ (s.learnAlarm a d c).li = s.li ∧
      (s.learnAlarm a d c).rsq = s.rsq ∧ (s.learnAlarm a d c).pt = s.pt ∧ (s.learnAlarm a d c).ps = s.ps ∧
      (s.learnAlarm a d c).ca = s.ca ∧ (s.learnAlarm a d c).ll = s.ll ∧ (s.learnAlarm a d c).iou = s.iou ∧
      (s.learnAlarm a d c).sl = s.sl ∧ (s.learnAlarm a d c).pins = s.pins := by
  generalize h : s.learnAlarm a d c = t
  unfold State.learnAlarm at h
  try dsimp only at h
  repeat' split at h
  all_goals subst h; simp

@[simp] theorem learnAlarms_frame (s : State) (a : Fin 16) (m : Byte) (d : Option SensorDetail) :
    (s.learnAlarms a m d).pending = s.pending ∧ (s.learnAlarms a m d).cfs = s.cfs ∧
      (s.learnAlarms a m d).li = s.li ∧ (s.learnAlarms a m d).rsq = s.rsq ∧ (s.learnAlarms a m d).pt = s.pt ∧
      (s.learnAlarms a m d).ps = s.ps ∧ (s.learnAlarms a m d).ca = s.ca ∧ (s.learnAlarms a m d).ll = s.ll ∧
      (s.learnAlarms a m d).iou = s.iou ∧ (s.learnAlarms a m d).sl = s.sl ∧
      (s.learnAlarms a m d).pins = s.pins := by
  unfold State.learnAlarms
  refine foldl_keeps (fun t : State =>
    t.pending = s.pending ∧ t.cfs = s.cfs ∧ t.li = s.li ∧ t.rsq = s.rsq ∧ t.pt = s.pt ∧ t.ps = s.ps ∧ t.ca = s.ca ∧ t.ll = s.ll ∧ t.iou = s.iou ∧ t.sl = s.sl ∧ t.pins = s.pins) _ ?_ _ s ?_
  · intro t c h
    try dsimp only at h ⊢
    split <;> simp [h]
  · simp

@[simp] theorem dropUnstated_frame (s : State) (a : Fin 16) (m : Byte) :
    (s.dropUnstated a m).pending = s.pending ∧ (s.dropUnstated a m).cfs = s.cfs ∧ (s.dropUnstated a m).li = s.li ∧
      (s.dropUnstated a m).rsq = s.rsq ∧ (s.dropUnstated a m).pt = s.pt ∧ (s.dropUnstated a m).ps = s.ps ∧
      (s.dropUnstated a m).ca = s.ca ∧ (s.dropUnstated a m).ll = s.ll ∧ (s.dropUnstated a m).iou = s.iou ∧
      (s.dropUnstated a m).sl = s.sl ∧ (s.dropUnstated a m).pins = s.pins := by
  generalize h : s.dropUnstated a m = t
  unfold State.dropUnstated at h
  try dsimp only at h
  all_goals subst h; simp

@[simp] theorem compareCauses_frame (s : State) (a : Fin 16) (m : Byte) :
    (s.compareCauses a m).pending = s.pending ∧ (s.compareCauses a m).cfs = s.cfs ∧
      (s.compareCauses a m).li = s.li ∧ (s.compareCauses a m).rsq = s.rsq ∧ (s.compareCauses a m).pt = s.pt ∧
      (s.compareCauses a m).ps = s.ps ∧ (s.compareCauses a m).ca = s.ca ∧ (s.compareCauses a m).ll = s.ll ∧
      (s.compareCauses a m).iou = s.iou ∧ (s.compareCauses a m).sl = s.sl ∧
      (s.compareCauses a m).pins = s.pins := by
  unfold State.compareCauses
  refine foldl_keeps (fun t : State =>
    t.pending = s.pending ∧ t.cfs = s.cfs ∧ t.li = s.li ∧ t.rsq = s.rsq ∧ t.pt = s.pt ∧ t.ps = s.ps ∧ t.ca = s.ca ∧ t.ll = s.ll ∧ t.iou = s.iou ∧ t.sl = s.sl ∧ t.pins = s.pins) _ ?_ _ _ ?_
  · intro t c h
    try dsimp only at h ⊢
    split <;> simp [h]
  · simp

@[simp] theorem ackOne_frame (s : State) (x : Source) (c : Cause) :
    (s.ackOne x c).pending = s.pending ∧ (s.ackOne x c).cfs = s.cfs ∧ (s.ackOne x c).li = s.li ∧
      (s.ackOne x c).rsq = s.rsq ∧ (s.ackOne x c).pt = s.pt ∧ (s.ackOne x c).ps = s.ps ∧ (s.ackOne x c).ca = s.ca ∧
      (s.ackOne x c).ll = s.ll ∧ (s.ackOne x c).iou = s.iou ∧ (s.ackOne x c).sl = s.sl ∧
      (s.ackOne x c).pins = s.pins := by
  generalize h : s.ackOne x c = t
  unfold State.ackOne at h
  try dsimp only at h
  all_goals subst h; simp

@[simp] theorem ackAll_frame (s : State) :
    (s.ackAll).pending = s.pending ∧ (s.ackAll).cfs = s.cfs ∧ (s.ackAll).li = s.li ∧ (s.ackAll).rsq = s.rsq ∧
      (s.ackAll).pt = s.pt ∧ (s.ackAll).ps = s.ps ∧ (s.ackAll).ca = s.ca ∧ (s.ackAll).ll = s.ll ∧
      (s.ackAll).iou = s.iou ∧ (s.ackAll).sl = s.sl ∧ (s.ackAll).pins = s.pins := by
  generalize h : s.ackAll = t
  unfold State.ackAll at h
  try dsimp only at h
  all_goals subst h; simp

@[simp] theorem clearFrom_frame (s : State) (a : Fin 16) (c : Cause) :
    (s.clearFrom a c).pending = s.pending ∧ (s.clearFrom a c).cfs = s.cfs ∧ (s.clearFrom a c).li = s.li ∧
      (s.clearFrom a c).rsq = s.rsq ∧ (s.clearFrom a c).pt = s.pt ∧ (s.clearFrom a c).ps = s.ps ∧
      (s.clearFrom a c).ca = s.ca ∧ (s.clearFrom a c).ll = s.ll ∧ (s.clearFrom a c).iou = s.iou ∧
      (s.clearFrom a c).sl = s.sl ∧ (s.clearFrom a c).pins = s.pins := by
  generalize h : s.clearFrom a c = t
  unfold State.clearFrom at h
  try dsimp only at h
  repeat' split at h
  all_goals subst h; simp

@[simp] theorem clearLost_frame (s : State) :
    (s.clearLost).pending = s.pending ∧ (s.clearLost).cfs = s.cfs ∧ (s.clearLost).li = s.li ∧
      (s.clearLost).rsq = s.rsq ∧ (s.clearLost).pt = s.pt ∧ (s.clearLost).ps = s.ps ∧ (s.clearLost).ca = s.ca ∧
      (s.clearLost).ll = s.ll ∧ (s.clearLost).iou = s.iou ∧ (s.clearLost).sl = s.sl ∧
      (s.clearLost).pins = s.pins := by
  generalize h : s.clearLost = t
  unfold State.clearLost at h
  try dsimp only at h
  all_goals subst h; simp

@[simp] theorem unclaimedWindow_frame (s : State) :
    (s.unclaimedWindow).pending = s.pending ∧ (s.unclaimedWindow).cfs = s.cfs ∧ (s.unclaimedWindow).li = s.li ∧
      (s.unclaimedWindow).rsq = s.rsq ∧ (s.unclaimedWindow).pt = s.pt ∧ (s.unclaimedWindow).ps = s.ps ∧
      (s.unclaimedWindow).ca = s.ca ∧ (s.unclaimedWindow).ll = s.ll ∧ (s.unclaimedWindow).iou = s.iou ∧
      (s.unclaimedWindow).sl = s.sl ∧ (s.unclaimedWindow).pins = s.pins := by
  generalize h : s.unclaimedWindow = t
  unfold State.unclaimedWindow at h
  try dsimp only at h
  repeat' split at h
  all_goals subst h; simp

@[simp] theorem enqueueNotice_frame (s : State) (n : Notice) :
    (s.enqueueNotice n).pending = s.pending ∧ (s.enqueueNotice n).cfs = s.cfs ∧ (s.enqueueNotice n).li = s.li ∧
      (s.enqueueNotice n).pt = s.pt ∧ (s.enqueueNotice n).ps = s.ps ∧ (s.enqueueNotice n).alc = s.alc ∧
      (s.enqueueNotice n).ca = s.ca ∧ (s.enqueueNotice n).ll = s.ll ∧ (s.enqueueNotice n).iou = s.iou ∧
      (s.enqueueNotice n).sl = s.sl ∧ (s.enqueueNotice n).pins = s.pins := by
  generalize h : s.enqueueNotice n = t
  unfold State.enqueueNotice at h
  try dsimp only at h
  all_goals subst h; simp

@[simp] theorem placeInternal_frame (s : State) (n : Notice) :
    (s.placeInternal n).pending = s.pending ∧ (s.placeInternal n).cfs = s.cfs ∧ (s.placeInternal n).li = s.li ∧
      (s.placeInternal n).pt = s.pt ∧ (s.placeInternal n).ps = s.ps ∧ (s.placeInternal n).alc = s.alc ∧
      (s.placeInternal n).ca = s.ca ∧ (s.placeInternal n).ll = s.ll ∧ (s.placeInternal n).iou = s.iou ∧
      (s.placeInternal n).sl = s.sl ∧ (s.placeInternal n).pins = s.pins := by
  generalize h : s.placeInternal n = t
  unfold State.placeInternal at h
  try dsimp only at h
  repeat' split at h
  all_goals subst h; simp

@[simp] theorem retireHead_frame (s : State) :
    (s.retireHead).pending = s.pending ∧ (s.retireHead).cfs = s.cfs ∧ (s.retireHead).li = s.li ∧
      (s.retireHead).pt = s.pt ∧ (s.retireHead).ps = s.ps ∧ (s.retireHead).alc = s.alc ∧ (s.retireHead).ca = s.ca ∧
      (s.retireHead).ll = s.ll ∧ (s.retireHead).iou = s.iou ∧ (s.retireHead).sl = s.sl ∧
      (s.retireHead).pins = s.pins := by
  generalize h : s.retireHead = t
  unfold State.retireHead at h
  try dsimp only at h
  all_goals subst h; simp

@[simp] theorem clearOwn_frame (s : State) (c : Cause) :
    (s.clearOwn c).pending = s.pending ∧ (s.clearOwn c).cfs = s.cfs ∧ (s.clearOwn c).li = s.li ∧
      (s.clearOwn c).pt = s.pt ∧ (s.clearOwn c).ps = s.ps ∧ (s.clearOwn c).ca = s.ca ∧ (s.clearOwn c).ll = s.ll ∧
      (s.clearOwn c).iou = s.iou ∧ (s.clearOwn c).sl = s.sl ∧ (s.clearOwn c).pins = s.pins := by
  generalize h : s.clearOwn c = t
  unfold State.clearOwn at h
  try dsimp only at h
  all_goals subst h; simp

@[simp] theorem setOutcome_frame (s : State) (x : PoleId) (o : CommandOutcome) :
    (s.setOutcome x o).pending = s.pending ∧ (s.setOutcome x o).cfs = s.cfs ∧ (s.setOutcome x o).li = s.li ∧
      (s.setOutcome x o).rsq = s.rsq ∧ (s.setOutcome x o).pt = s.pt ∧ (s.setOutcome x o).alc = s.alc ∧
      (s.setOutcome x o).ca = s.ca ∧ (s.setOutcome x o).ll = s.ll ∧ (s.setOutcome x o).iou = s.iou ∧
      (s.setOutcome x o).pins = s.pins := by
  generalize h : s.setOutcome x o = t
  unfold State.setOutcome at h
  try dsimp only at h
  all_goals subst h; simp

@[simp] theorem lower_frame (s : State) (x : PoleId) :
    (s.lower x).pending = s.pending ∧ (s.lower x).cfs = s.cfs ∧ (s.lower x).li = s.li ∧ (s.lower x).rsq = s.rsq ∧
      (s.lower x).pt = s.pt ∧ (s.lower x).alc = s.alc ∧ (s.lower x).ca = s.ca ∧ (s.lower x).ll = s.ll ∧
      (s.lower x).iou = s.iou ∧ (s.lower x).sl = s.sl ∧ (s.lower x).pins = s.pins := by
  generalize h : s.lower x = t
  unfold State.lower at h
  try dsimp only at h
  all_goals subst h; simp

@[simp] theorem putOnWire_frame (s : State) (x : PoleId) :
    (s.putOnWire x).pending = s.pending ∧ (s.putOnWire x).cfs = s.cfs ∧ (s.putOnWire x).li = s.li ∧
      (s.putOnWire x).rsq = s.rsq ∧ (s.putOnWire x).pt = s.pt ∧ (s.putOnWire x).alc = s.alc ∧
      (s.putOnWire x).ca = s.ca ∧ (s.putOnWire x).ll = s.ll ∧ (s.putOnWire x).iou = s.iou ∧
      (s.putOnWire x).sl = s.sl ∧ (s.putOnWire x).pins = s.pins := by
  generalize h : s.putOnWire x = t
  unfold State.putOnWire at h
  try dsimp only at h
  all_goals subst h; simp

@[simp] theorem settle_frame (s : State) (x : PoleId) :
    (s.settle x).pending = s.pending ∧ (s.settle x).cfs = s.cfs ∧ (s.settle x).li = s.li ∧
      (s.settle x).rsq = s.rsq ∧ (s.settle x).pt = s.pt ∧ (s.settle x).alc = s.alc ∧ (s.settle x).ca = s.ca ∧
      (s.settle x).ll = s.ll ∧ (s.settle x).iou = s.iou ∧ (s.settle x).sl = s.sl ∧ (s.settle x).pins = s.pins := by
  generalize h : s.settle x = t
  unfold State.settle at h
  try dsimp only at h
  repeat' split at h
  all_goals subst h; simp

@[simp] theorem examineQualify_frame (s : State) (x : PoleId) :
    (s.examineQualify x).pending = s.pending ∧ (s.examineQualify x).cfs = s.cfs ∧ (s.examineQualify x).li = s.li ∧
      (s.examineQualify x).rsq = s.rsq ∧ (s.examineQualify x).pt = s.pt ∧ (s.examineQualify x).alc = s.alc ∧
      (s.examineQualify x).ca = s.ca ∧ (s.examineQualify x).ll = s.ll ∧ (s.examineQualify x).iou = s.iou ∧
      (s.examineQualify x).sl = s.sl ∧ (s.examineQualify x).pins = s.pins := by
  generalize h : s.examineQualify x = t
  unfold State.examineQualify at h
  try dsimp only at h
  repeat' split at h
  all_goals subst h; simp

@[simp] theorem examineQuiet_frame (s : State) (x : PoleId) :
    (s.examineQuiet x).pending = s.pending ∧ (s.examineQuiet x).cfs = s.cfs ∧ (s.examineQuiet x).li = s.li ∧
      (s.examineQuiet x).rsq = s.rsq ∧ (s.examineQuiet x).pt = s.pt ∧ (s.examineQuiet x).alc = s.alc ∧
      (s.examineQuiet x).ca = s.ca ∧ (s.examineQuiet x).ll = s.ll ∧ (s.examineQuiet x).iou = s.iou ∧
      (s.examineQuiet x).sl = s.sl ∧ (s.examineQuiet x).pins = s.pins := by
  generalize h : s.examineQuiet x = t
  unfold State.examineQuiet at h
  try dsimp only at h
  repeat' split at h
  all_goals subst h; simp

@[simp] theorem qualifyExpired_frame (s : State) (x : PoleId) :
    (s.qualifyExpired x).pending = s.pending ∧ (s.qualifyExpired x).cfs = s.cfs ∧ (s.qualifyExpired x).li = s.li ∧
      (s.qualifyExpired x).rsq = s.rsq ∧ (s.qualifyExpired x).pt = s.pt ∧ (s.qualifyExpired x).alc = s.alc ∧
      (s.qualifyExpired x).ca = s.ca ∧ (s.qualifyExpired x).ll = s.ll ∧ (s.qualifyExpired x).iou = s.iou ∧
      (s.qualifyExpired x).sl = s.sl ∧ (s.qualifyExpired x).pins = s.pins := by
  generalize h : s.qualifyExpired x = t
  unfold State.qualifyExpired at h
  try dsimp only at h
  repeat' split at h
  all_goals subst h; simp

@[simp] theorem raiseMaxExpired_frame (s : State) (x : PoleId) :
    (s.raiseMaxExpired x).pending = s.pending ∧ (s.raiseMaxExpired x).cfs = s.cfs ∧
      (s.raiseMaxExpired x).li = s.li ∧ (s.raiseMaxExpired x).rsq = s.rsq ∧ (s.raiseMaxExpired x).pt = s.pt ∧
      (s.raiseMaxExpired x).alc = s.alc ∧ (s.raiseMaxExpired x).ca = s.ca ∧ (s.raiseMaxExpired x).ll = s.ll ∧
      (s.raiseMaxExpired x).iou = s.iou ∧ (s.raiseMaxExpired x).sl = s.sl ∧
      (s.raiseMaxExpired x).pins = s.pins := by
  generalize h : s.raiseMaxExpired x = t
  unfold State.raiseMaxExpired at h
  try dsimp only at h
  repeat' split at h
  all_goals subst h; simp

@[simp] theorem quietExpired_frame (s : State) (x : PoleId) :
    (s.quietExpired x).pending = s.pending ∧ (s.quietExpired x).cfs = s.cfs ∧ (s.quietExpired x).li = s.li ∧
      (s.quietExpired x).rsq = s.rsq ∧ (s.quietExpired x).pt = s.pt ∧ (s.quietExpired x).alc = s.alc ∧
      (s.quietExpired x).ca = s.ca ∧ (s.quietExpired x).ll = s.ll ∧ (s.quietExpired x).iou = s.iou ∧
      (s.quietExpired x).sl = s.sl ∧ (s.quietExpired x).pins = s.pins := by
  generalize h : s.quietExpired x = t
  unfold State.quietExpired at h
  try dsimp only at h
  repeat' split at h
  all_goals subst h; simp

@[simp] theorem lowerWaitExpired_frame (s : State) (x : PoleId) :
    (s.lowerWaitExpired x).pending = s.pending ∧ (s.lowerWaitExpired x).cfs = s.cfs ∧
      (s.lowerWaitExpired x).li = s.li ∧ (s.lowerWaitExpired x).rsq = s.rsq ∧ (s.lowerWaitExpired x).pt = s.pt ∧
      (s.lowerWaitExpired x).alc = s.alc ∧ (s.lowerWaitExpired x).ca = s.ca ∧ (s.lowerWaitExpired x).ll = s.ll ∧
      (s.lowerWaitExpired x).iou = s.iou ∧ (s.lowerWaitExpired x).sl = s.sl ∧
      (s.lowerWaitExpired x).pins = s.pins := by
  generalize h : s.lowerWaitExpired x = t
  unfold State.lowerWaitExpired at h
  try dsimp only at h
  repeat' split at h
  all_goals subst h; simp

@[simp] theorem lowerMaxExpired_frame (s : State) (x : PoleId) :
    (s.lowerMaxExpired x).pending = s.pending ∧ (s.lowerMaxExpired x).cfs = s.cfs ∧
      (s.lowerMaxExpired x).li = s.li ∧ (s.lowerMaxExpired x).rsq = s.rsq ∧ (s.lowerMaxExpired x).pt = s.pt ∧
      (s.lowerMaxExpired x).alc = s.alc ∧ (s.lowerMaxExpired x).ca = s.ca ∧ (s.lowerMaxExpired x).ll = s.ll ∧
      (s.lowerMaxExpired x).iou = s.iou ∧ (s.lowerMaxExpired x).sl = s.sl ∧
      (s.lowerMaxExpired x).pins = s.pins := by
  generalize h : s.lowerMaxExpired x = t
  unfold State.lowerMaxExpired at h
  try dsimp only at h
  repeat' split at h
  all_goals subst h; simp

@[simp] theorem endWait_frame (s : State) (x : PoleId) :
    (s.endWait x).pending = s.pending ∧ (s.endWait x).cfs = s.cfs ∧ (s.endWait x).li = s.li ∧
      (s.endWait x).rsq = s.rsq ∧ (s.endWait x).pt = s.pt ∧ (s.endWait x).alc = s.alc ∧ (s.endWait x).ca = s.ca ∧
      (s.endWait x).ll = s.ll ∧ (s.endWait x).iou = s.iou ∧ (s.endWait x).sl = s.sl ∧
      (s.endWait x).pins = s.pins := by
  generalize h : s.endWait x = t
  unfold State.endWait at h
  try dsimp only at h
  repeat' split at h
  all_goals subst h; simp

@[simp] theorem drop_frame (s : State) (x : PoleId) :
    (s.drop x).pending = s.pending ∧ (s.drop x).cfs = s.cfs ∧ (s.drop x).li = s.li ∧ (s.drop x).rsq = s.rsq ∧
      (s.drop x).pt = s.pt ∧ (s.drop x).ca = s.ca ∧ (s.drop x).ll = s.ll ∧ (s.drop x).iou = s.iou ∧
      (s.drop x).sl = s.sl ∧ (s.drop x).pins = s.pins := by
  simp [State.drop]

@[simp] theorem judgeElevation_frame (s : State) (x : PoleId) (e : Nat) :
    (s.judgeElevation x e).pending = s.pending ∧ (s.judgeElevation x e).cfs = s.cfs ∧
      (s.judgeElevation x e).li = s.li ∧ (s.judgeElevation x e).rsq = s.rsq ∧ (s.judgeElevation x e).pt = s.pt ∧
      (s.judgeElevation x e).ca = s.ca ∧ (s.judgeElevation x e).ll = s.ll ∧ (s.judgeElevation x e).iou = s.iou ∧
      (s.judgeElevation x e).sl = s.sl ∧ (s.judgeElevation x e).pins = s.pins := by
  generalize h : s.judgeElevation x e = t
  unfold State.judgeElevation at h
  try dsimp only at h
  repeat' split at h
  all_goals subst h; simp

@[simp] theorem elevArrival_frame (s : State) (x : PoleId) (e : Nat) :
    (s.elevArrival x e).pending = s.pending ∧ (s.elevArrival x e).cfs = s.cfs ∧ (s.elevArrival x e).li = s.li ∧
      (s.elevArrival x e).rsq = s.rsq ∧ (s.elevArrival x e).pt = s.pt ∧ (s.elevArrival x e).ca = s.ca ∧
      (s.elevArrival x e).ll = s.ll ∧ (s.elevArrival x e).iou = s.iou ∧ (s.elevArrival x e).sl = s.sl ∧
      (s.elevArrival x e).pins = s.pins := by
  simp [State.elevArrival]

@[simp] theorem lineArrival_frame (s : State) (v : Nat) :
    (s.lineArrival v).pending = s.pending ∧ (s.lineArrival v).cfs = s.cfs ∧ (s.lineArrival v).li = s.li ∧
      (s.lineArrival v).rsq = s.rsq ∧ (s.lineArrival v).pt = s.pt ∧ (s.lineArrival v).alc = s.alc ∧
      (s.lineArrival v).ca = s.ca ∧ (s.lineArrival v).ll = s.ll ∧ (s.lineArrival v).iou = s.iou ∧
      (s.lineArrival v).sl = s.sl ∧ (s.lineArrival v).pins = s.pins := by
  generalize h : s.lineArrival v = t
  unfold State.lineArrival at h
  try dsimp only at h
  repeat' split at h
  all_goals subst h; simp

@[simp] theorem raiseOne_frame (s : State) (x : PoleId) :
    (s.raiseOne x).pending = s.pending ∧ (s.raiseOne x).cfs = s.cfs ∧ (s.raiseOne x).li = s.li ∧
      (s.raiseOne x).rsq = s.rsq ∧ (s.raiseOne x).pt = s.pt ∧ (s.raiseOne x).alc = s.alc ∧
      (s.raiseOne x).ca = s.ca ∧ (s.raiseOne x).ll = s.ll ∧ (s.raiseOne x).iou = s.iou ∧
      (s.raiseOne x).pins = s.pins := by
  generalize h : s.raiseOne x = t
  unfold State.raiseOne at h
  try dsimp only at h
  repeat' split at h
  all_goals subst h; simp

@[simp] theorem lowerOne_frame (s : State) (x : PoleId) :
    (s.lowerOne x).pending = s.pending ∧ (s.lowerOne x).cfs = s.cfs ∧ (s.lowerOne x).li = s.li ∧
      (s.lowerOne x).rsq = s.rsq ∧ (s.lowerOne x).pt = s.pt ∧ (s.lowerOne x).alc = s.alc ∧
      (s.lowerOne x).ca = s.ca ∧ (s.lowerOne x).ll = s.ll ∧ (s.lowerOne x).iou = s.iou ∧
      (s.lowerOne x).pins = s.pins := by
  generalize h : s.lowerOne x = t
  unfold State.lowerOne at h
  try dsimp only at h
  repeat' split at h
  all_goals subst h; simp

@[simp] theorem commandOne_frame (s : State) (a : PoleAction) (x : PoleId) :
    (s.commandOne a x).pending = s.pending ∧ (s.commandOne a x).cfs = s.cfs ∧ (s.commandOne a x).li = s.li ∧
      (s.commandOne a x).rsq = s.rsq ∧ (s.commandOne a x).pt = s.pt ∧ (s.commandOne a x).alc = s.alc ∧
      (s.commandOne a x).ca = s.ca ∧ (s.commandOne a x).ll = s.ll ∧ (s.commandOne a x).iou = s.iou ∧
      (s.commandOne a x).pins = s.pins := by
  generalize h : s.commandOne a x = t
  unfold State.commandOne at h
  try dsimp only at h
  repeat' split at h
  all_goals subst h; simp

@[simp] theorem commandPoles_frame (s : State) (a : PoleAction) (sel : PoleSel) :
    (s.commandPoles a sel).pending = s.pending ∧ (s.commandPoles a sel).cfs = s.cfs ∧
      (s.commandPoles a sel).li = s.li ∧ (s.commandPoles a sel).rsq = s.rsq ∧ (s.commandPoles a sel).pt = s.pt ∧
      (s.commandPoles a sel).alc = s.alc ∧ (s.commandPoles a sel).ca = s.ca ∧ (s.commandPoles a sel).ll = s.ll ∧
      (s.commandPoles a sel).iou = s.iou ∧ (s.commandPoles a sel).pins = s.pins := by
  generalize h : s.commandPoles a sel = t
  unfold State.commandPoles at h
  try dsimp only at h
  repeat' split at h
  all_goals subst h; simp

@[simp] theorem poleStale_frame (s : State) (c : Fin 8) :
    (s.poleStale c).pending = s.pending ∧ (s.poleStale c).cfs = s.cfs ∧ (s.poleStale c).li = s.li ∧
      (s.poleStale c).rsq = s.rsq ∧ (s.poleStale c).pt = s.pt ∧ (s.poleStale c).alc = s.alc ∧
      (s.poleStale c).ca = s.ca ∧ (s.poleStale c).ll = s.ll ∧ (s.poleStale c).iou = s.iou ∧
      (s.poleStale c).sl = s.sl ∧ (s.poleStale c).pins = s.pins := by
  generalize h : s.poleStale c = t
  unfold State.poleStale at h
  try dsimp only at h
  repeat' split at h
  all_goals subst h; simp

@[simp] theorem stowedChange_frame (s : State) (x : PoleId) (b c : Debounced) :
    (s.stowedChange x b c).pending = s.pending ∧ (s.stowedChange x b c).cfs = s.cfs ∧
      (s.stowedChange x b c).li = s.li ∧ (s.stowedChange x b c).rsq = s.rsq ∧ (s.stowedChange x b c).pt = s.pt ∧
      (s.stowedChange x b c).alc = s.alc ∧ (s.stowedChange x b c).ca = s.ca ∧ (s.stowedChange x b c).ll = s.ll ∧
      (s.stowedChange x b c).iou = s.iou ∧ (s.stowedChange x b c).sl = s.sl ∧
      (s.stowedChange x b c).pins = s.pins := by
  generalize h : s.stowedChange x b c = t
  unfold State.stowedChange at h
  try dsimp only at h
  repeat' split at h
  all_goals subst h; simp

@[simp] theorem confirmExpired_frame (s : State) (x : PoleId) :
    (s.confirmExpired x).pending = s.pending ∧ (s.confirmExpired x).cfs = s.cfs ∧ (s.confirmExpired x).li = s.li ∧
      (s.confirmExpired x).rsq = s.rsq ∧ (s.confirmExpired x).pt = s.pt ∧ (s.confirmExpired x).ca = s.ca ∧
      (s.confirmExpired x).ll = s.ll ∧ (s.confirmExpired x).iou = s.iou ∧ (s.confirmExpired x).sl = s.sl ∧
      (s.confirmExpired x).pins = s.pins := by
  generalize h : s.confirmExpired x = t
  unfold State.confirmExpired at h
  try dsimp only at h
  repeat' split at h
  all_goals subst h; simp

@[simp] theorem gapExpired_frame (s : State) :
    (s.gapExpired).pending = s.pending ∧ (s.gapExpired).cfs = s.cfs ∧ (s.gapExpired).li = s.li ∧
      (s.gapExpired).rsq = s.rsq ∧ (s.gapExpired).pt = s.pt ∧ (s.gapExpired).ca = s.ca ∧ (s.gapExpired).ll = s.ll ∧
      (s.gapExpired).iou = s.iou ∧ (s.gapExpired).sl = s.sl ∧ (s.gapExpired).pins = s.pins := by
  generalize h : s.gapExpired = t
  unfold State.gapExpired at h
  try dsimp only at h
  repeat' split at h
  all_goals subst h; simp

@[simp] theorem restoreQualifyExpired_frame (s : State) :
    (s.restoreQualifyExpired).pending = s.pending ∧ (s.restoreQualifyExpired).cfs = s.cfs ∧
      (s.restoreQualifyExpired).li = s.li ∧ (s.restoreQualifyExpired).pt = s.pt ∧
      (s.restoreQualifyExpired).ca = s.ca ∧ (s.restoreQualifyExpired).ll = s.ll ∧
      (s.restoreQualifyExpired).iou = s.iou ∧ (s.restoreQualifyExpired).sl = s.sl ∧
      (s.restoreQualifyExpired).pins = s.pins := by
  generalize h : s.restoreQualifyExpired = t
  unfold State.restoreQualifyExpired at h
  try dsimp only at h
  repeat' split at h
  all_goals subst h; simp

@[simp] theorem abandonRaise_frame (s : State) (old : State) (x : PoleId) :
    (s.abandonRaise old x).pending = s.pending ∧ (s.abandonRaise old x).cfs = s.cfs ∧
      (s.abandonRaise old x).li = s.li ∧ (s.abandonRaise old x).rsq = s.rsq ∧ (s.abandonRaise old x).pt = s.pt ∧
      (s.abandonRaise old x).alc = s.alc ∧ (s.abandonRaise old x).ca = s.ca ∧ (s.abandonRaise old x).ll = s.ll ∧
      (s.abandonRaise old x).iou = s.iou ∧ (s.abandonRaise old x).sl = s.sl ∧
      (s.abandonRaise old x).pins = s.pins := by
  generalize h : s.abandonRaise old x = t
  unfold State.abandonRaise at h
  try dsimp only at h
  repeat' split at h
  all_goals subst h; simp

@[simp] theorem raiseSensorLoss_frame (s : State) (old : State) :
    (s.raiseSensorLoss old).pending = s.pending ∧ (s.raiseSensorLoss old).cfs = s.cfs ∧
      (s.raiseSensorLoss old).li = s.li ∧ (s.raiseSensorLoss old).rsq = s.rsq ∧ (s.raiseSensorLoss old).pt = s.pt ∧
      (s.raiseSensorLoss old).ps = s.ps ∧ (s.raiseSensorLoss old).ca = s.ca ∧ (s.raiseSensorLoss old).ll = s.ll ∧
      (s.raiseSensorLoss old).iou = s.iou ∧ (s.raiseSensorLoss old).sl = s.sl ∧
      (s.raiseSensorLoss old).pins = s.pins := by
  generalize h : s.raiseSensorLoss old = t
  unfold State.raiseSensorLoss at h
  try dsimp only at h
  repeat' split at h
  all_goals subst h; simp

@[simp] theorem clearSensorLoss_frame (s : State) :
    (s.clearSensorLoss).pending = s.pending ∧ (s.clearSensorLoss).cfs = s.cfs ∧ (s.clearSensorLoss).li = s.li ∧
      (s.clearSensorLoss).pt = s.pt ∧ (s.clearSensorLoss).ps = s.ps ∧ (s.clearSensorLoss).ca = s.ca ∧
      (s.clearSensorLoss).ll = s.ll ∧ (s.clearSensorLoss).iou = s.iou ∧ (s.clearSensorLoss).sl = s.sl ∧
      (s.clearSensorLoss).pins = s.pins := by
  generalize h : s.clearSensorLoss = t
  unfold State.clearSensorLoss at h
  try dsimp only at h
  repeat' split at h
  all_goals subst h; simp

@[simp] theorem clearDrop_frame (s : State) (x : PoleId) :
    (s.clearDrop x).pending = s.pending ∧ (s.clearDrop x).cfs = s.cfs ∧ (s.clearDrop x).li = s.li ∧
      (s.clearDrop x).pt = s.pt ∧ (s.clearDrop x).ps = s.ps ∧ (s.clearDrop x).ca = s.ca ∧
      (s.clearDrop x).ll = s.ll ∧ (s.clearDrop x).iou = s.iou ∧ (s.clearDrop x).sl = s.sl ∧
      (s.clearDrop x).pins = s.pins := by
  generalize h : s.clearDrop x = t
  unfold State.clearDrop at h
  try dsimp only at h
  repeat' split at h
  all_goals subst h; simp

@[simp] theorem restoreQualifyRule_frame (s : State) :
    (s.restoreQualifyRule).pending = s.pending ∧ (s.restoreQualifyRule).cfs = s.cfs ∧
      (s.restoreQualifyRule).li = s.li ∧ (s.restoreQualifyRule).rsq = s.rsq ∧ (s.restoreQualifyRule).pt = s.pt ∧
      (s.restoreQualifyRule).alc = s.alc ∧ (s.restoreQualifyRule).ca = s.ca ∧ (s.restoreQualifyRule).ll = s.ll ∧
      (s.restoreQualifyRule).iou = s.iou ∧ (s.restoreQualifyRule).sl = s.sl ∧
      (s.restoreQualifyRule).pins = s.pins := by
  generalize h : s.restoreQualifyRule = t
  unfold State.restoreQualifyRule at h
  try dsimp only at h
  repeat' split at h
  all_goals subst h; simp

@[simp] theorem polesEnd_frame (s : State) (old : State) :
    (s.polesEnd old).pending = s.pending ∧ (s.polesEnd old).cfs = s.cfs ∧ (s.polesEnd old).li = s.li ∧
      (s.polesEnd old).pt = s.pt ∧ (s.polesEnd old).ca = s.ca ∧ (s.polesEnd old).ll = s.ll ∧
      (s.polesEnd old).iou = s.iou ∧ (s.polesEnd old).sl = s.sl ∧ (s.polesEnd old).pins = s.pins := by
  generalize h : s.polesEnd old = t
  unfold State.polesEnd at h
  try dsimp only at h
  repeat' split at h
  all_goals subst h; simp

@[simp] theorem withChannel_frame (s : State) (k : Fin 8) (c : Channel) :
    (s.withChannel k c).pending = s.pending ∧ (s.withChannel k c).cfs = s.cfs ∧ (s.withChannel k c).li = s.li ∧
      (s.withChannel k c).rsq = s.rsq ∧ (s.withChannel k c).pt = s.pt ∧ (s.withChannel k c).ps = s.ps ∧
      (s.withChannel k c).alc = s.alc ∧ (s.withChannel k c).ca = s.ca ∧ (s.withChannel k c).iou = s.iou ∧
      (s.withChannel k c).sl = s.sl ∧ (s.withChannel k c).pins = s.pins := by
  generalize h : s.withChannel k c = t
  unfold State.withChannel at h
  try dsimp only at h
  all_goals subst h; simp

@[simp] theorem onChannel_frame (s : State) (k : Fin 8) (f : Channel → Channel) :
    (s.onChannel k f).pending = s.pending ∧ (s.onChannel k f).cfs = s.cfs ∧ (s.onChannel k f).li = s.li ∧
      (s.onChannel k f).rsq = s.rsq ∧ (s.onChannel k f).pt = s.pt ∧ (s.onChannel k f).ps = s.ps ∧
      (s.onChannel k f).alc = s.alc ∧ (s.onChannel k f).ca = s.ca ∧ (s.onChannel k f).iou = s.iou ∧
      (s.onChannel k f).sl = s.sl ∧ (s.onChannel k f).pins = s.pins := by
  generalize h : s.onChannel k f = t
  unfold State.onChannel at h
  try dsimp only at h
  all_goals subst h; simp

@[simp] theorem requestChannel_frame (s : State) (k : Fin 8) :
    (s.requestChannel k).pending = s.pending ∧ (s.requestChannel k).cfs = s.cfs ∧ (s.requestChannel k).li = s.li ∧
      (s.requestChannel k).rsq = s.rsq ∧ (s.requestChannel k).pt = s.pt ∧ (s.requestChannel k).ps = s.ps ∧
      (s.requestChannel k).alc = s.alc ∧ (s.requestChannel k).ca = s.ca ∧ (s.requestChannel k).iou = s.iou ∧
      (s.requestChannel k).sl = s.sl ∧ (s.requestChannel k).pins = s.pins := by
  generalize h : s.requestChannel k = t
  unfold State.requestChannel at h
  try dsimp only at h
  repeat' split at h
  all_goals subst h; simp

@[simp] theorem releaseChannel_frame (s : State) (k : Fin 8) :
    (s.releaseChannel k).pending = s.pending ∧ (s.releaseChannel k).cfs = s.cfs ∧ (s.releaseChannel k).li = s.li ∧
      (s.releaseChannel k).rsq = s.rsq ∧ (s.releaseChannel k).pt = s.pt ∧ (s.releaseChannel k).ps = s.ps ∧
      (s.releaseChannel k).alc = s.alc ∧ (s.releaseChannel k).ca = s.ca ∧ (s.releaseChannel k).iou = s.iou ∧
      (s.releaseChannel k).sl = s.sl ∧ (s.releaseChannel k).pins = s.pins := by
  generalize h : s.releaseChannel k = t
  unfold State.releaseChannel at h
  try dsimp only at h
  repeat' split at h
  all_goals subst h; simp

@[simp] theorem inputRequest_frame (s : State) (k : Fin 8) (f : Channel → Channel) :
    (s.inputRequest k f).pending = s.pending ∧ (s.inputRequest k f).cfs = s.cfs ∧ (s.inputRequest k f).li = s.li ∧
      (s.inputRequest k f).rsq = s.rsq ∧ (s.inputRequest k f).pt = s.pt ∧ (s.inputRequest k f).ps = s.ps ∧
      (s.inputRequest k f).alc = s.alc ∧ (s.inputRequest k f).ca = s.ca ∧ (s.inputRequest k f).iou = s.iou ∧
      (s.inputRequest k f).pins = s.pins := by
  generalize h : s.inputRequest k f = t
  unfold State.inputRequest at h
  try dsimp only at h
  repeat' split at h
  all_goals subst h; simp

@[simp] theorem channelInput_frame (s : State) (k : Fin 8) (b : Bool) :
    (s.channelInput k b).pending = s.pending ∧ (s.channelInput k b).cfs = s.cfs ∧ (s.channelInput k b).li = s.li ∧
      (s.channelInput k b).rsq = s.rsq ∧ (s.channelInput k b).pt = s.pt ∧ (s.channelInput k b).ps = s.ps ∧
      (s.channelInput k b).alc = s.alc ∧ (s.channelInput k b).ca = s.ca ∧ (s.channelInput k b).iou = s.iou ∧
      (s.channelInput k b).pins = s.pins := by
  generalize h : s.channelInput k b = t
  unfold State.channelInput at h
  try dsimp only at h
  repeat' split at h
  all_goals subst h; simp

@[simp] theorem requestLevels_frame (s : State) :
    (s.requestLevels).pending = s.pending ∧ (s.requestLevels).cfs = s.cfs ∧ (s.requestLevels).li = s.li ∧
      (s.requestLevels).rsq = s.rsq ∧ (s.requestLevels).pt = s.pt ∧ (s.requestLevels).ps = s.ps ∧
      (s.requestLevels).alc = s.alc ∧ (s.requestLevels).ca = s.ca ∧ (s.requestLevels).iou = s.iou ∧
      (s.requestLevels).pins = s.pins := by
  unfold State.requestLevels
  refine foldl_keeps (fun t : State =>
    t.pending = s.pending ∧ t.cfs = s.cfs ∧ t.li = s.li ∧ t.rsq = s.rsq ∧ t.pt = s.pt ∧ t.ps = s.ps ∧ t.alc = s.alc ∧ t.ca = s.ca ∧ t.iou = s.iou ∧ t.pins = s.pins) _ ?_ _ s ?_
  · intro t c h
    try dsimp only at h ⊢
    split <;> simp [h]
  · simp

@[simp] theorem lineSheds_frame (s : State) :
    (s.lineSheds).pending = s.pending ∧ (s.lineSheds).cfs = s.cfs ∧ (s.lineSheds).li = s.li ∧
      (s.lineSheds).rsq = s.rsq ∧ (s.lineSheds).pt = s.pt ∧ (s.lineSheds).ps = s.ps ∧ (s.lineSheds).alc = s.alc ∧
      (s.lineSheds).ca = s.ca ∧ (s.lineSheds).iou = s.iou ∧ (s.lineSheds).sl = s.sl ∧
      (s.lineSheds).pins = s.pins := by
  unfold State.lineSheds
  split
  · simp
  refine foldl_keeps (fun t : State =>
    t.pending = s.pending ∧ t.cfs = s.cfs ∧ t.li = s.li ∧ t.rsq = s.rsq ∧ t.pt = s.pt ∧ t.ps = s.ps ∧ t.alc = s.alc ∧ t.ca = s.ca ∧ t.iou = s.iou ∧ t.sl = s.sl ∧ t.pins = s.pins) _ ?_ _ s ?_
  · intro t c h
    try dsimp only at h ⊢
    split <;> simp [h]
  · simp

@[simp] theorem allowanceSheds_frame (s : State) :
    (s.allowanceSheds).pending = s.pending ∧ (s.allowanceSheds).cfs = s.cfs ∧ (s.allowanceSheds).li = s.li ∧
      (s.allowanceSheds).rsq = s.rsq ∧ (s.allowanceSheds).pt = s.pt ∧ (s.allowanceSheds).ps = s.ps ∧
      (s.allowanceSheds).alc = s.alc ∧ (s.allowanceSheds).ca = s.ca ∧ (s.allowanceSheds).iou = s.iou ∧
      (s.allowanceSheds).sl = s.sl ∧ (s.allowanceSheds).pins = s.pins := by
  unfold State.allowanceSheds
  refine foldl_keeps (fun t : State =>
    t.pending = s.pending ∧ t.cfs = s.cfs ∧ t.li = s.li ∧ t.rsq = s.rsq ∧ t.pt = s.pt ∧ t.ps = s.ps ∧ t.alc = s.alc ∧ t.ca = s.ca ∧ t.iou = s.iou ∧ t.sl = s.sl ∧ t.pins = s.pins) _ ?_ _ s ?_
  · intro t c h
    try dsimp only at h ⊢
    split <;> simp [h]
  · simp

@[simp] theorem overdrawShed_frame (s : State) :
    (s.overdrawShed).pending = s.pending ∧ (s.overdrawShed).cfs = s.cfs ∧ (s.overdrawShed).li = s.li ∧
      (s.overdrawShed).rsq = s.rsq ∧ (s.overdrawShed).pt = s.pt ∧ (s.overdrawShed).ps = s.ps ∧
      (s.overdrawShed).alc = s.alc ∧ (s.overdrawShed).ca = s.ca ∧ (s.overdrawShed).iou = s.iou ∧
      (s.overdrawShed).sl = s.sl ∧ (s.overdrawShed).pins = s.pins := by
  generalize h : s.overdrawShed = t
  unfold State.overdrawShed at h
  try dsimp only at h
  repeat' split at h
  all_goals subst h; simp

@[simp] theorem restoreOne_frame (s : State) :
    (s.restoreOne).pending = s.pending ∧ (s.restoreOne).cfs = s.cfs ∧ (s.restoreOne).li = s.li ∧
      (s.restoreOne).rsq = s.rsq ∧ (s.restoreOne).pt = s.pt ∧ (s.restoreOne).ps = s.ps ∧
      (s.restoreOne).alc = s.alc ∧ (s.restoreOne).ca = s.ca ∧ (s.restoreOne).iou = s.iou ∧
      (s.restoreOne).sl = s.sl ∧ (s.restoreOne).pins = s.pins := by
  generalize h : s.restoreOne = t
  unfold State.restoreOne at h
  try dsimp only at h
  repeat' split at h
  all_goals subst h; simp

@[simp] theorem compute_frame (s : State) :
    (s.compute).pending = s.pending ∧ (s.compute).cfs = s.cfs ∧ (s.compute).li = s.li ∧ (s.compute).rsq = s.rsq ∧
      (s.compute).pt = s.pt ∧ (s.compute).ps = s.ps ∧ (s.compute).alc = s.alc ∧ (s.compute).ll = s.ll ∧
      (s.compute).iou = s.iou ∧ (s.compute).sl = s.sl ∧ (s.compute).pins = s.pins := by
  generalize h : s.compute = t
  unfold State.compute at h
  try dsimp only at h
  all_goals subst h; simp

@[simp] theorem setAllowance_frame (s : State) (a : Nat) :
    (s.setAllowance a).pending = s.pending ∧ (s.setAllowance a).cfs = s.cfs ∧ (s.setAllowance a).li = s.li ∧
      (s.setAllowance a).rsq = s.rsq ∧ (s.setAllowance a).pt = s.pt ∧ (s.setAllowance a).ps = s.ps ∧
      (s.setAllowance a).alc = s.alc ∧ (s.setAllowance a).ll = s.ll ∧ (s.setAllowance a).iou = s.iou ∧
      (s.setAllowance a).sl = s.sl ∧ (s.setAllowance a).pins = s.pins := by
  generalize h : s.setAllowance a = t
  unfold State.setAllowance at h
  try dsimp only at h
  repeat' split at h
  all_goals subst h; simp

@[simp] theorem grantRule_frame (s : State) :
    (s.grantRule).pending = s.pending ∧ (s.grantRule).cfs = s.cfs ∧ (s.grantRule).li = s.li ∧
      (s.grantRule).rsq = s.rsq ∧ (s.grantRule).pt = s.pt ∧ (s.grantRule).ps = s.ps ∧ (s.grantRule).alc = s.alc ∧
      (s.grantRule).ll = s.ll ∧ (s.grantRule).iou = s.iou ∧ (s.grantRule).sl = s.sl ∧
      (s.grantRule).pins = s.pins := by
  generalize h : s.grantRule = t
  unfold State.grantRule at h
  try dsimp only at h
  all_goals subst h; simp

@[simp] theorem overdrawRule_frame (s : State) :
    (s.overdrawRule).pending = s.pending ∧ (s.overdrawRule).cfs = s.cfs ∧ (s.overdrawRule).li = s.li ∧
      (s.overdrawRule).rsq = s.rsq ∧ (s.overdrawRule).pt = s.pt ∧ (s.overdrawRule).ps = s.ps ∧
      (s.overdrawRule).alc = s.alc ∧ (s.overdrawRule).ll = s.ll ∧ (s.overdrawRule).iou = s.iou ∧
      (s.overdrawRule).sl = s.sl ∧ (s.overdrawRule).pins = s.pins := by
  generalize h : s.overdrawRule = t
  unfold State.overdrawRule at h
  try dsimp only at h
  repeat' split at h
  all_goals subst h; simp

@[simp] theorem follow_frame (s : State) :
    (s.follow).pending = s.pending ∧ (s.follow).cfs = s.cfs ∧ (s.follow).li = s.li ∧ (s.follow).rsq = s.rsq ∧
      (s.follow).pt = s.pt ∧ (s.follow).ps = s.ps ∧ (s.follow).alc = s.alc ∧ (s.follow).iou = s.iou ∧
      (s.follow).sl = s.sl ∧ (s.follow).pins = s.pins := by
  generalize h : s.follow = t
  unfold State.follow at h
  try dsimp only at h
  all_goals subst h; simp

@[simp] theorem caSettle_frame (s : State) :
    (s.caSettle).pending = s.pending ∧ (s.caSettle).cfs = s.cfs ∧ (s.caSettle).li = s.li ∧
      (s.caSettle).rsq = s.rsq ∧ (s.caSettle).pt = s.pt ∧ (s.caSettle).ps = s.ps ∧ (s.caSettle).alc = s.alc ∧
      (s.caSettle).iou = s.iou ∧ (s.caSettle).sl = s.sl ∧ (s.caSettle).pins = s.pins := by
  generalize h : s.caSettle = t
  unfold State.caSettle at h
  try dsimp only at h
  all_goals subst h; simp

@[simp] theorem caRound_frame (s : State) :
    (s.caRound).pending = s.pending ∧ (s.caRound).cfs = s.cfs ∧ (s.caRound).li = s.li ∧ (s.caRound).rsq = s.rsq ∧
      (s.caRound).pt = s.pt ∧ (s.caRound).ps = s.ps ∧ (s.caRound).alc = s.alc ∧ (s.caRound).iou = s.iou ∧
      (s.caRound).sl = s.sl ∧ (s.caRound).pins = s.pins := by
  generalize h : s.caRound = t
  unfold State.caRound at h
  try dsimp only at h
  all_goals subst h; simp

@[simp] theorem takeDemand_frame (s : State) (a : Nat) :
    (s.takeDemand a).pending = s.pending ∧ (s.takeDemand a).cfs = s.cfs ∧ (s.takeDemand a).li = s.li ∧
      (s.takeDemand a).rsq = s.rsq ∧ (s.takeDemand a).pt = s.pt ∧ (s.takeDemand a).ps = s.ps ∧
      (s.takeDemand a).alc = s.alc ∧ (s.takeDemand a).ll = s.ll ∧ (s.takeDemand a).iou = s.iou ∧
      (s.takeDemand a).sl = s.sl ∧ (s.takeDemand a).pins = s.pins := by
  generalize h : s.takeDemand a = t
  unfold State.takeDemand at h
  try dsimp only at h
  repeat' split at h
  all_goals subst h; simp

@[simp] theorem demandHoldExpired_frame (s : State) :
    (s.demandHoldExpired).pending = s.pending ∧ (s.demandHoldExpired).cfs = s.cfs ∧
      (s.demandHoldExpired).li = s.li ∧ (s.demandHoldExpired).rsq = s.rsq ∧ (s.demandHoldExpired).pt = s.pt ∧
      (s.demandHoldExpired).ps = s.ps ∧ (s.demandHoldExpired).alc = s.alc ∧ (s.demandHoldExpired).ll = s.ll ∧
      (s.demandHoldExpired).iou = s.iou ∧ (s.demandHoldExpired).pins = s.pins := by
  generalize h : s.demandHoldExpired = t
  unfold State.demandHoldExpired at h
  try dsimp only at h
  repeat' split at h
  all_goals subst h; simp

@[simp] theorem overdrawExpired_frame (s : State) :
    (s.overdrawExpired).pending = s.pending ∧ (s.overdrawExpired).cfs = s.cfs ∧ (s.overdrawExpired).li = s.li ∧
      (s.overdrawExpired).rsq = s.rsq ∧ (s.overdrawExpired).pt = s.pt ∧ (s.overdrawExpired).ps = s.ps ∧
      (s.overdrawExpired).alc = s.alc ∧ (s.overdrawExpired).iou = s.iou ∧ (s.overdrawExpired).sl = s.sl ∧
      (s.overdrawExpired).pins = s.pins := by
  generalize h : s.overdrawExpired = t
  unfold State.overdrawExpired at h
  try dsimp only at h
  repeat' split at h
  all_goals subst h; simp

@[simp] theorem restoreExpired_frame (s : State) :
    (s.restoreExpired).pending = s.pending ∧ (s.restoreExpired).cfs = s.cfs ∧ (s.restoreExpired).li = s.li ∧
      (s.restoreExpired).rsq = s.rsq ∧ (s.restoreExpired).pt = s.pt ∧ (s.restoreExpired).ps = s.ps ∧
      (s.restoreExpired).alc = s.alc ∧ (s.restoreExpired).ca = s.ca ∧ (s.restoreExpired).iou = s.iou ∧
      (s.restoreExpired).sl = s.sl ∧ (s.restoreExpired).pins = s.pins := by
  generalize h : s.restoreExpired = t
  unfold State.restoreExpired at h
  try dsimp only at h
  repeat' split at h
  all_goals subst h; simp

@[simp] theorem restartIdle_frame (s : State) :
    (s.restartIdle).pending = s.pending ∧ (s.restartIdle).cfs = s.cfs ∧ (s.restartIdle).li = s.li ∧
      (s.restartIdle).pt = s.pt ∧ (s.restartIdle).ps = s.ps ∧ (s.restartIdle).alc = s.alc ∧
      (s.restartIdle).ca = s.ca ∧ (s.restartIdle).ll = s.ll ∧ (s.restartIdle).iou = s.iou ∧
      (s.restartIdle).sl = s.sl ∧ (s.restartIdle).pins = s.pins := by
  generalize h : s.restartIdle = t
  unfold State.restartIdle at h
  try dsimp only at h
  all_goals subst h; simp

@[simp] theorem restartRun_frame (s : State) :
    (s.restartRun).pending = s.pending ∧ (s.restartRun).cfs = s.cfs ∧ (s.restartRun).rsq = s.rsq ∧
      (s.restartRun).pt = s.pt ∧ (s.restartRun).ps = s.ps ∧ (s.restartRun).alc = s.alc ∧ (s.restartRun).ca = s.ca ∧
      (s.restartRun).ll = s.ll ∧ (s.restartRun).iou = s.iou ∧ (s.restartRun).sl = s.sl ∧
      (s.restartRun).pins = s.pins := by
  generalize h : s.restartRun = t
  unfold State.restartRun at h
  all_goals subst h; simp

@[simp] theorem startSeen_frame (s : State) :
    (s.startSeen).pending = s.pending ∧ (s.startSeen).cfs = s.cfs ∧ (s.startSeen).rsq = s.rsq ∧
      (s.startSeen).pt = s.pt ∧ (s.startSeen).ps = s.ps ∧ (s.startSeen).alc = s.alc ∧ (s.startSeen).ca = s.ca ∧
      (s.startSeen).ll = s.ll ∧ (s.startSeen).iou = s.iou ∧ (s.startSeen).sl = s.sl ∧ (s.startSeen).pins = s.pins := by
  generalize h : s.startSeen = t
  unfold State.startSeen at h
  all_goals subst h; simp

@[simp] theorem lineTo_frame (s : State) (l : LineLevel) :
    (s.lineTo l).pending = s.pending ∧ (s.lineTo l).cfs = s.cfs ∧ (s.lineTo l).pt = s.pt ∧ (s.lineTo l).ps = s.ps ∧
      (s.lineTo l).alc = s.alc ∧ (s.lineTo l).ca = s.ca ∧ (s.lineTo l).ll = s.ll ∧ (s.lineTo l).iou = s.iou ∧
      (s.lineTo l).sl = s.sl := by
  generalize h : s.lineTo l = t
  unfold State.lineTo at h
  try dsimp only at h
  repeat' split at h
  all_goals subst h; simp

@[simp] theorem sense_frame (s : State) (l : LineLevel) :
    (s.sense l).pending = s.pending ∧ (s.sense l).cfs = s.cfs ∧ (s.sense l).pt = s.pt ∧ (s.sense l).ps = s.ps ∧
      (s.sense l).alc = s.alc ∧ (s.sense l).ca = s.ca ∧ (s.sense l).ll = s.ll ∧ (s.sense l).iou = s.iou ∧
      (s.sense l).sl = s.sl := by
  generalize h : s.sense l = t
  unfold State.sense at h
  try dsimp only at h
  repeat' split at h
  all_goals subst h; simp

@[simp] theorem clearStop_frame (s : State) :
    (s.clearStop).pending = s.pending ∧ (s.clearStop).cfs = s.cfs ∧ (s.clearStop).li = s.li ∧
      (s.clearStop).pt = s.pt ∧ (s.clearStop).ps = s.ps ∧ (s.clearStop).ca = s.ca ∧ (s.clearStop).ll = s.ll ∧
      (s.clearStop).iou = s.iou ∧ (s.clearStop).sl = s.sl ∧ (s.clearStop).pins = s.pins := by
  generalize h : s.clearStop = t
  unfold State.clearStop at h
  try dsimp only at h
  repeat' split at h
  all_goals subst h; simp

@[simp] theorem assertBreak_frame (s : State) :
    (s.assertBreak).pending = s.pending ∧ (s.assertBreak).cfs = s.cfs ∧ (s.assertBreak).rsq = s.rsq ∧
      (s.assertBreak).pt = s.pt ∧ (s.assertBreak).ps = s.ps ∧ (s.assertBreak).alc = s.alc ∧
      (s.assertBreak).ca = s.ca ∧ (s.assertBreak).ll = s.ll ∧ (s.assertBreak).iou = s.iou ∧
      (s.assertBreak).sl = s.sl := by
  generalize h : s.assertBreak = t
  unfold State.assertBreak at h
  try dsimp only at h
  repeat' split at h
  all_goals subst h; simp

@[simp] theorem examineBreak_frame (s : State) :
    (s.examineBreak).pending = s.pending ∧ (s.examineBreak).cfs = s.cfs ∧ (s.examineBreak).rsq = s.rsq ∧
      (s.examineBreak).pt = s.pt ∧ (s.examineBreak).ps = s.ps ∧ (s.examineBreak).alc = s.alc ∧
      (s.examineBreak).ca = s.ca ∧ (s.examineBreak).ll = s.ll ∧ (s.examineBreak).iou = s.iou ∧
      (s.examineBreak).sl = s.sl := by
  generalize h : s.examineBreak = t
  unfold State.examineBreak at h
  try dsimp only at h
  repeat' split at h
  all_goals subst h; simp

@[simp] theorem driveOutputs_frame (s : State) :
    (s.driveOutputs).pending = s.pending ∧ (s.driveOutputs).cfs = s.cfs ∧ (s.driveOutputs).li = s.li ∧
      (s.driveOutputs).rsq = s.rsq ∧ (s.driveOutputs).pt = s.pt ∧ (s.driveOutputs).ps = s.ps ∧
      (s.driveOutputs).alc = s.alc ∧ (s.driveOutputs).ca = s.ca ∧ (s.driveOutputs).ll = s.ll ∧
      (s.driveOutputs).sl = s.sl ∧ (s.driveOutputs).pins = s.pins := by
  generalize h : s.driveOutputs = t
  unfold State.driveOutputs at h
  try dsimp only at h
  all_goals subst h; simp

@[simp] theorem blocksEnd_frame (s : State) (old : State) :
    (s.blocksEnd old).pending = s.pending ∧ (s.blocksEnd old).cfs = s.cfs ∧ (s.blocksEnd old).pt = s.pt ∧
      (s.blocksEnd old).iou = s.iou ∧ (s.blocksEnd old).sl = s.sl := by
  generalize h : s.blocksEnd old = t
  unfold State.blocksEnd at h
  try dsimp only at h
  repeat' split at h
  all_goals subst h; simp

@[simp] theorem finishBut_frame (s : State) (k : Option (Fin 8)) (old : State) :
    (s.finishBut k old).pending = s.pending ∧ (s.finishBut k old).cfs = s.cfs ∧ (s.finishBut k old).pt = s.pt := by
  generalize h : s.finishBut k old = t
  unfold State.finishBut at h
  try dsimp only at h
  all_goals subst h; simp

@[simp] theorem finish_frame (s : State) (old : State) :
    (s.finish old).pending = s.pending ∧ (s.finish old).cfs = s.cfs ∧ (s.finish old).pt = s.pt := by
  generalize h : s.finish old = t
  unfold State.finish at h
  try dsimp only at h
  all_goals subst h; simp

@[simp] theorem withPeer_frame (s : State) (a : Fin 16) (r : Peer) :
    (s.withPeer a r).pending = s.pending ∧ (s.withPeer a r).cfs = s.cfs ∧ (s.withPeer a r).li = s.li ∧
      (s.withPeer a r).rsq = s.rsq ∧ (s.withPeer a r).ps = s.ps ∧ (s.withPeer a r).alc = s.alc ∧
      (s.withPeer a r).ca = s.ca ∧ (s.withPeer a r).ll = s.ll ∧ (s.withPeer a r).iou = s.iou ∧
      (s.withPeer a r).sl = s.sl ∧ (s.withPeer a r).pins = s.pins := by
  generalize h : s.withPeer a r = t
  unfold State.withPeer at h
  try dsimp only at h
  all_goals subst h; simp

@[simp] theorem fileStatus_frame (s : State) (a : Fin 16) (b : StatusBody) :
    (s.fileStatus a b).pending = s.pending ∧ (s.fileStatus a b).cfs = s.cfs ∧ (s.fileStatus a b).li = s.li ∧
      (s.fileStatus a b).rsq = s.rsq ∧ (s.fileStatus a b).ps = s.ps ∧ (s.fileStatus a b).alc = s.alc ∧
      (s.fileStatus a b).ca = s.ca ∧ (s.fileStatus a b).ll = s.ll ∧ (s.fileStatus a b).iou = s.iou ∧
      (s.fileStatus a b).pins = s.pins := by
  generalize h : s.fileStatus a b = t
  unfold State.fileStatus at h
  try dsimp only at h
  repeat' split at h
  all_goals subst h; simp

@[simp] theorem refreshPeer_frame (s : State) (a : Fin 16) :
    (s.refreshPeer a).pending = s.pending ∧ (s.refreshPeer a).cfs = s.cfs ∧ (s.refreshPeer a).li = s.li ∧
      (s.refreshPeer a).rsq = s.rsq ∧ (s.refreshPeer a).ps = s.ps ∧ (s.refreshPeer a).alc = s.alc ∧
      (s.refreshPeer a).ca = s.ca ∧ (s.refreshPeer a).ll = s.ll ∧ (s.refreshPeer a).iou = s.iou ∧
      (s.refreshPeer a).sl = s.sl ∧ (s.refreshPeer a).pins = s.pins := by
  generalize h : s.refreshPeer a = t
  unfold State.refreshPeer at h
  try dsimp only at h
  all_goals subst h; simp

@[simp] theorem peerGoesStale_frame (s : State) (a : Fin 16) :
    (s.peerGoesStale a).pending = s.pending ∧ (s.peerGoesStale a).cfs = s.cfs ∧ (s.peerGoesStale a).li = s.li ∧
      (s.peerGoesStale a).rsq = s.rsq ∧ (s.peerGoesStale a).ps = s.ps ∧ (s.peerGoesStale a).alc = s.alc ∧
      (s.peerGoesStale a).ca = s.ca ∧ (s.peerGoesStale a).ll = s.ll ∧ (s.peerGoesStale a).iou = s.iou ∧
      (s.peerGoesStale a).sl = s.sl ∧ (s.peerGoesStale a).pins = s.pins := by
  generalize h : s.peerGoesStale a = t
  unfold State.peerGoesStale at h
  try dsimp only at h
  all_goals subst h; simp

@[simp] theorem peerGoesLost_frame (s : State) (a : Fin 16) :
    (s.peerGoesLost a).pending = s.pending ∧ (s.peerGoesLost a).cfs = s.cfs ∧ (s.peerGoesLost a).li = s.li ∧
      (s.peerGoesLost a).rsq = s.rsq ∧ (s.peerGoesLost a).ps = s.ps ∧ (s.peerGoesLost a).alc = s.alc ∧
      (s.peerGoesLost a).ca = s.ca ∧ (s.peerGoesLost a).ll = s.ll ∧ (s.peerGoesLost a).iou = s.iou ∧
      (s.peerGoesLost a).sl = s.sl ∧ (s.peerGoesLost a).pins = s.pins := by
  generalize h : s.peerGoesLost a = t
  unfold State.peerGoesLost at h
  try dsimp only at h
  all_goals subst h; simp

@[simp] theorem enterRun_frame (s : State) :
    (s.enterRun).pending = s.pending ∧ (s.enterRun).cfs = s.cfs ∧ (s.enterRun).li = s.li ∧ (s.enterRun).pt = s.pt ∧
      (s.enterRun).alc = s.alc ∧ (s.enterRun).ca = s.ca ∧ (s.enterRun).ll = s.ll ∧ (s.enterRun).iou = s.iou ∧
      (s.enterRun).sl = s.sl ∧ (s.enterRun).pins = s.pins := by
  generalize h : s.enterRun = t
  unfold State.enterRun at h
  try dsimp only at h
  all_goals subst h; simp

@[simp] theorem muteDuplicate_frame (s : State) :
    (s.muteDuplicate).pending = s.pending ∧ (s.muteDuplicate).cfs = s.cfs ∧ (s.muteDuplicate).li = s.li ∧
      (s.muteDuplicate).pt = s.pt ∧ (s.muteDuplicate).ps = s.ps ∧ (s.muteDuplicate).alc = s.alc ∧
      (s.muteDuplicate).ca = s.ca ∧ (s.muteDuplicate).ll = s.ll ∧ (s.muteDuplicate).iou = s.iou ∧
      (s.muteDuplicate).sl = s.sl ∧ (s.muteDuplicate).pins = s.pins := by
  generalize h : s.muteDuplicate = t
  unfold State.muteDuplicate at h
  try dsimp only at h
  all_goals subst h; simp

@[simp] theorem muteTxErrors_frame (s : State) :
    (s.muteTxErrors).pending = s.pending ∧ (s.muteTxErrors).cfs = s.cfs ∧ (s.muteTxErrors).li = s.li ∧
      (s.muteTxErrors).pt = s.pt ∧ (s.muteTxErrors).ps = s.ps ∧ (s.muteTxErrors).alc = s.alc ∧
      (s.muteTxErrors).ca = s.ca ∧ (s.muteTxErrors).ll = s.ll ∧ (s.muteTxErrors).iou = s.iou ∧
      (s.muteTxErrors).sl = s.sl ∧ (s.muteTxErrors).pins = s.pins := by
  generalize h : s.muteTxErrors = t
  unfold State.muteTxErrors at h
  try dsimp only at h
  all_goals subst h; simp

@[simp] theorem passSlot_frame (s : State) (a : Nat) :
    (s.passSlot a).pending = s.pending ∧ (s.passSlot a).cfs = s.cfs ∧ (s.passSlot a).li = s.li ∧
      (s.passSlot a).pt = s.pt ∧ (s.passSlot a).ps = s.ps ∧ (s.passSlot a).alc = s.alc ∧ (s.passSlot a).ca = s.ca ∧
      (s.passSlot a).ll = s.ll ∧ (s.passSlot a).iou = s.iou ∧ (s.passSlot a).sl = s.sl ∧
      (s.passSlot a).pins = s.pins := by
  generalize h : s.passSlot a = t
  unfold State.passSlot at h
  try dsimp only at h
  repeat' split at h
  all_goals subst h; simp

@[simp] theorem countResync_frame (s : State) (a : Nat) :
    (s.countResync a).pending = s.pending ∧ (s.countResync a).cfs = s.cfs ∧ (s.countResync a).li = s.li ∧
      (s.countResync a).pt = s.pt ∧ (s.countResync a).ps = s.ps ∧ (s.countResync a).alc = s.alc ∧
      (s.countResync a).ca = s.ca ∧ (s.countResync a).ll = s.ll ∧ (s.countResync a).iou = s.iou ∧
      (s.countResync a).sl = s.sl ∧ (s.countResync a).pins = s.pins := by
  generalize h : s.countResync a = t
  unfold State.countResync at h
  try dsimp only at h
  repeat' split at h
  all_goals subst h; simp

@[simp] theorem followFrame_frame (s : State) (a : Fin 16) :
    (s.followFrame a).pending = s.pending ∧ (s.followFrame a).cfs = s.cfs ∧ (s.followFrame a).li = s.li ∧
      (s.followFrame a).pt = s.pt ∧ (s.followFrame a).alc = s.alc ∧ (s.followFrame a).ca = s.ca ∧
      (s.followFrame a).ll = s.ll ∧ (s.followFrame a).iou = s.iou ∧ (s.followFrame a).sl = s.sl ∧
      (s.followFrame a).pins = s.pins := by
  generalize h : s.followFrame a = t
  unfold State.followFrame at h
  try dsimp only at h
  repeat' split at h
  all_goals subst h; simp

@[simp] theorem followDuplicate_frame (s : State) (b : FrameBody) (m : Mode) :
    (s.followDuplicate b m).pending = s.pending ∧ (s.followDuplicate b m).cfs = s.cfs ∧
      (s.followDuplicate b m).li = s.li ∧ (s.followDuplicate b m).pt = s.pt ∧ (s.followDuplicate b m).ps = s.ps ∧
      (s.followDuplicate b m).alc = s.alc ∧ (s.followDuplicate b m).ca = s.ca ∧ (s.followDuplicate b m).ll = s.ll ∧
      (s.followDuplicate b m).iou = s.iou ∧ (s.followDuplicate b m).sl = s.sl ∧
      (s.followDuplicate b m).pins = s.pins := by
  generalize h : s.followDuplicate b m = t
  unfold State.followDuplicate at h
  try dsimp only at h
  repeat' split at h
  all_goals subst h; simp

@[simp] theorem takeRoundEnd_frame (s : State) :
    (s.takeRoundEnd).pending = s.pending ∧ (s.takeRoundEnd).cfs = s.cfs ∧ (s.takeRoundEnd).li = s.li ∧
      (s.takeRoundEnd).pt = s.pt ∧ (s.takeRoundEnd).ps = s.ps ∧ (s.takeRoundEnd).iou = s.iou ∧
      (s.takeRoundEnd).sl = s.sl ∧ (s.takeRoundEnd).pins = s.pins := by
  generalize h : s.takeRoundEnd = t
  unfold State.takeRoundEnd at h
  try dsimp only at h
  all_goals subst h; simp

@[simp] theorem applyNotice_frame (s : State) (a : Fin 16) (n : Notice) :
    (s.applyNotice a n).pending = s.pending ∧ (s.applyNotice a n).cfs = s.cfs ∧ (s.applyNotice a n).li = s.li ∧
      (s.applyNotice a n).rsq = s.rsq ∧ (s.applyNotice a n).pt = s.pt ∧ (s.applyNotice a n).ca = s.ca ∧
      (s.applyNotice a n).ll = s.ll ∧ (s.applyNotice a n).iou = s.iou ∧ (s.applyNotice a n).pins = s.pins := by
  generalize h : s.applyNotice a n = t
  unfold State.applyNotice at h
  try dsimp only at h
  repeat' split at h
  all_goals subst h; simp

@[simp] theorem startFrame_frame (s : State) (b : FrameBody) :
    (s.startFrame b).pending = s.pending ∧ (s.startFrame b).cfs = s.cfs ∧ (s.startFrame b).rsq = s.rsq ∧
      (s.startFrame b).pt = s.pt ∧ (s.startFrame b).ps = s.ps ∧ (s.startFrame b).alc = s.alc ∧
      (s.startFrame b).ca = s.ca ∧ (s.startFrame b).ll = s.ll ∧ (s.startFrame b).iou = s.iou ∧
      (s.startFrame b).sl = s.sl := by
  generalize h : s.startFrame b = t
  unfold State.startFrame at h
  try dsimp only at h
  all_goals subst h; simp

@[simp] theorem presentClaim_frame (s : State) (a : Fin 16) :
    (s.presentClaim a).pending = s.pending ∧ (s.presentClaim a).cfs = s.cfs ∧ (s.presentClaim a).pt = s.pt ∧
      (s.presentClaim a).ps = s.ps ∧ (s.presentClaim a).alc = s.alc ∧ (s.presentClaim a).ca = s.ca ∧
      (s.presentClaim a).ll = s.ll ∧ (s.presentClaim a).iou = s.iou ∧ (s.presentClaim a).sl = s.sl := by
  generalize h : s.presentClaim a = t
  unfold State.presentClaim at h
  try dsimp only at h
  repeat' split at h
  all_goals subst h; simp

@[simp] theorem announce_frame (s : State) (m : Byte) :
    (s.announce m).pending = s.pending ∧ (s.announce m).cfs = s.cfs ∧ (s.announce m).li = s.li ∧
      (s.announce m).rsq = s.rsq ∧ (s.announce m).pt = s.pt ∧ (s.announce m).ps = s.ps ∧ (s.announce m).ca = s.ca ∧
      (s.announce m).ll = s.ll ∧ (s.announce m).iou = s.iou ∧ (s.announce m).sl = s.sl ∧
      (s.announce m).pins = s.pins := by
  generalize h : s.announce m = t
  unfold State.announce at h
  try dsimp only at h
  all_goals subst h; simp

@[simp] theorem beginWindow_frame (s : State) :
    (s.beginWindow).pending = s.pending ∧ (s.beginWindow).cfs = s.cfs ∧ (s.beginWindow).pt = s.pt ∧
      (s.beginWindow).ps = s.ps ∧ (s.beginWindow).ca = s.ca ∧ (s.beginWindow).ll = s.ll ∧
      (s.beginWindow).iou = s.iou ∧ (s.beginWindow).sl = s.sl := by
  generalize h : s.beginWindow = t
  unfold State.beginWindow at h
  try dsimp only at h
  all_goals subst h; simp

@[simp] theorem endWindow_frame (s : State) :
    (s.endWindow).pending = s.pending ∧ (s.endWindow).cfs = s.cfs ∧ (s.endWindow).li = s.li ∧
      (s.endWindow).pt = s.pt ∧ (s.endWindow).ps = s.ps ∧ (s.endWindow).ca = s.ca ∧ (s.endWindow).ll = s.ll ∧
      (s.endWindow).iou = s.iou ∧ (s.endWindow).sl = s.sl ∧ (s.endWindow).pins = s.pins := by
  generalize h : s.endWindow = t
  unfold State.endWindow at h
  try dsimp only at h
  repeat' split at h
  all_goals subst h; simp

@[simp] theorem claimHeard_frame (s : State) :
    (s.claimHeard).pending = s.pending ∧ (s.claimHeard).cfs = s.cfs ∧ (s.claimHeard).li = s.li ∧
      (s.claimHeard).rsq = s.rsq ∧ (s.claimHeard).pt = s.pt ∧ (s.claimHeard).ps = s.ps ∧ (s.claimHeard).ca = s.ca ∧
      (s.claimHeard).ll = s.ll ∧ (s.claimHeard).iou = s.iou ∧ (s.claimHeard).sl = s.sl ∧
      (s.claimHeard).pins = s.pins := by
  generalize h : s.claimHeard = t
  unfold State.claimHeard at h
  try dsimp only at h
  repeat' split at h
  all_goals subst h; simp

@[simp] theorem muteExpired_frame (s : State) :
    (s.muteExpired).pending = s.pending ∧ (s.muteExpired).cfs = s.cfs ∧ (s.muteExpired).pt = s.pt ∧
      (s.muteExpired).ps = s.ps ∧ (s.muteExpired).alc = s.alc ∧ (s.muteExpired).ca = s.ca ∧
      (s.muteExpired).ll = s.ll ∧ (s.muteExpired).iou = s.iou ∧ (s.muteExpired).sl = s.sl ∧
      (s.muteExpired).pins = s.pins := by
  generalize h : s.muteExpired = t
  unfold State.muteExpired at h
  try dsimp only at h
  repeat' split at h
  all_goals subst h; simp

@[simp] theorem taking_frame (s : State) (r : ReceiverState) (l : List Byte) :
    (s.taking r l).pending = s.pending ∧ (s.taking r l).cfs = s.cfs ∧ (s.taking r l).rsq = s.rsq ∧
      (s.taking r l).pt = s.pt ∧ (s.taking r l).ps = s.ps ∧ (s.taking r l).alc = s.alc ∧ (s.taking r l).ca = s.ca ∧
      (s.taking r l).ll = s.ll ∧ (s.taking r l).iou = s.iou ∧ (s.taking r l).sl = s.sl ∧ (s.taking r l).pins = s.pins := by
  generalize h : s.taking r l = t
  unfold State.taking at h
  try dsimp only at h
  all_goals subst h; simp

@[simp] theorem receiverTo_frame (s : State) (r : ReceiverState) :
    (s.receiverTo r).pending = s.pending ∧ (s.receiverTo r).cfs = s.cfs ∧ (s.receiverTo r).pt = s.pt ∧
      (s.receiverTo r).ps = s.ps ∧ (s.receiverTo r).alc = s.alc ∧ (s.receiverTo r).ca = s.ca ∧
      (s.receiverTo r).ll = s.ll ∧ (s.receiverTo r).iou = s.iou ∧ (s.receiverTo r).sl = s.sl := by
  generalize h : s.receiverTo r = t
  unfold State.receiverTo at h
  try dsimp only at h
  all_goals subst h; simp

@[simp] theorem dominantSeen_frame (s : State) (n : Nat) :
    (s.dominantSeen n).pending = s.pending ∧ (s.dominantSeen n).cfs = s.cfs ∧ (s.dominantSeen n).pt = s.pt ∧
      (s.dominantSeen n).ps = s.ps ∧ (s.dominantSeen n).alc = s.alc ∧ (s.dominantSeen n).ca = s.ca ∧
      (s.dominantSeen n).ll = s.ll ∧ (s.dominantSeen n).iou = s.iou ∧ (s.dominantSeen n).sl = s.sl := by
  generalize h : s.dominantSeen n = t
  unfold State.dominantSeen at h
  try dsimp only at h
  repeat' split at h
  all_goals subst h; simp

@[simp] theorem frameDone_frame (s : State) :
    (s.frameDone).pending = s.pending ∧ (s.frameDone).cfs = s.cfs ∧ (s.frameDone).pt = s.pt ∧
      (s.frameDone).ps = s.ps ∧ (s.frameDone).alc = s.alc ∧ (s.frameDone).ca = s.ca ∧ (s.frameDone).ll = s.ll ∧
      (s.frameDone).iou = s.iou ∧ (s.frameDone).sl = s.sl := by
  generalize h : s.frameDone = t
  unfold State.frameDone at h
  try dsimp only at h
  all_goals subst h; simp

@[simp] theorem countRxError_frame (s : State) (k : RxErrorKind) :
    (s.countRxError k).pending = s.pending ∧ (s.countRxError k).cfs = s.cfs ∧ (s.countRxError k).rsq = s.rsq ∧
      (s.countRxError k).pt = s.pt ∧ (s.countRxError k).ps = s.ps ∧ (s.countRxError k).alc = s.alc ∧
      (s.countRxError k).ca = s.ca ∧ (s.countRxError k).ll = s.ll ∧ (s.countRxError k).iou = s.iou ∧
      (s.countRxError k).pins = s.pins := by
  generalize h : s.countRxError k = t
  unfold State.countRxError at h
  try dsimp only at h
  all_goals subst h; simp

@[simp] theorem hearStatus_frame (s : State) (a : Fin 16) (b : StatusBody) :
    (s.hearStatus a b).pending = s.pending ∧ (s.hearStatus a b).cfs = s.cfs ∧ (s.hearStatus a b).ca = s.ca ∧
      (s.hearStatus a b).ll = s.ll ∧ (s.hearStatus a b).iou = s.iou := by
  generalize h : s.hearStatus a b = t
  unfold State.hearStatus at h
  try dsimp only at h
  all_goals subst h; simp

@[simp] theorem hearNotice_frame (s : State) (a : Fin 16) (b : NoticeBody) :
    (s.hearNotice a b).pending = s.pending ∧ (s.hearNotice a b).cfs = s.cfs ∧ (s.hearNotice a b).ca = s.ca ∧
      (s.hearNotice a b).ll = s.ll ∧ (s.hearNotice a b).iou = s.iou := by
  generalize h : s.hearNotice a b = t
  unfold State.hearNotice at h
  try dsimp only at h
  repeat' split at h
  all_goals subst h; simp

@[simp] theorem hearAlarm_frame (s : State) (a : Fin 16) (b : AlarmBody) :
    (s.hearAlarm a b).pending = s.pending ∧ (s.hearAlarm a b).cfs = s.cfs ∧ (s.hearAlarm a b).pt = s.pt ∧
      (s.hearAlarm a b).ps = s.ps ∧ (s.hearAlarm a b).ca = s.ca ∧ (s.hearAlarm a b).ll = s.ll ∧
      (s.hearAlarm a b).iou = s.iou ∧ (s.hearAlarm a b).sl = s.sl := by
  generalize h : s.hearAlarm a b = t
  unfold State.hearAlarm at h
  try dsimp only at h
  all_goals subst h; simp

@[simp] theorem hearDuplicate_frame (s : State) (b : FrameBody) :
    (s.hearDuplicate b).pending = s.pending ∧ (s.hearDuplicate b).cfs = s.cfs ∧ (s.hearDuplicate b).pt = s.pt ∧
      (s.hearDuplicate b).ps = s.ps ∧ (s.hearDuplicate b).ca = s.ca ∧ (s.hearDuplicate b).ll = s.ll ∧
      (s.hearDuplicate b).iou = s.iou ∧ (s.hearDuplicate b).sl = s.sl := by
  generalize h : s.hearDuplicate b = t
  unfold State.hearDuplicate at h
  try dsimp only at h
  repeat' split at h
  all_goals subst h; simp

@[simp] theorem lineAfter_frame (s : State) (l : List Byte) (e : RunEnding) :
    (s.lineAfter l e).pending = s.pending ∧ (s.lineAfter l e).cfs = s.cfs ∧ (s.lineAfter l e).pt = s.pt ∧
      (s.lineAfter l e).ps = s.ps ∧ (s.lineAfter l e).alc = s.alc ∧ (s.lineAfter l e).ca = s.ca ∧
      (s.lineAfter l e).ll = s.ll ∧ (s.lineAfter l e).iou = s.iou ∧ (s.lineAfter l e).sl = s.sl := by
  generalize h : s.lineAfter l e = t
  unfold State.lineAfter at h
  try dsimp only at h
  repeat' split at h
  all_goals subst h; simp

@[simp] theorem hearError_frame (s : State) (l : List Byte) (e : RunEnding) :
    (s.hearError l e).pending = s.pending ∧ (s.hearError l e).cfs = s.cfs ∧ (s.hearError l e).pt = s.pt ∧
      (s.hearError l e).ps = s.ps ∧ (s.hearError l e).alc = s.alc ∧ (s.hearError l e).ca = s.ca ∧
      (s.hearError l e).ll = s.ll ∧ (s.hearError l e).iou = s.iou := by
  generalize h : s.hearError l e = t
  unfold State.hearError at h
  try dsimp only at h
  repeat' split at h
  all_goals subst h; simp

@[simp] theorem startOwnSlot_frame (s : State) (b : Bool) :
    (s.startOwnSlot b).pending = s.pending ∧ (s.startOwnSlot b).cfs = s.cfs ∧ (s.startOwnSlot b).rsq = s.rsq ∧
      (s.startOwnSlot b).pt = s.pt ∧ (s.startOwnSlot b).ps = s.ps ∧ (s.startOwnSlot b).alc = s.alc ∧
      (s.startOwnSlot b).ca = s.ca ∧ (s.startOwnSlot b).ll = s.ll ∧ (s.startOwnSlot b).iou = s.iou ∧
      (s.startOwnSlot b).sl = s.sl := by
  generalize h : s.startOwnSlot b = t
  unfold State.startOwnSlot at h
  try dsimp only at h
  repeat' split at h
  all_goals subst h; simp

@[simp] theorem roundEnds_frame (s : State) :
    (s.roundEnds).pending = s.pending ∧ (s.roundEnds).cfs = s.cfs ∧ (s.roundEnds).li = s.li ∧
      (s.roundEnds).pt = s.pt ∧ (s.roundEnds).ps = s.ps ∧ (s.roundEnds).iou = s.iou ∧ (s.roundEnds).sl = s.sl ∧
      (s.roundEnds).pins = s.pins := by
  generalize h : s.roundEnds = t
  unfold State.roundEnds at h
  try dsimp only at h
  repeat' split at h
  all_goals subst h; simp

@[simp] theorem ownStatusSent_frame (s : State) :
    (s.ownStatusSent).pending = s.pending ∧ (s.ownStatusSent).cfs = s.cfs ∧ (s.ownStatusSent).pt = s.pt ∧
      (s.ownStatusSent).ps = s.ps ∧ (s.ownStatusSent).alc = s.alc ∧ (s.ownStatusSent).ca = s.ca ∧
      (s.ownStatusSent).ll = s.ll ∧ (s.ownStatusSent).iou = s.iou ∧ (s.ownStatusSent).sl = s.sl := by
  generalize h : s.ownStatusSent = t
  unfold State.ownStatusSent at h
  try dsimp only at h
  all_goals subst h; simp

@[simp] theorem ownNoticeSent_frame (s : State) :
    (s.ownNoticeSent).pending = s.pending ∧ (s.ownNoticeSent).cfs = s.cfs ∧ (s.ownNoticeSent).pt = s.pt ∧
      (s.ownNoticeSent).ca = s.ca ∧ (s.ownNoticeSent).ll = s.ll ∧ (s.ownNoticeSent).iou = s.iou := by
  generalize h : s.ownNoticeSent = t
  unfold State.ownNoticeSent at h
  try dsimp only at h
  repeat' split at h
  all_goals subst h; simp

@[simp] theorem ownAlarmSent_frame (s : State) :
    (s.ownAlarmSent).pending = s.pending ∧ (s.ownAlarmSent).cfs = s.cfs ∧ (s.ownAlarmSent).pt = s.pt ∧
      (s.ownAlarmSent).ps = s.ps ∧ (s.ownAlarmSent).ca = s.ca ∧ (s.ownAlarmSent).ll = s.ll ∧
      (s.ownAlarmSent).iou = s.iou ∧ (s.ownAlarmSent).sl = s.sl := by
  generalize h : s.ownAlarmSent = t
  unfold State.ownAlarmSent at h
  try dsimp only at h
  repeat' split at h
  all_goals subst h; simp

@[simp] theorem compareEcho_frame (s : State) (i : Nat) (r : BitVec 10) :
    (s.compareEcho i r).pending = s.pending ∧ (s.compareEcho i r).cfs = s.cfs ∧ (s.compareEcho i r).pt = s.pt ∧
      (s.compareEcho i r).ps = s.ps ∧ (s.compareEcho i r).alc = s.alc ∧ (s.compareEcho i r).ca = s.ca ∧
      (s.compareEcho i r).ll = s.ll ∧ (s.compareEcho i r).iou = s.iou ∧ (s.compareEcho i r).sl = s.sl := by
  generalize h : s.compareEcho i r = t
  unfold State.compareEcho at h
  try dsimp only at h
  repeat' split at h
  all_goals subst h; simp

@[simp] theorem judgeAbort_frame (s : State) :
    (s.judgeAbort).pending = s.pending ∧ (s.judgeAbort).cfs = s.cfs ∧ (s.judgeAbort).pt = s.pt ∧
      (s.judgeAbort).ps = s.ps ∧ (s.judgeAbort).alc = s.alc ∧ (s.judgeAbort).ca = s.ca ∧ (s.judgeAbort).ll = s.ll ∧
      (s.judgeAbort).iou = s.iou := by
  generalize h : s.judgeAbort = t
  unfold State.judgeAbort at h
  try dsimp only at h
  repeat' split at h
  all_goals subst h; simp

@[simp] theorem breakFound_frame (s : State) (l : List Byte) :
    (s.breakFound l).pending = s.pending ∧ (s.breakFound l).cfs = s.cfs ∧ (s.breakFound l).pt = s.pt ∧
      (s.breakFound l).ps = s.ps ∧ (s.breakFound l).ca = s.ca ∧ (s.breakFound l).ll = s.ll ∧
      (s.breakFound l).iou = s.iou ∧ (s.breakFound l).pins = s.pins := by
  generalize h : s.breakFound l = t
  unfold State.breakFound at h
  try dsimp only at h
  repeat' split at h
  all_goals subst h; simp

@[simp] theorem dominantFor_frame (s : State) (n : Nat) :
    (s.dominantFor n).pending = s.pending ∧ (s.dominantFor n).cfs = s.cfs ∧ (s.dominantFor n).pt = s.pt ∧
      (s.dominantFor n).ps = s.ps ∧ (s.dominantFor n).alc = s.alc ∧ (s.dominantFor n).ca = s.ca ∧
      (s.dominantFor n).ll = s.ll ∧ (s.dominantFor n).iou = s.iou ∧ (s.dominantFor n).sl = s.sl := by
  generalize h : s.dominantFor n = t
  unfold State.dominantFor at h
  try dsimp only at h
  all_goals subst h; simp

@[simp] theorem detectBreak_frame (s : State) (l : List Byte) :
    (s.detectBreak l).pending = s.pending ∧ (s.detectBreak l).cfs = s.cfs ∧ (s.detectBreak l).pt = s.pt ∧
      (s.detectBreak l).ps = s.ps ∧ (s.detectBreak l).ca = s.ca ∧ (s.detectBreak l).ll = s.ll ∧
      (s.detectBreak l).iou = s.iou := by
  generalize h : s.detectBreak l = t
  unfold State.detectBreak at h
  try dsimp only at h
  repeat' split at h
  all_goals subst h; simp

@[simp] theorem endBreak_frame (s : State) :
    (s.endBreak).pending = s.pending ∧ (s.endBreak).cfs = s.cfs ∧ (s.endBreak).pt = s.pt ∧ (s.endBreak).ps = s.ps ∧
      (s.endBreak).ca = s.ca ∧ (s.endBreak).ll = s.ll ∧ (s.endBreak).iou = s.iou ∧ (s.endBreak).sl = s.sl := by
  generalize h : s.endBreak = t
  unfold State.endBreak at h
  try dsimp only at h
  repeat' split at h
  all_goals subst h; simp

@[simp] theorem stickLine_frame (s : State) :
    (s.stickLine).pending = s.pending ∧ (s.stickLine).cfs = s.cfs ∧ (s.stickLine).pt = s.pt ∧
      (s.stickLine).ps = s.ps ∧ (s.stickLine).alc = s.alc ∧ (s.stickLine).ca = s.ca ∧ (s.stickLine).ll = s.ll ∧
      (s.stickLine).iou = s.iou ∧ (s.stickLine).sl = s.sl := by
  generalize h : s.stickLine = t
  unfold State.stickLine at h
  try dsimp only at h
  all_goals subst h; simp

@[simp] theorem unclaimedExpired_frame (s : State) :
    (s.unclaimedExpired).pending = s.pending ∧ (s.unclaimedExpired).cfs = s.cfs ∧ (s.unclaimedExpired).li = s.li ∧
      (s.unclaimedExpired).rsq = s.rsq ∧ (s.unclaimedExpired).pt = s.pt ∧ (s.unclaimedExpired).ps = s.ps ∧
      (s.unclaimedExpired).ca = s.ca ∧ (s.unclaimedExpired).ll = s.ll ∧ (s.unclaimedExpired).iou = s.iou ∧
      (s.unclaimedExpired).sl = s.sl ∧ (s.unclaimedExpired).pins = s.pins := by
  generalize h : s.unclaimedExpired = t
  unfold State.unclaimedExpired at h
  try dsimp only at h
  all_goals subst h; simp

@[simp] theorem withInput_frame (s : State) (i : Fin 16) (x : Input) :
    (s.withInput i x).pending = s.pending ∧ (s.withInput i x).cfs = s.cfs ∧ (s.withInput i x).li = s.li ∧
      (s.withInput i x).rsq = s.rsq ∧ (s.withInput i x).pt = s.pt ∧ (s.withInput i x).ps = s.ps ∧
      (s.withInput i x).alc = s.alc ∧ (s.withInput i x).ca = s.ca ∧ (s.withInput i x).ll = s.ll ∧
      (s.withInput i x).sl = s.sl ∧ (s.withInput i x).pins = s.pins := by
  generalize h : s.withInput i x = t
  unfold State.withInput at h
  try dsimp only at h
  all_goals subst h; simp

@[simp] theorem contact_frame (s : State) (i : Fin 16) (b : Bool) :
    (s.contact i b).pending = s.pending ∧ (s.contact i b).cfs = s.cfs ∧ (s.contact i b).li = s.li ∧
      (s.contact i b).rsq = s.rsq ∧ (s.contact i b).pt = s.pt ∧ (s.contact i b).ps = s.ps ∧
      (s.contact i b).alc = s.alc ∧ (s.contact i b).ca = s.ca ∧ (s.contact i b).ll = s.ll ∧
      (s.contact i b).iou = s.iou ∧ (s.contact i b).sl = s.sl := by
  generalize h : s.contact i b = t
  unfold State.contact at h
  try dsimp only at h
  repeat' split at h
  all_goals subst h; simp

@[simp] theorem deliver_frame (s : State) (i : Fin 16) (d : Debounced) (b : Bool) (n : Nat) :
    (s.deliver i d b n).pending = s.pending ∧ (s.deliver i d b n).cfs = s.cfs ∧ (s.deliver i d b n).li = s.li ∧
      (s.deliver i d b n).pt = s.pt ∧ (s.deliver i d b n).ca = s.ca ∧ (s.deliver i d b n).iou = s.iou ∧
      (s.deliver i d b n).pins = s.pins := by
  generalize h : s.deliver i d b n = t
  unfold State.deliver at h
  try dsimp only at h
  repeat' split at h
  all_goals subst h; simp

@[simp] theorem changeInput_frame (s : State) (i : Fin 16) (b : Bool) :
    (s.changeInput i b).pending = s.pending ∧ (s.changeInput i b).cfs = s.cfs ∧ (s.changeInput i b).li = s.li ∧
      (s.changeInput i b).pt = s.pt ∧ (s.changeInput i b).ca = s.ca ∧ (s.changeInput i b).pins = s.pins := by
  generalize h : s.changeInput i b = t
  unfold State.changeInput at h
  try dsimp only at h
  repeat' split at h
  all_goals subst h; simp

@[simp] theorem settled_frame (s : State) (i : Fin 16) :
    (s.settled i).pending = s.pending ∧ (s.settled i).cfs = s.cfs ∧ (s.settled i).li = s.li ∧
      (s.settled i).rsq = s.rsq ∧ (s.settled i).pt = s.pt ∧ (s.settled i).ps = s.ps ∧ (s.settled i).alc = s.alc ∧
      (s.settled i).ca = s.ca ∧ (s.settled i).ll = s.ll ∧ (s.settled i).sl = s.sl ∧ (s.settled i).pins = s.pins := by
  generalize h : s.settled i = t
  unfold State.settled at h
  try dsimp only at h
  all_goals subst h; simp

@[simp] theorem takeSample_frame (s : State) (i : Fin 16) (b : Bool) :
    (s.takeSample i b).pending = s.pending ∧ (s.takeSample i b).cfs = s.cfs ∧ (s.takeSample i b).li = s.li ∧
      (s.takeSample i b).pt = s.pt ∧ (s.takeSample i b).ca = s.ca := by
  generalize h : s.takeSample i b = t
  unfold State.takeSample at h
  try dsimp only at h
  repeat' split at h
  all_goals subst h; simp

@[simp] theorem sampleInput_frame (s : State) (i : Fin 16) (b : Bool) :
    (s.sampleInput i b).pending = s.pending ∧ (s.sampleInput i b).cfs = s.cfs ∧ (s.sampleInput i b).li = s.li ∧
      (s.sampleInput i b).pt = s.pt ∧ (s.sampleInput i b).ca = s.ca := by
  generalize h : s.sampleInput i b = t
  unfold State.sampleInput at h
  try dsimp only at h
  repeat' split at h
  all_goals subst h; simp

@[simp] theorem withLatch_frame (s : State) (c : Fin 8) (x : Latch) :
    (s.withLatch c x).pending = s.pending ∧ (s.withLatch c x).cfs = s.cfs ∧ (s.withLatch c x).li = s.li ∧
      (s.withLatch c x).rsq = s.rsq ∧ (s.withLatch c x).pt = s.pt ∧ (s.withLatch c x).ps = s.ps ∧
      (s.withLatch c x).alc = s.alc ∧ (s.withLatch c x).ca = s.ca ∧ (s.withLatch c x).ll = s.ll ∧
      (s.withLatch c x).sl = s.sl ∧ (s.withLatch c x).pins = s.pins := by
  generalize h : s.withLatch c x = t
  unfold State.withLatch at h
  try dsimp only at h
  all_goals subst h; simp

@[simp] theorem latchArrival_frame (s : State) (c : Fin 8) (v : Nat) :
    (s.latchArrival c v).pending = s.pending ∧ (s.latchArrival c v).cfs = s.cfs ∧ (s.latchArrival c v).li = s.li ∧
      (s.latchArrival c v).rsq = s.rsq ∧ (s.latchArrival c v).pt = s.pt ∧ (s.latchArrival c v).ps = s.ps ∧
      (s.latchArrival c v).alc = s.alc ∧ (s.latchArrival c v).ca = s.ca ∧ (s.latchArrival c v).ll = s.ll ∧
      (s.latchArrival c v).sl = s.sl ∧ (s.latchArrival c v).pins = s.pins := by
  generalize h : s.latchArrival c v = t
  unfold State.latchArrival at h
  try dsimp only at h
  all_goals subst h; simp

@[simp] theorem poleArrival_frame (s : State) (c : Fin 8) :
    (s.poleArrival c).pending = s.pending ∧ (s.poleArrival c).cfs = s.cfs ∧ (s.poleArrival c).li = s.li ∧
      (s.poleArrival c).rsq = s.rsq ∧ (s.poleArrival c).pt = s.pt ∧ (s.poleArrival c).ca = s.ca ∧
      (s.poleArrival c).ll = s.ll ∧ (s.poleArrival c).iou = s.iou ∧ (s.poleArrival c).sl = s.sl ∧
      (s.poleArrival c).pins = s.pins := by
  generalize h : s.poleArrival c = t
  unfold State.poleArrival at h
  try dsimp only at h
  repeat' split at h
  all_goals subst h; simp

@[simp] theorem takeWord_frame (s : State) (w : Half) :
    (s.takeWord w).pending = s.pending ∧ (s.takeWord w).cfs = s.cfs ∧ (s.takeWord w).li = s.li ∧
      (s.takeWord w).rsq = s.rsq ∧ (s.takeWord w).pt = s.pt ∧ (s.takeWord w).ca = s.ca ∧ (s.takeWord w).ll = s.ll ∧
      (s.takeWord w).sl = s.sl ∧ (s.takeWord w).pins = s.pins := by
  generalize h : s.takeWord w = t
  unfold State.takeWord at h
  try dsimp only at h
  all_goals subst h; simp

@[simp] theorem latchExpires_frame (s : State) (c : Fin 8) :
    (s.latchExpires c).pending = s.pending ∧ (s.latchExpires c).cfs = s.cfs ∧ (s.latchExpires c).li = s.li ∧
      (s.latchExpires c).rsq = s.rsq ∧ (s.latchExpires c).pt = s.pt ∧ (s.latchExpires c).alc = s.alc ∧
      (s.latchExpires c).ca = s.ca ∧ (s.latchExpires c).ll = s.ll ∧ (s.latchExpires c).sl = s.sl ∧
      (s.latchExpires c).pins = s.pins := by
  generalize h : s.latchExpires c = t
  unfold State.latchExpires at h
  try dsimp only at h
  repeat' split at h
  all_goals subst h; simp

@[simp] theorem strapped_frame (s : State) (b : Bool) :
    (s.strapped b).pending = s.pending ∧ (s.strapped b).cfs = s.cfs ∧ (s.strapped b).li = s.li ∧
      (s.strapped b).rsq = s.rsq ∧ (s.strapped b).pt = s.pt ∧ (s.strapped b).ps = s.ps ∧
      (s.strapped b).alc = s.alc ∧ (s.strapped b).ca = s.ca ∧ (s.strapped b).ll = s.ll ∧
      (s.strapped b).iou = s.iou ∧ (s.strapped b).sl = s.sl := by
  unfold State.strapped
  simp

@[simp] theorem judgeLatches_frame (s : State) :
    (s.judgeLatches).pending = s.pending ∧ (s.judgeLatches).cfs = s.cfs ∧ (s.judgeLatches).li = s.li ∧
      (s.judgeLatches).rsq = s.rsq ∧ (s.judgeLatches).pt = s.pt ∧ (s.judgeLatches).ps = s.ps ∧
      (s.judgeLatches).alc = s.alc ∧ (s.judgeLatches).ca = s.ca ∧ (s.judgeLatches).ll = s.ll ∧
      (s.judgeLatches).sl = s.sl ∧ (s.judgeLatches).pins = s.pins := by
  generalize h : s.judgeLatches = t
  unfold State.judgeLatches at h
  try dsimp only at h
  all_goals subst h; simp

@[simp] theorem join_frame (s : State) :
    (s.join).pending = s.pending ∧ (s.join).pt = s.pt ∧ (s.join).ps = s.ps ∧ (s.join).ca = s.ca ∧
      (s.join).iou = s.iou ∧ (s.join).pins = s.pins := by
  generalize h : s.join = t
  unfold State.join at h
  try dsimp only at h
  repeat' split at h
  all_goals subst h; simp

@[simp] theorem clearRoleChanged_frame (s : State) (a : Fin 16) :
    (s.clearRoleChanged a).pending = s.pending ∧ (s.clearRoleChanged a).cfs = s.cfs ∧
      (s.clearRoleChanged a).li = s.li ∧ (s.clearRoleChanged a).rsq = s.rsq ∧ (s.clearRoleChanged a).ps = s.ps ∧
      (s.clearRoleChanged a).alc = s.alc ∧ (s.clearRoleChanged a).ca = s.ca ∧ (s.clearRoleChanged a).ll = s.ll ∧
      (s.clearRoleChanged a).iou = s.iou ∧ (s.clearRoleChanged a).sl = s.sl ∧
      (s.clearRoleChanged a).pins = s.pins := by
  generalize h : s.clearRoleChanged a = t
  unfold State.clearRoleChanged at h
  try dsimp only at h
  all_goals subst h; simp

@[simp] theorem clearReturned_frame (s : State) :
    (s.clearReturned).pending = s.pending ∧ (s.clearReturned).cfs = s.cfs ∧ (s.clearReturned).li = s.li ∧
      (s.clearReturned).rsq = s.rsq ∧ (s.clearReturned).pt = s.pt ∧ (s.clearReturned).ps = s.ps ∧
      (s.clearReturned).alc = s.alc ∧ (s.clearReturned).ca = s.ca ∧ (s.clearReturned).ll = s.ll ∧
      (s.clearReturned).iou = s.iou ∧ (s.clearReturned).pins = s.pins := by
  generalize h : s.clearReturned = t
  unfold State.clearReturned at h
  try dsimp only at h
  all_goals subst h; simp

@[simp] theorem setMask_frame (s : State) (m : Byte) :
    (s.setMask m).pending = s.pending ∧ (s.setMask m).cfs = s.cfs ∧ (s.setMask m).li = s.li ∧
      (s.setMask m).rsq = s.rsq ∧ (s.setMask m).pt = s.pt ∧ (s.setMask m).ps = s.ps ∧ (s.setMask m).alc = s.alc ∧
      (s.setMask m).ca = s.ca ∧ (s.setMask m).ll = s.ll ∧ (s.setMask m).iou = s.iou ∧
      (s.setMask m).pins = s.pins := by
  generalize h : s.setMask m = t
  unfold State.setMask at h
  try dsimp only at h
  all_goals subst h; simp

@[simp] theorem setGeneral_frame (s : State) (o : Nat) (b : Bool) :
    (s.setGeneral o b).pending = s.pending ∧ (s.setGeneral o b).cfs = s.cfs ∧ (s.setGeneral o b).li = s.li ∧
      (s.setGeneral o b).rsq = s.rsq ∧ (s.setGeneral o b).pt = s.pt ∧ (s.setGeneral o b).ps = s.ps ∧
      (s.setGeneral o b).alc = s.alc ∧ (s.setGeneral o b).ca = s.ca ∧ (s.setGeneral o b).ll = s.ll ∧
      (s.setGeneral o b).sl = s.sl ∧ (s.setGeneral o b).pins = s.pins := by
  generalize h : s.setGeneral o b = t
  unfold State.setGeneral at h
  try dsimp only at h
  repeat' split at h
  all_goals subst h; simp

@[simp] theorem answer_frame (s : State) (l : List Byte) :
    (s.answer l).pending = s.pending ∧ (s.answer l).cfs = s.cfs ∧ (s.answer l).li = s.li ∧
      (s.answer l).rsq = s.rsq ∧ (s.answer l).pt = s.pt ∧ (s.answer l).ps = s.ps ∧ (s.answer l).alc = s.alc ∧
      (s.answer l).ca = s.ca ∧ (s.answer l).ll = s.ll ∧ (s.answer l).iou = s.iou ∧ (s.answer l).pins = s.pins := by
  generalize h : s.answer l = t
  unfold State.answer at h
  try dsimp only at h
  all_goals subst h; simp

@[simp] theorem channelAction_frame (s : State) (k : Fin 8) (a : ChannelAction) :
    (s.channelAction k a).pending = s.pending ∧ (s.channelAction k a).cfs = s.cfs ∧
      (s.channelAction k a).li = s.li ∧ (s.channelAction k a).rsq = s.rsq ∧ (s.channelAction k a).pt = s.pt ∧
      (s.channelAction k a).ps = s.ps ∧ (s.channelAction k a).alc = s.alc ∧ (s.channelAction k a).ca = s.ca ∧
      (s.channelAction k a).iou = s.iou ∧ (s.channelAction k a).sl = s.sl ∧
      (s.channelAction k a).pins = s.pins := by
  generalize h : s.channelAction k a = t
  unfold State.channelAction at h
  try dsimp only at h
  repeat' split at h
  all_goals subst h; simp

@[simp] theorem placeMark_frame (s : State) (m : RxItem) :
    (s.placeMark m).pending = s.pending ∧ (s.placeMark m).cfs = s.cfs ∧ (s.placeMark m).li = s.li ∧
      (s.placeMark m).rsq = s.rsq ∧ (s.placeMark m).pt = s.pt ∧ (s.placeMark m).ps = s.ps ∧
      (s.placeMark m).alc = s.alc ∧ (s.placeMark m).ca = s.ca ∧ (s.placeMark m).ll = s.ll ∧
      (s.placeMark m).iou = s.iou ∧ (s.placeMark m).pins = s.pins := by
  generalize h : s.placeMark m = t
  unfold State.placeMark at h
  try dsimp only at h
  repeat' split at h
  all_goals subst h; simp

@[simp] theorem storeByte_frame (s : State) (b : Byte) (o : Bool) :
    (s.storeByte b o).pending = s.pending ∧ (s.storeByte b o).cfs = s.cfs ∧ (s.storeByte b o).li = s.li ∧
      (s.storeByte b o).rsq = s.rsq ∧ (s.storeByte b o).pt = s.pt ∧ (s.storeByte b o).ps = s.ps ∧
      (s.storeByte b o).alc = s.alc ∧ (s.storeByte b o).ca = s.ca ∧ (s.storeByte b o).ll = s.ll ∧
      (s.storeByte b o).iou = s.iou ∧ (s.storeByte b o).pins = s.pins := by
  generalize h : s.storeByte b o = t
  unfold State.storeByte at h
  try dsimp only at h
  repeat' split at h
  all_goals subst h; simp

@[simp] theorem byteSeen_frame (s : State) :
    (s.byteSeen).pending = s.pending ∧ (s.byteSeen).cfs = s.cfs ∧ (s.byteSeen).li = s.li ∧
      (s.byteSeen).rsq = s.rsq ∧ (s.byteSeen).pt = s.pt ∧ (s.byteSeen).ps = s.ps ∧ (s.byteSeen).alc = s.alc ∧
      (s.byteSeen).ca = s.ca ∧ (s.byteSeen).ll = s.ll ∧ (s.byteSeen).iou = s.iou ∧ (s.byteSeen).pins = s.pins := by
  generalize h : s.byteSeen = t
  unfold State.byteSeen at h
  try dsimp only at h
  all_goals subst h; simp

end Machine
end Sys2Proof
end

