-- ==== Sys2Proof/Laws/Alarms.lean ====
section
/-!
SUPPORT. What the operations on the alarm list and the notice queue can do: which keys are listed after each, and that each
keeps the list's and the queue's bounds (R29, R128).
-/

namespace Sys2Proof
namespace Machine

/-! ### Keys of a list -/

@[simp] theorem hasKey_iff (src : Source) (c : Cause) (e : AlarmEntry) : e.hasKey src c = true ↔ e.key = (src, c) := by
  simp [AlarmEntry.hasKey, AlarmEntry.key]

theorem listed_iff (s : State) (src : Source) (c : Cause) :
    s.listed src c = true ↔ (src, c) ∈ s.alarms.map AlarmEntry.key := by
  simp [State.listed, List.any_eq_true]

theorem not_listed_iff (s : State) (src : Source) (c : Cause) :
    s.listed src c = false ↔ (src, c) ∉ s.alarms.map AlarmEntry.key := by
  rw [← listed_iff]
  simp

/-- A change of an entry in place leaves every key. -/
theorem keys_updateEntry (src : Source) (c : Cause) (f : AlarmEntry → AlarmEntry) (hf : ∀ e, (f e).key = e.key)
    (l : List AlarmEntry) : (updateEntry src c f l).map AlarmEntry.key = l.map AlarmEntry.key := by
  simp only [updateEntry, List.map_map]
  refine List.map_congr_left fun e _ => ?_
  simp only [Function.comp]
  split
  · exact hf e
  · rfl

@[simp] theorem key_repeated (st : AlarmState) (d : Option SensorDetail) (e : AlarmEntry) : (e.repeated st d).key = e.key :=
  rfl

@[simp] theorem key_acknowledge (e : AlarmEntry) : e.acknowledge.key = e.key := by
  unfold AlarmEntry.acknowledge
  split <;> rfl

@[simp] theorem key_newEntry (src : Source) (c : Cause) (st : AlarmState) (by' : LearnedBy) (d : Option SensorDetail) :
    (newEntry src c st by' d).key = (src, c) := rfl

@[simp] theorem length_updateEntry (src : Source) (c : Cause) (f : AlarmEntry → AlarmEntry) (l : List AlarmEntry) :
    (updateEntry src c f l).length = l.length := by
  simp [updateEntry]

/-- After a key's entries are removed the key is not listed, and every other entry stays, in its order. -/
theorem mem_removeEntry (src : Source) (c : Cause) (l : List AlarmEntry) (e : AlarmEntry) :
    e ∈ removeEntry src c l ↔ e ∈ l ∧ e.key ≠ (src, c) := by
  simp [removeEntry, ← hasKey_iff]

/-! ### The bounds of the list (R29) -/

/-- The bounds of R29 on a list: at most 24 entries, no key twice. -/
def KeysKept (l : List AlarmEntry) : Prop := l.length ≤ Figures.alarmCapacity ∧ (l.map AlarmEntry.key).Nodup

theorem listKept_iff (s : State) : ListKept s ↔ KeysKept s.alarms := Iff.rfl

theorem KeysKept.sublist {l m : List AlarmEntry} (h : KeysKept m) (g : l.Sublist m) : KeysKept l :=
  ⟨le_trans g.length_le h.1, h.2.sublist (g.map _)⟩

theorem KeysKept.of_keys {l m : List AlarmEntry} (h : KeysKept m) (g : l.map AlarmEntry.key = m.map AlarmEntry.key) :
    KeysKept l := by
  refine ⟨?_, g ▸ h.2⟩
  have := congrArg List.length g
  simp only [List.length_map] at this
  exact this ▸ h.1

theorem KeysKept.append {l : List AlarmEntry} {e : AlarmEntry} (h : KeysKept l) (room : l.length < Figures.alarmCapacity)
    (new : e.key ∉ l.map AlarmEntry.key) : KeysKept (l ++ [e]) := by
  refine ⟨by simpa using room, ?_⟩
  rw [List.map_append, List.map_singleton, List.nodup_append]
  exact ⟨h.2, by simp, by rintro a ha b hb rfl; simp only [List.mem_singleton] at hb; exact new (hb ▸ ha)⟩

theorem listKept_placeEntry {s : State} {e : AlarmEntry} (h : ListKept s) (new : s.listed e.source e.cause = false) :
    ListKept (s.placeEntry e) := by
  unfold State.placeEntry
  split
  · exact KeysKept.append h ‹_› ((not_listed_iff s _ _).mp new)
  · exact h

/-- A repeat of a listed key, or an entry placed for a key that is not listed, keeps the bounds. -/
theorem listKept_repeatOrPlace {s : State} (h : ListKept s) (src : Source) (c : Cause) (st st' : AlarmState) (by' : LearnedBy)
    (d d' : Option SensorDetail) :
    ListKept
      (if s.listed src c then s.withAlarms (updateEntry src c (AlarmEntry.repeated st d) s.alarms)
      else s.placeEntry (newEntry src c st' by' d')) := by
  split
  · exact KeysKept.of_keys h (keys_updateEntry _ _ _ (key_repeated _ _) _)
  · rename_i hn
    exact listKept_placeEntry h (by simpa only [newEntry, Bool.not_eq_true] using hn)

theorem listKept_raiseOwn {s : State} (h : ListKept s) (c : Cause) (d : Option SensorDetail) : ListKept (s.raiseOwn c d) := by
  unfold State.raiseOwn
  dsimp only
  split
  · exact KeysKept.of_keys h (keys_updateEntry _ _ _ (key_repeated _ _) _)
  · rename_i hn
    have new : (Source.station s.own, c) ∉ s.alarms.map AlarmEntry.key := (not_listed_iff s _ _).mp (by simpa using hn)
    split
    · exact KeysKept.append h ‹_› new
    · split
      · rename_i hx
        obtain ⟨e, he, hd⟩ := List.any_eq_true.mp hx
        have len := List.length_eraseP_of_mem he hd
        have pos : 0 < s.alarms.length := List.length_pos_of_mem he
        have sub : (s.alarms.eraseP s.displaceable).Sublist s.alarms := List.eraseP_sublist
        refine KeysKept.append (KeysKept.sublist h sub) ?_ fun hm => new ((sub.map _).subset hm)
        have := h.1
        omega
      · exact h

theorem listKept_learnAlarm {s : State} (h : ListKept s) (a : Fin 16) (d : Option SensorDetail) (c : Cause) :
    ListKept (s.learnAlarm a d c) := listKept_repeatOrPlace h _ _ _ _ _ _ _

theorem listKept_learnAlarms {s : State} (h : ListKept s) (a : Fin 16) (m : Byte) (d : Option SensorDetail) :
    ListKept (s.learnAlarms a m d) := by
  unfold State.learnAlarms
  refine foldl_keeps ListKept _ (fun t c ht => ?_) _ s h
  split
  · exact listKept_learnAlarm ht a d c
  · exact ht

theorem listKept_filter {s : State} (h : ListKept s) (p : AlarmEntry → Bool) : ListKept (s.withAlarms (s.alarms.filter p)) :=
  KeysKept.sublist h List.filter_sublist

theorem listKept_compareCauses {s : State} (h : ListKept s) (a : Fin 16) (m : Byte) : ListKept (s.compareCauses a m) := by
  unfold State.compareCauses
  refine foldl_keeps ListKept _ (fun t c ht => ?_) _ _ (listKept_filter h _)
  split
  · rename_i hc
    simp only [Bool.and_eq_true, Bool.not_eq_true'] at hc
    exact listKept_placeEntry ht hc.2
  · exact ht

theorem listKept_ackOne {s : State} (h : ListKept s) (src : Source) (c : Cause) : ListKept (s.ackOne src c) :=
  KeysKept.of_keys h (keys_updateEntry _ _ _ key_acknowledge _)

theorem listKept_ackAll {s : State} (h : ListKept s) : ListKept s.ackAll := by
  refine KeysKept.of_keys h ?_
  simp only [State.ackAll, State.alarms, State.withAlc, List.map_map]
  exact List.map_congr_left fun e _ => key_acknowledge e

theorem listKept_clearFrom {s : State} (h : ListKept s) (a : Fin 16) (c : Cause) : ListKept (s.clearFrom a c) := by
  unfold State.clearFrom
  split
  · exact h
  · exact listKept_filter h _

theorem listKept_clearLost {s : State} (h : ListKept s) : ListKept s.clearLost := listKept_filter h _

theorem listKept_unclaimedWindow {s : State} (h : ListKept s) : ListKept s.unclaimedWindow :=
  listKept_repeatOrPlace h _ _ _ _ _ _ _

theorem listKept_announce {s : State} (h : ListKept s) (m : Byte) : ListKept (s.announce m) := by
  refine KeysKept.of_keys h ?_
  simp only [State.announce, alarms_withAlarms, List.map_map]
  refine List.map_congr_left fun e _ => ?_
  simp only [Function.comp]
  split <;> rfl

/-- An operation that leaves the Alarm List Controller leaves the list's bounds. -/
theorem listKept_congr {s t : State} (h : t.alc = s.alc) : ListKept t ↔ ListKept s := by
  simp [ListKept, State.alarms, h]

theorem listKept_clearOwn {s : State} (h : ListKept s) (c : Cause) : ListKept (s.clearOwn c) := by
  unfold State.clearOwn
  rw [listKept_congr (by simp : _ = (s.withAlarms (removeEntry (.station s.own) c s.alarms)).alc)]
  exact listKept_filter h _

/-! ### What a raise and a clearing leave listed (R32, R42) -/

/-- A raise that has a place lists its key PENDING; one that has none leaves the list and sets the unlisted flag. -/
theorem raiseOwn_spec (s : State) (c : Cause) (d : Option SensorDetail) :
    ListedPending (.station s.own) c (s.raiseOwn c d) ∨
      (s.raiseOwn c d).alarms = s.alarms ∧ (s.raiseOwn c d).alc.unlisted = true ∧
        Figures.alarmCapacity ≤ s.alarms.length ∧ s.listed (.station s.own) c = false := by
  unfold State.raiseOwn
  dsimp only
  split
  · rename_i h
    left
    obtain ⟨e, he, hk⟩ := List.any_eq_true.mp h
    refine ⟨e.repeated .pending d, List.mem_map.mpr ⟨e, he, if_pos hk⟩, ?_, rfl⟩
    rw [hasKey_iff, key_repeated]
    exact (hasKey_iff _ _ _).mp hk
  · rename_i hn
    split
    · exact .inl ⟨_, List.mem_append_right _ (List.mem_singleton.mpr rfl), by simp, rfl⟩
    · rename_i hf
      split
      · exact .inl ⟨_, List.mem_append_right _ (List.mem_singleton.mpr rfl), by simp, rfl⟩
      · exact .inr ⟨rfl, rfl, not_lt.mp hf, by simpa using hn⟩

/-- A cause cleared is listed no more, and every other entry stays. -/
theorem clearOwn_spec (s : State) (c : Cause) :
    (s.clearOwn c).ownListed c = false ∧
      ∀ e, e ∈ (s.clearOwn c).alarms ↔ e ∈ s.alarms ∧ e.key ≠ (.station s.own, c) := by
  have ha : (s.clearOwn c).alarms = removeEntry (.station s.own) c s.alarms := by
    unfold State.clearOwn
    simp [State.alarms, State.withAlarms]
  have ho : (s.clearOwn c).own = s.own := by simp [State.own, State.station]
  refine ⟨?_, fun e => by rw [ha, mem_removeEntry]⟩
  unfold State.ownListed
  rw [not_listed_iff, ha, ho]
  simp only [List.mem_map, mem_removeEntry]
  rintro ⟨e, ⟨_, hk⟩, he⟩
  exact hk he

/-! ### The notice queue (R128 to R130) -/

theorem queueKept_enqueueNotice {s : State} (h : QueueKept s) {n : Notice} (new : s.noticeWaiting n = false)
    (room : s.queueRoom = true) : QueueKept (s.enqueueNotice n) := by
  simp only [State.noticeWaiting, Bool.or_eq_false_iff, List.contains_eq_mem, decide_eq_false_iff_not, beq_eq_false_iff_ne] at new
  refine ⟨by simpa [State.enqueueNotice, State.queueRoom] using room, ?_, ?_⟩
  · simp only [State.enqueueNotice, withRsq_rsq]
    rw [List.nodup_append]
    exact ⟨h.2.1, by simp, by rintro a ha b hb rfl; simp only [List.mem_singleton] at hb; exact new.1 (hb ▸ ha)⟩
  · intro m hm hq
    simp only [State.enqueueNotice, withRsq_rsq, List.mem_append, List.mem_singleton] at hm hq
    rcases hq with hq | rfl
    · exact h.2.2 m hm hq
    · exact new.2 hm

theorem queueKept_placeInternal {s : State} (h : QueueKept s) (n : Notice) : QueueKept (s.placeInternal n) := by
  unfold State.placeInternal
  split
  · exact h
  · rename_i hn
    split
    · exact queueKept_enqueueNotice h (by simpa using hn) ‹_›
    · refine ⟨h.1, h.2.1, fun m hm hq => ?_⟩
      simp only [withRsq_rsq, Option.some.injEq] at hm hq
      subst hm
      exact hn (by simp [State.noticeWaiting, hq])

/-- The head leaves and a held notice takes the freed place. -/
theorem queueKept_retireHead {s : State} (h : QueueKept s) (hq : s.rsq.queue ≠ [] ∨ s.rsq.holding = none) :
    QueueKept s.retireHead := by
  refine ⟨?_, ?_, by simp [State.retireHead]⟩
  · have := h.1
    simp only [State.retireHead, withRsq_rsq, List.length_append, List.length_tail]
    cases ho : s.rsq.holding with
    | none => simp; omega
    | some n =>
      have : s.rsq.queue ≠ [] := hq.resolve_right (by simp [ho])
      have : 0 < s.rsq.queue.length := List.length_pos_iff.mpr this
      simp; omega
  · simp only [State.retireHead, withRsq_rsq]
    rw [List.nodup_append]
    refine ⟨h.2.1.sublist (List.tail_sublist _), ?_, ?_⟩
    · cases s.rsq.holding <;> simp
    · rintro a ha b hb rfl
      cases ho : s.rsq.holding with
      | none => simp [ho] at hb
      | some n =>
        simp only [ho, Option.toList_some, List.mem_singleton] at hb
        subst hb
        exact h.2.2 _ ho (List.mem_of_mem_tail ha)

end Machine
end Sys2Proof
end

