-- ==== Sys2Proof/Laws/Apportion.lean ====
section
/-!
SUPPORT. What the class fill, the sheds and a computation with what follows it can do.
-/

namespace Sys2Proof
namespace Machine

/-! ### The class fill (R62) -/

/-- The charge of an element is part of its class sum. -/
theorem charge_le_classSum (l : List Demand) (d : Demand) (h : d ∈ l) : d.charge ≤ classSum l d.cls := by
  unfold classSum
  apply List.le_sum_of_mem
  exact List.mem_map.mpr ⟨d, List.mem_filter.mpr ⟨h, by simp⟩, rfl⟩

/-- An element's part is never greater than its charge. -/
theorem fillPart_le (l : List Demand) (budget : Nat) (d : Demand) : fillPart l budget d ≤ d.charge := by
  unfold fillPart
  split
  · exact le_rfl
  · rename_i h
    apply Nat.div_le_of_le_mul
    rw [Nat.mul_comm]
    exact Nat.mul_le_mul_right _ (Nat.le_of_lt (not_le.mp h))

/-- Filling a class never raises the remainder. -/
theorem fillClass_le (l : List Demand) (r : Nat) (c : Fin 4) : fillClass l r c ≤ r := by
  unfold fillClass
  split <;> omega

theorem foldl_fillClass_le (l : List Demand) (cs : List (Fin 4)) : ∀ r, cs.foldl (fillClass l) r ≤ r := by
  induction cs with
  | nil => exact fun r => le_rfl
  | cons c cs ih => exact fun r => le_trans (ih _) (fillClass_le l r c)

theorem remainderBefore_le (l : List Demand) (budget : Nat) (c : Fin 4) : remainderBefore l budget c ≤ budget :=
  foldl_fillClass_le l _ budget

/-- A budget of 0 gives every element of the demand list a part of 0. -/
theorem fillPart_zero (l : List Demand) (d : Demand) (h : d ∈ l) : fillPart l 0 d = 0 := by
  have hr : remainderBefore l 0 d.cls = 0 := Nat.le_zero.mp (remainderBefore_le l 0 d.cls)
  unfold fillPart
  rw [hr]
  split
  · have := charge_le_classSum l d h
    omega
  · simp

/-! ### Channels that come out (R86, R87) -/

theorem Shedding.trans {c d e : Channel} (h : Shedding c d) (g : Shedding d e) : Shedding c e := by
  rcases h with rfl | ⟨hc, why, rfl⟩
  · exact g
  · rcases g with rfl | ⟨hd, _⟩
    · exact .inr ⟨hc, why, rfl⟩
    · simp [Channel.shed] at hd

/-- A state whose channels differ from another's by sheds alone. -/
def OnlySheds (s t : State) : Prop :=
  (∀ k, Shedding (s.channel k) (t.channel k)) ∧ t.ll.lowest = s.ll.lowest ∧ t.ll.restoreTimer = s.ll.restoreTimer ∧
    t.cfs = s.cfs ∧ t.ca = s.ca

theorem OnlySheds.refl (s : State) : OnlySheds s s := ⟨fun _ => .inl rfl, rfl, rfl, rfl, rfl⟩

theorem OnlySheds.trans {s t u : State} (h : OnlySheds s t) (g : OnlySheds t u) : OnlySheds s u :=
  ⟨fun k => (h.1 k).trans (g.1 k), g.2.1.trans h.2.1, g.2.2.1.trans h.2.2.1, g.2.2.2.1.trans h.2.2.2.1,
    g.2.2.2.2.trans h.2.2.2.2⟩

theorem channel_onChannel (s : State) (k j : Fin 8) (f : Channel → Channel) :
    (s.onChannel k f).channel j = if j = k then f (s.channel k) else s.channel j := by
  unfold State.onChannel
  split
  · rename_i h
    subst h
    simp
  · rename_i h
    simp [channel_withChannel_ne _ _ h]

@[simp] theorem lowest_onChannel (s : State) (k : Fin 8) (f : Channel → Channel) :
    (s.onChannel k f).ll.lowest = s.ll.lowest := rfl

@[simp] theorem restoreTimer_onChannel (s : State) (k : Fin 8) (f : Channel → Channel) :
    (s.onChannel k f).ll.restoreTimer = s.ll.restoreTimer := rfl

theorem onlySheds_onChannel (s : State) (k : Fin 8) (why : ShedCause) (h : s.isOn k = true) :
    OnlySheds s (s.onChannel k (Channel.shed why)) := by
  refine ⟨fun j => ?_, rfl, rfl, by simp, by simp⟩
  rw [channel_onChannel]
  split
  · rename_i hj
    subst hj
    exact .inr ⟨by simpa [State.isOn] using h, why, rfl⟩
  · exact .inl rfl

theorem lineSheds_onlySheds (s : State) : OnlySheds s s.lineSheds := by
  unfold State.lineSheds
  split
  · exact .refl s
  · refine foldl_keeps (OnlySheds s) _ (fun t k h => ?_) _ s (.refl s)
    split
    · rename_i hk
      simp only [Bool.and_eq_true] at hk
      exact h.trans (onlySheds_onChannel t k _ hk.1)
    · exact h

theorem allowanceSheds_onlySheds (s : State) : OnlySheds s s.allowanceSheds := by
  unfold State.allowanceSheds
  refine foldl_keeps (OnlySheds s) _ (fun t k h => ?_) _ s (.refl s)
  split
  · rename_i hk
    simp only [Bool.and_eq_true] at hk
    exact h.trans (onlySheds_onChannel t k _ hk.1)
  · exact h

theorem overdrawShed_onlySheds (s : State) : OnlySheds s s.overdrawShed := by
  unfold State.overdrawShed
  split
  · rename_i k hk
    exact onlySheds_onChannel s k _ (List.find?_some hk)
  · exact .refl s

/-- A channel that a shed leaves ON was ON. -/
theorem OnlySheds.isOn {s t : State} (h : OnlySheds s t) {k : Fin 8} (hk : t.isOn k = true) : s.isOn k = true := by
  rcases h.1 k with e | ⟨hc, _⟩
  · simpa [State.isOn, e] using hk
  · simpa [State.isOn] using hc

theorem rating_congr {s t : State} (h : t.cfs = s.cfs) (k : Fin 8) : t.rating k = s.rating k := by
  simp [State.rating, State.channelCfg, h]

theorem channelCfg_congr {s t : State} (h : t.cfs = s.cfs) (k : Fin 8) : t.channelCfg k = s.channelCfg k := by
  simp [State.channelCfg, h]

theorem mem_eight (k : Fin 8) : k ∈ eight := by
  revert k
  decide

theorem mem_sixteen (i : Fin 16) : i ∈ sixteen := by
  revert i
  decide

theorem onSum_le {s t : State} (h : OnlySheds s t) : t.onSum ≤ s.onSum := by
  unfold State.onSum
  refine List.sum_le_sum fun k _ => ?_
  rw [rating_congr h.2.2.2.1]
  split
  · rename_i hk
    rw [if_pos (h.isOn hk)]
  · exact Nat.zero_le _

/-- Once no channel is ON the ON ratings sum to 0. -/
theorem onSum_eq_zero {s : State} (h : ∀ k, s.isOn k = false) : s.onSum = 0 := by
  simp [State.onSum, h]

/-- A channel of the priority order that is not ON stays not ON through further sheds. -/
theorem OnlySheds.stays {s t : State} (h : OnlySheds s t) {k : Fin 8} (hk : s.isOn k = false) : t.isOn k = false := by
  cases ht : t.isOn k
  · rfl
  · rw [h.isOn ht] at hk
    exact absurd hk (by decide)

/-- The turn of the allowance sheds at one channel. -/
def allowanceTurn (s : State) (k : Fin 8) : State :=
  if s.isOn k && decide (s.ca.allowance < s.onSum) then s.onChannel k (Channel.shed .allowance) else s

theorem allowanceTurn_onlySheds (s : State) (k : Fin 8) : OnlySheds s (allowanceTurn s k) := by
  unfold allowanceTurn
  split
  · rename_i hk
    simp only [Bool.and_eq_true] at hk
    exact onlySheds_onChannel s k _ hk.1
  · exact .refl s

theorem isOn_shed (s : State) (k : Fin 8) (why : ShedCause) : (s.onChannel k (Channel.shed why)).isOn k = false := by
  simp [State.isOn, channel_onChannel, Channel.shed]

/-- Through the turns of a list either the ON ratings fit the allowance or every channel of the list is out. -/
theorem allowanceTurns_fit (l : List (Fin 8)) :
    ∀ s : State, (l.foldl allowanceTurn s).onSum ≤ s.ca.allowance ∨ ∀ k ∈ l, (l.foldl allowanceTurn s).isOn k = false := by
  have grow : ∀ (l : List (Fin 8)) (s : State), OnlySheds s (l.foldl allowanceTurn s) := by
    intro l s
    exact foldl_keeps (OnlySheds s) _ (fun t k h => h.trans (allowanceTurn_onlySheds t k)) l s (.refl s)
  induction l with
  | nil => intro s; exact .inr (by simp)
  | cons k l ih =>
    intro s
    have hk := allowanceTurn_onlySheds s k
    by_cases hfit : s.onSum ≤ s.ca.allowance
    · left
      exact le_trans (onSum_le (hk.trans (grow l _))) hfit
    · rcases ih (allowanceTurn s k) with h | h
      · left
        rw [← hk.2.2.2.2]
        exact h
      · right
        intro j hj
        rcases List.mem_cons.mp hj with rfl | hj
        · refine (grow l _).stays ?_
          unfold allowanceTurn
          cases hon : s.isOn j
          · simp [hon]
          · rw [if_pos (by simp [not_le.mp hfit])]
            exact isOn_shed s j _
        · exact h j hj

/-- Counted modulo 8 from any channel, every channel is reached. -/
theorem ring_turn : ∀ k l : Fin 8, l + 1 + (k - l - 1) = k := by decide

/-- Every ON channel stands in the priority order. -/
theorem mem_ring {s : State} {k : Fin 8} (h : s.isOn k = true) : k ∈ s.ring := by
  unfold State.ring
  refine List.mem_filter.mpr ⟨List.mem_map.mpr ?_, ?_⟩
  · exact ⟨k - s.ll.lowest - 1, mem_eight _, ring_turn k s.ll.lowest⟩
  · simp only [State.isOn, beq_iff_eq] at h
    simp [h]

/-- R86: after the allowance sheds the ON ratings fit the allowance. -/
theorem allowanceSheds_fit (s : State) : s.allowanceSheds.onSum ≤ s.ca.allowance := by
  have e : s.allowanceSheds = s.ring.reverse.foldl allowanceTurn s := rfl
  rw [e]
  rcases allowanceTurns_fit s.ring.reverse s with h | h
  · exact h
  · have grow : OnlySheds s (s.ring.reverse.foldl allowanceTurn s) := e ▸ allowanceSheds_onlySheds s
    refine le_trans (le_of_eq (onSum_eq_zero fun k => ?_)) (Nat.zero_le _)
    cases hon : (s.ring.reverse.foldl allowanceTurn s).isOn k
    · rfl
    · rw [← hon]
      exact h k (List.mem_reverse.mpr (mem_ring (grow.isOn hon)))

/-- R87: after the line sheds no line-fed channel is ON unless the line condition is AVAILABLE. -/
theorem lineSheds_out (s : State) (h : s.ca.lineCondition ≠ .available) (k : Fin 8) (hk : s.lineSheds.isOn k = true) :
    (s.channelCfg k).batteryFed = true := by
  unfold State.lineSheds at hk
  rw [if_neg h] at hk
  have main : ∀ (l : List (Fin 8)) (t : State), t.cfs = s.cfs →
      ∀ j ∈ l, (l.foldl (fun s k => if s.isOn k && !(s.channelCfg k).batteryFed then s.onChannel k (Channel.shed .line)
        else s) t).isOn j = true → (s.channelCfg j).batteryFed = true := by
    intro l
    induction l with
    | nil => simp
    | cons a l ih =>
      intro t ht j hj hon
      let turn (t : State) (k : Fin 8) : State :=
        if t.isOn k && !(t.channelCfg k).batteryFed then t.onChannel k (Channel.shed .line) else t
      have step : OnlySheds t (turn t a) := by
        dsimp only [turn]
        split
        · rename_i hk
          simp only [Bool.and_eq_true] at hk
          exact onlySheds_onChannel t a _ hk.1
        · exact .refl t
      have rest : ∀ (l : List (Fin 8)) (t : State), OnlySheds t (l.foldl turn t) := by
        intro l t
        refine foldl_keeps (OnlySheds t) _ (fun u k h => ?_) l t (.refl t)
        refine h.trans ?_
        dsimp only [turn]
        split
        · rename_i hk
          simp only [Bool.and_eq_true] at hk
          exact onlySheds_onChannel u k _ hk.1
        · exact .refl u
      rcases List.mem_cons.mp hj with rfl | hj
      · have hon' : (turn t j).isOn j = true := (rest l _).isOn hon
        rw [← channelCfg_congr ht j]
        by_contra hb
        have hb' : (t.channelCfg j).batteryFed = false := by simpa using hb
        have hj1 : t.isOn j = true := step.isOn hon'
        have : turn t j = t.onChannel j (Channel.shed .line) := by simp [turn, hj1, hb']
        rw [this, isOn_shed] at hon'
        exact absurd hon' (by decide)
      · exact ih (turn t a) (step.2.2.2.1.trans ht) j hj hon
  exact main eight s rfl k (mem_eight k) hk

/-! ### What follows a computation -/

theorem onSum_congr {s t : State} (h : t.ll.channels = s.ll.channels) (g : t.cfs = s.cfs) : t.onSum = s.onSum := by
  simp [State.onSum, State.isOn, State.channel, State.rating, State.channelCfg, h, g]

theorem isOn_congr {s t : State} (h : t.ll.channels = s.ll.channels) (k : Fin 8) : t.isOn k = s.isOn k := by
  simp [State.isOn, State.channel, h]

/-- What follows a computation only sheds, leaves the apportioner's items but the grant and the overdraw alone, and brings
the ON ratings within the allowance. -/
theorem follow_spec (s : State) :
    (∀ k, Shedding (s.channel k) (s.follow.channel k)) ∧ s.follow.ll.lowest = s.ll.lowest ∧
      s.follow.ll.restoreTimer = s.ll.restoreTimer ∧
      s.follow.ca =
        { s.ca with
          grant := s.follow.ca.grant, overdrawTimer := s.follow.ca.overdrawTimer, overdrawFlag := s.follow.ca.overdrawFlag } ∧
      s.follow.onSum + s.follow.ca.grant = s.ca.allowance ∧
      (s.ca.lineCondition ≠ .available → ∀ k, s.follow.isOn k = true → (s.channelCfg k).batteryFed = true) := by
  have h1 := lineSheds_onlySheds s
  have h2 := allowanceSheds_onlySheds s.lineSheds
  have h3 := h1.trans h2
  have ell : s.follow.ll = s.lineSheds.allowanceSheds.ll := by simp [State.follow]
  have esum : s.follow.onSum = s.lineSheds.allowanceSheds.onSum :=
    onSum_congr (by rw [ell]) (by simp [State.follow])
  have eca : s.lineSheds.allowanceSheds.ca = s.ca := h3.2.2.2.2
  have fit := allowanceSheds_fit s.lineSheds
  rw [h1.2.2.2.2] at fit
  refine ⟨fun k => ?_, ?_, ?_, ?_, ?_, ?_⟩
  · have : s.follow.channel k = s.lineSheds.allowanceSheds.channel k := by simp [State.channel, ell]
    rw [this]
    exact h3.1 k
  · rw [ell]; exact h3.2.1
  · rw [ell]; exact h3.2.2.1
  · simp [State.follow, State.overdrawRule, State.grantRule]
  · rw [esum]
    simp only [State.follow, State.overdrawRule, State.grantRule, withCa_ca]
    rw [eca]
    omega
  · intro hl k hk
    have hk' : s.lineSheds.isOn k = true :=
      h2.isOn (by rw [← isOn_congr (s := s.lineSheds.allowanceSheds) (t := s.follow) (by rw [ell])]; exact hk)
    exact lineSheds_out s hl k hk'

end Machine
end Sys2Proof
end

