-- ==== Sys2Proof/Laws/Codes.lean ====
section
/-!
SUPPORT. What the maps and codes can do: a map's bit says whether its member is in, the outputs show their conditions once
driven, ATTN follows the summary and the mask, and a code read back gives what was coded (12.1, R174, R195).
-/

namespace Sys2Proof
namespace Machine

/-! ### Maps -/

theorem getLsbD_addBit {w : Nat} (m : BitVec w) (k j : Nat) :
    (addBit m k).getLsbD j = (m.getLsbD j || decide (j < w ∧ j = k)) := by
  simp only [addBit, BitVec.getLsbD_or, BitVec.getLsbD_twoPow]
  by_cases h : j = k
  · subst h; simp
  · simp [h, Ne.symm h]

theorem getLsbD_dropBit {w : Nat} (m : BitVec w) (k j : Nat) :
    (dropBit m k).getLsbD j = (m.getLsbD j && decide (j ≠ k)) := by
  simp only [dropBit, BitVec.getLsbD_and, BitVec.getLsbD_not, BitVec.getLsbD_twoPow]
  by_cases h : j = k
  · subst h
    by_cases hw : j < w
    · simp [hw]
    · simp [hw]
  · by_cases hw : j < w
    · simp [h, Ne.symm h, hw]
    · simp [hw, BitVec.getLsbD_of_ge m j (not_lt.mp hw)]

/-- The bit of a member says whether the member is in the map. -/
theorem getLsbD_bitmap {n : Nat} (w : Nat) (l : List (Fin n)) (f : Fin n → Bool) (j : Fin n) (hj : j.val < w) (hl : j ∈ l) :
    (bitmap w l f).getLsbD j.val = f j := by
  have turn : ∀ (l : List (Fin n)) (m : BitVec w),
      (l.foldl (fun m k => if f k then m ||| BitVec.twoPow w k.val else m) m).getLsbD j.val =
        (m.getLsbD j.val || (decide (j ∈ l) && f j)) := by
    intro l
    induction l with
    | nil => simp
    | cons a l ih =>
      intro m
      rw [List.foldl_cons, ih]
      by_cases ha : a = j
      · subst ha
        cases hf : f a <;> simp [hj]
      · have hv : a.val ≠ j.val := fun h => ha (Fin.ext h)
        cases hf : f a <;> simp [hv, Ne.symm ha, BitVec.getLsbD_twoPow]
  unfold bitmap
  rw [turn]
  simp [hl]

theorem getLsbD_sixteen (f : Fin 16 → Bool) (i : Fin 16) : (bitmap 16 sixteen f).getLsbD i.val = f i :=
  getLsbD_bitmap 16 sixteen f i i.isLt (mem_sixteen i)

theorem getLsbD_eight (f : Fin 8 → Bool) (k : Fin 8) : (bitmap 8 eight f).getLsbD k.val = f k :=
  getLsbD_bitmap 8 eight f k k.isLt (mem_eight k)

/-! ### Outputs and ATTN -/

/-- Driving the outputs leaves every condition as it is. -/
theorem outputCondition_driveOutputs (s : State) (o : Fin 16) : s.driveOutputs.outputCondition o = s.outputCondition o := by
  unfold State.driveOutputs
  rfl

/-- R174: once driven, every output shows the condition its function names. -/
theorem outputsShown_driveOutputs (s : State) : OutputsShown s.driveOutputs := by
  intro o
  rw [outputCondition_driveOutputs]
  exact getLsbD_sixteen s.outputCondition o

/-- R195: once refreshed, ATTN follows the summary and the mask. -/
theorem attnShown_refreshAttn (s : State) : AttnShown s.refreshAttn := rfl

theorem attnShown_setTopics (s : State) (t : Topics) : AttnShown (s.setTopics t) := rfl

/-- R193: setting topics leaves those already set, and changes nothing else of the link but ATTN. -/
theorem setTopics_sl (s : State) (t : Topics) :
    (s.setTopics t).sl =
      { s.sl with summary := s.sl.summary.union t, attn := ((s.sl.summary.union t).inter s.sl.mask).nonempty } := rfl

/-- Every event that ends as events do shows its outputs and its ATTN. -/
theorem finishBut_shows (skip : Option (Fin 8)) (s old : State) :
    OutputsShown (s.finishBut skip old) ∧ AttnShown (s.finishBut skip old) := by
  refine ⟨fun o => ?_, rfl⟩
  have h := outputsShown_driveOutputs (s.blocksEnd old) o
  have e : (s.finishBut skip old).outputCondition o = (s.blocksEnd old).driveOutputs.outputCondition o := rfl
  rw [e, ← h]
  rfl

/-! ### Codes (12.1) -/

theorem roleOfCode_roleCode (r : Role) : roleOfCode (roleCode r) = some r := by cases r <;> rfl

theorem lineConditionOfCode_code (c : LineCondition) : lineConditionOfCode (lineConditionCode c) = some c := by cases c <;> rfl

theorem poleStateOfCode_code (p : PoleState) : poleStateOfCode (poleStateCode p) = some p := by cases p <;> rfl

theorem bandOfCode_code (b : Band) : bandOfCode (bandCode b) = some b := by cases b <;> rfl

theorem causeOfCode_code (c : Cause) : causeOfCode (causeCode c) = some c := by cases c <;> rfl

theorem sourceOfCode_code (s : Source) : sourceOfCode (sourceCode s) = some s := by
  cases s with
  | station a => simp [sourceOfCode, sourceCode]
  | unknown => rfl

theorem actionOfCode_code (a : PoleAction) : actionOfCode (actionCode a) = some a := by cases a <;> rfl

theorem polesOfCode_code (x : PoleSel) : polesOfCode (polesCode x) = some x := by cases x <;> rfl

theorem detailOfCode_code (d : SensorDetail) : detailOfCode (detailCode d) = some d := by cases d <;> rfl

theorem inputFnOfCode_code (f : InputFn) : inputFnOfCode (inputFnCode f) = some f := by
  cases f with
  | stowed x => cases x <;> rfl
  | channelReq k => revert k; decide
  | _ => rfl

theorem outputFnOfCode_code (f : OutputFn) : outputFnOfCode (outputFnCode f) = some f := by
  cases f with
  | raisePole x => cases x <;> rfl
  | lowerPole x => cases x <;> rfl
  | channel k => revert k; decide
  | _ => rfl

theorem requestSourceOfCode_code (r : RequestSource) : requestSourceOfCode (requestSourceCode r) = some r := by
  cases r <;> rfl

theorem bitRateOfCode_code (r : BitRate) : bitRateOfCode (bitRateCode r) = some r := by cases r <;> rfl

theorem channelActionOfCode_code (a : ChannelAction) : channelActionOfCode (channelActionCode a) = some a := by
  cases a <;> rfl

end Machine
end Sys2Proof
end

