-- ==== Sys2Proof/Laws/Ladder.lean ====
section
/-!
SUPPORT. What the operations on channels and the computations with what follows them can do: each keeps a channel's state in
agreement with its flags (R74), and leaves the allowance made up of the ON ratings and the grant (R67).
-/

namespace Sys2Proof
namespace Machine

/-! ### A channel's state and its flags (R74, R80 to R89, R91) -/

theorem agrees_request {c : Channel} (h : c.Agrees) : c.request.Agrees := by
  obtain ⟨r, m, st, why⟩ := c
  cases r <;> cases m <;> cases st <;> simp_all [Channel.Agrees, Channel.request]

theorem agrees_release {c : Channel} (h : c.Agrees) : c.release.Agrees := by
  obtain ⟨r, m, st, why⟩ := c
  cases r <;> cases m <;> cases st <;> simp_all [Channel.Agrees, Channel.release]

theorem agrees_mask {c : Channel} (h : c.Agrees) : c.mask.Agrees := by
  obtain ⟨r, m, st, why⟩ := c
  cases r <;> cases m <;> cases st <;> simp_all [Channel.Agrees, Channel.mask]

theorem agrees_unmask {c : Channel} (h : c.Agrees) : c.unmask.Agrees := by
  obtain ⟨r, m, st, why⟩ := c
  cases r <;> cases m <;> cases st <;> simp_all [Channel.Agrees, Channel.unmask]

theorem agrees_shed {c : Channel} (h : c.Agrees) (hc : c.state = .waiting ∨ c.state = .on ∨ c.state = .shed)
    (why : ShedCause) : (c.shed why).Agrees := by
  obtain ⟨r, m, st, w⟩ := c
  cases r <;> cases m <;> cases st <;> simp_all [Channel.Agrees, Channel.shed]

theorem agrees_shedOnRequest {c : Channel} (h : c.Agrees) : c.shedOnRequest.Agrees := by
  unfold Channel.shedOnRequest
  split
  · rename_i hc
    refine agrees_shed h ?_ _
    simp only [Bool.or_eq_true, decide_eq_true_eq] at hc
    tauto
  · exact h

theorem agrees_restored {c : Channel} (h : c.Agrees) (hc : c.state = .waiting ∨ c.state = .shed) : c.restored.Agrees := by
  obtain ⟨r, m, st, w⟩ := c
  cases r <;> cases m <;> cases st <;> simp_all [Channel.Agrees, Channel.restored]

theorem agrees_freshChannel (rating : Nat) : (freshChannel rating).Agrees := by
  unfold freshChannel
  split <;> simp [Channel.Agrees]

/-- A shed keeps the agreement and never reaches or leaves UNUSED. -/
theorem Shedding.agrees {c d : Channel} (h : Shedding c d) (hc : c.Agrees) :
    d.Agrees ∧ (d.state = .unused ↔ c.state = .unused) := by
  rcases h with rfl | ⟨hs, why, rfl⟩
  · exact ⟨hc, Iff.rfl⟩
  · exact ⟨agrees_shed hc (.inr (.inl hs)) why, by simp [Channel.shed, hs]⟩

/-- No operation on a channel reaches or leaves UNUSED. -/
theorem unused_iff (c : Channel) :
    (c.request.state = .unused ↔ c.state = .unused) ∧ (c.release.state = .unused ↔ c.state = .unused) ∧
      (c.mask.state = .unused ↔ c.state = .unused) ∧ (c.unmask.state = .unused ↔ c.state = .unused) ∧
      (c.shedOnRequest.state = .unused ↔ c.state = .unused) := by
  obtain ⟨r, m, st, w⟩ := c
  cases r <;> cases st <;>
    simp [Channel.request, Channel.release, Channel.mask, Channel.unmask, Channel.shedOnRequest, Channel.shed]

/-- R74, R75 through a change of one channel that keeps its agreement and its being used. -/
theorem ladderAgrees_onChannel {s : State} (h : LadderAgrees s) (k : Fin 8) (f : Channel → Channel)
    (hf : (f (s.channel k)).Agrees) (hu : (f (s.channel k)).state = .unused ↔ (s.channel k).state = .unused) :
    LadderAgrees (s.onChannel k f) := by
  intro j
  have hr : (s.onChannel k f).rating j = s.rating j := rating_congr (by simp) j
  rw [channel_onChannel, hr]
  split
  · rename_i hj
    subst hj
    exact ⟨hf, hu.trans (h j).2⟩
  · exact h j

/-- R74, R75 through sheds alone. -/
theorem OnlySheds.ladderAgrees {s t : State} (h : OnlySheds s t) (hs : LadderAgrees s) : LadderAgrees t := by
  intro k
  have := (h.1 k).agrees (hs k).1
  exact ⟨this.1, by rw [this.2, rating_congr h.2.2.2.1]; exact (hs k).2⟩

/-- The channels' agreement rests on the channels and the ratings alone. -/
theorem ladderAgrees_congr {s t : State} (h : t.ll.channels = s.ll.channels) (g : t.cfs = s.cfs) :
    LadderAgrees t ↔ LadderAgrees s := by
  simp [LadderAgrees, State.channel, State.rating, State.channelCfg, h, g]

/-! ### The computations and what follows them (R53, R56 to R67, R86, R87) -/

/-- What follows a computation leaves every item the computation forms. -/
theorem follow_items (s : State) :
    s.follow.ca.ownCharge = s.ca.ownCharge ∧ s.follow.ca.lineCondition = s.ca.lineCondition ∧
      s.follow.ca.poleVoltage = s.ca.poleVoltage ∧ s.follow.ca.budget = s.ca.budget ∧
      s.follow.ca.share = s.ca.share ∧ s.follow.ca.allowance = s.ca.allowance ∧
      s.follow.ca.demand = s.ca.demand ∧ s.follow.ca.demandHoldTimer = s.ca.demandHoldTimer := by
  have h : s.lineSheds.allowanceSheds.ca = s.ca :=
    ((lineSheds_onlySheds s).trans (allowanceSheds_onlySheds s.lineSheds)).2.2.2.2
  simp only [State.follow, State.overdrawRule, State.grantRule, withCa_ca, h]
  simp

/-- A computation forms its items from the inputs as they stand, and takes the allowance given. -/
theorem compute_setAllowance (s : State) (a : Nat) :
    (s.compute.setAllowance a).ca =
      { s.ca with
        ownCharge := s.formCharge
        lineCondition := s.judgeLine
        poleVoltage := s.sourceVoltage
        budget := s.formBudget s.judgeLine s.sourceVoltage
        share := s.formShare s.formCharge (s.formBudget s.judgeLine s.sourceVoltage)
        allowance := if s.rsq.mode = .run then a else 0 } := rfl

/-- What follows a computation that took the allowance `a` can do. -/
theorem computed_spec (s : State) (a : Nat) :
    let t := (s.compute.setAllowance a).follow
    t.ca.ownCharge = s.formCharge ∧ t.ca.lineCondition = s.judgeLine ∧ t.ca.poleVoltage = s.sourceVoltage ∧
      t.ca.budget = s.formBudget s.judgeLine s.sourceVoltage ∧
      t.ca.share = s.formShare s.formCharge (s.formBudget s.judgeLine s.sourceVoltage) ∧
      t.ca.allowance = (if s.rsq.mode = .run then a else 0) ∧ t.ca.demand = s.ca.demand ∧
      t.ca.demandHoldTimer = s.ca.demandHoldTimer ∧ (∀ k, Shedding (s.channel k) (t.channel k)) ∧
      t.onSum + t.ca.grant = t.ca.allowance ∧
      (s.judgeLine ≠ .available → ∀ k, t.isOn k = true → (s.channelCfg k).batteryFed = true) := by
  have hca := compute_setAllowance s a
  have hc : ∀ k, (s.compute.setAllowance a).channel k = s.channel k := fun k => by simp [State.channel]
  have hg : ∀ k, (s.compute.setAllowance a).channelCfg k = s.channelCfg k := fun k => channelCfg_congr (by simp) k
  generalize s.compute.setAllowance a = u at hca hc hg
  obtain ⟨i1, i2, i3, i4, i5, i6, i7, i8⟩ := follow_items u
  obtain ⟨h1, -, -, -, h5, h6⟩ := follow_spec u
  dsimp only
  rw [i1, i2, i3, i4, i5, i6, i7, i8, h5]
  simp only [hca] at h6 ⊢
  simp only [true_and]
  exact ⟨fun k => hc k ▸ h1 k, fun hl k hk => hg k ▸ h6 hl k hk⟩

/-- The lowering computation: the allowance becomes the lesser of itself and the share (R65). -/
theorem caSettle_eq (s : State) :
    s.caSettle =
      (s.compute.setAllowance
        (min s.ca.allowance (s.formShare s.formCharge (s.formBudget s.judgeLine s.sourceVoltage)))).follow := rfl

/-- The round computation: the allowance climbs towards the share (R64). -/
theorem caRound_eq (s : State) :
    s.caRound =
      (s.compute.setAllowance
        (roundAllowance s.cfs.settings.apportion.rampStep s.ca.allowance
          (s.formShare s.formCharge (s.formBudget s.judgeLine s.sourceVoltage)))).follow := rfl

/-- The round computation raises the allowance by no more than ramp_step, and never above the share. -/
theorem roundAllowance_le (step a t : Nat) : roundAllowance step a t ≤ t ∧ roundAllowance step a t ≤ a + step := by
  unfold roundAllowance
  split <;> omega

/-- The share is never greater than the own charge. -/
theorem formShare_le (s : State) (charge budget : Nat) : s.formShare charge budget ≤ charge := fillPart_le _ _ _

/-- A budget of 0 gives the station a share of 0. -/
theorem formShare_zero (s : State) (charge : Nat) : s.formShare charge 0 = 0 :=
  fillPart_zero _ _ (by simp [State.demandList])

end Machine
end Sys2Proof
end

