-- ==== Sys2Proof/Tests/Slice0.lean ====
section
/-!
SUPPORT. Tests: the smoke test of WellFormed, the manual's own worked figures, one step of some commands on small states,
and, for each statement with hypotheses, a witness that meets them, clause by clause where the statement has several.
-/

namespace Sys2Proof
namespace Machine

/-! ### WellFormed: each check refuses an ill-formed command -/

theorem test_wf_config_write : Instr.wf (.configWrite 5 (List.replicate 24 0)) = false := by decide

theorem test_wf_send_clear : Instr.wf (.sendNotice (.clear .lineLoss)) = false := by decide

theorem test_wf_send_ack_unknown : Instr.wf (.sendNotice (.ack .unknown .lineLoss)) = false := by decide

theorem test_wf_send_ack_unclaimed : Instr.wf (.sendNotice (.ack (.station 3) .unclaimed)) = false := by decide

theorem test_wf_bad_message : Instr.wf (.badMessage (.whole 4 (List.replicate 49 0) 0)) = false := by decide

theorem test_wf_discarded : Instr.wf (.sampleWordDiscarded 16) = false := by decide

theorem test_wf_receive_error : Instr.wf (.receiveError (List.replicate 19 0) .idle) = false := by decide

theorem test_wf_break_detection : Instr.wf (.breakDetection (List.replicate 19 0)) = false := by decide

theorem test_wf_echo : Instr.wf (.echoMismatch 18 0) = false := by decide

theorem test_wf_stale_none : Instr.wf (.latchStale 0 .recessive) = false := by decide

/-! ### Small states -/

/-- The state a command leaves. -/
def next (s : State) (c : Instr) : State := match exec c s with | .next t => t | _ => s

/-- The default settings in a role, with eight channels of rating 20 to 27. -/
def settingsOf (r : Role) : Settings := { station := { role := r }, channels := tabulate fun k => { rating := 20 + k.val } }

/-- A station in CONFIG whose blocks hold their values after reset. -/
def inConfig (r : Role) : State :=
  { cfs := { settings := settingsOf r }, ll := { channels := Vector.replicate 8 { state := .off } } }

/-- A station in LISTEN. -/
def inListen (r : Role) : State :=
  { inConfig r with
    rsq := { mode := .listen, idleCount := some 0 }
    ll := { channels := Vector.replicate 8 { state := .off }, restoreTimer := some 0 }
    ca := { lineCondition := if r = .pole then .offWire else .unknown, poleVoltage := if r = .pole then some 0 else none } }

/-- A station in LISTEN on a line recessive for 8,192 bit times. -/
def longIdle (r : Role) : State := { inListen r with rsq := { mode := .listen, idleCount := some 8192 } }

/-- A station in RUN at a slot start; the poles of a POLE station are under supervision and STOWED. -/
def inRun (r : Role) : State :=
  { inListen r with
    rsq := { mode := .run, phase := .slot }
    ps := if r = .pole then { supervising := true, poleP := { state := .stowed }, poleN := { state := .stowed } } else {} }

/-- The state with one channel record replaced. -/
def State.put (s : State) (k : Fin 8) (c : Channel) : State := { s with ll := { s.ll with channels := setCell s.ll.channels k c } }

/-- A POLE station in RUN with pole P as given and pole N ON_WIRE, in the band NORMAL at 600 V, every latch fresh at 200. -/
def withP (r : Pole) : State :=
  { inRun .pole with
    ps :=
      { supervising := true, poleP := r, poleN := { state := .onWire, elevation := 200 }, band := .normal
        lineVoltage := 600 }
    iou := { latches := Vector.replicate 8 { value := 200, age := 0, stale := false } } }

/-- An entry of a source and cause in a state. -/
def entry (src : Source) (c : Cause) (st : AlarmState) : AlarmEntry := ⟨src, c, none, st, .localRaise, 0, 0⟩

/-- The state with an alarm list. -/
def State.listing (s : State) (l : List AlarmEntry) : State := { s with alc := { s.alc with entries := l } }

/-- Twenty-four entries of other stations. -/
def fullList : List AlarmEntry :=
  (List.finRange 12).flatMap fun a =>
    [entry (.station (Fin.ofNat 16 (a.val + 4))) .lineLoss .announced, entry (.station (Fin.ofNat 16 (a.val + 4))) .poleDropP .announced]

/-- A station in RUN with a PENDING own entry. -/
def wanting : State := (inRun .aux).listing [entry (.station 0) .lineLoss .pending]

/-- A station with the input settled and bound to a function. -/
def State.withInputOf (s : State) (f : InputFn) (v : Debounced) : State :=
  { s with
    cfs := { s.cfs with settings := { s.cfs.settings with inputs := { s.cfs.settings.inputs with fn := setCell s.cfs.settings.inputs.fn 3 f } } }
    iou := { s.iou with inputs := setCell s.iou.inputs 3 { value := v } } }

/-- A STATUS of an AUX station with nothing raised. -/
def quietStatus : StatusBody := statusBody ⟨some .aux, 2, 1, 60, 0, 0, 0, some .unknown, false, 0, .aux 0 0⟩

/-- The state with one peer record replaced, its age at lost_ms. -/
def State.knowing (s : State) (a : Fin 16) (p : PeerState) : State :=
  { s with pt := setCell s.pt a { state := p, age := 500, stated := some (readStatus quietStatus) } }

/-- A station in RUN sending a frame, its SYNC on the line. -/
def sendingFrame (k : FrameKind) : State :=
  { wanting with
    li := { driver := .frame, ownFrame := some ⟨k, frameChars 0 (.alarm ⟨4, 0⟩), 0⟩ }
    rsq := { (inRun .aux).rsq with queue := [.ackAll, .clear .lineLoss] }
    pins := { line := .dominant } }

/-! ### The manual's figures -/

/-- 7.4, worked check. -/
theorem test_check_one_byte : frameCheck [0] = 0xE1F0 := by decide

/-- 7.4: the nine digit characters. -/
theorem test_check_digits : frameCheck [49, 50, 51, 52, 53, 54, 55, 56, 57] = 0x29B1 := by decide +kernel

/-- 3.10, worked case: the settings of the eight-station vehicle. -/
def worked : ApportionSettings := { poleMax := 700, vKnee := 600, vFloor := 400, reserve := 20, rampStep := 25 }

theorem test_line_budget : [600, 599, 560, 400, 380].map (lineBudget worked) = [700, 696, 560, 0, 0] := by decide

/-- 3.10, worked case: the demand list. -/
def workedList : List Demand := [⟨4, 0⟩, ⟨2, 0⟩, ⟨30, 0⟩, ⟨45, 0⟩, ⟨300, 1⟩, ⟨280, 1⟩, ⟨60, 2⟩, ⟨50, 3⟩]

theorem test_class_fill : workedList.map (fillPart workedList 640) = [4, 2, 30, 45, 289, 269, 0, 0] := by decide

theorem test_class_fill_dewired : workedList.map (fillPart workedList 100) = [4, 2, 30, 45, 9, 9, 0, 0] := by decide

theorem test_class_fill_lost :
    fillPart [⟨81, 0⟩, ⟨300, 1⟩, ⟨400, 1⟩, ⟨60, 2⟩, ⟨50, 3⟩] 640 ⟨300, 1⟩ = 239 := by decide

theorem test_ramp : (roundAllowance 25 250 289, roundAllowance 25 275 289, roundAllowance 25 284 289) = (275, 289, 289) := by decide

/-- 1.2: the default thresholds. -/
theorem test_band :
    (nextBand {} .none 219, nextBand {} .none 220, nextBand {} .low 469, nextBand {} .low 470, nextBand {} .normal 450,
      nextBand {} .normal 449, nextBand {} .normal 199) = (.none, .low, .low, .normal, .normal, .low, .none) := by decide

/-- R84: the priority order with L at 7 and at 2. -/
theorem test_ring :
    (inRun .aux).ring = [0, 1, 2, 3, 4, 5, 6, 7] ∧
      { inRun .aux with ll := { (inRun .aux).ll with lowest := 2 } : State }.ring = [3, 4, 5, 6, 7, 0, 1, 2] := by decide

/-- 4.7, sequence: the auxiliary station at the break, its share 30 from a store peer's offer. -/
def ladderStation : State :=
  { inRun .aux with
    cfs :=
      { settings :=
        { settingsOf .aux with
          channels :=
            setCell (setCell (setCell (setCell (Vector.replicate 8 {}) 0 { rating := 40 }) 1 { rating := 40 }) 2
              { rating := 15, batteryFed := true }) 3 { rating := 25, batteryFed := true } } }
    ll :=
      { channels := tabulate fun k => if k.val < 4 then { requested := true, state := .on } else {}, lowest := 3
        restoreTimer := some 400 }
    ca := { ownCharge := 120, share := 120, allowance := 120, lineCondition := .available }
    pt :=
      setCell (setCell (Vector.replicate 16 {}) 1
        { state := .fresh, stated := some ⟨some .pole, 0, 0, 0, 0, 0, 0, none, false, 0, .pole 560 (some .onWire) (some .onWire) (some .normal) false⟩ }) 2
        { state := .fresh, stated := some ⟨some .store, 3, 0, 0, 0, 0, 0, none, false, 0, .store 30 none⟩ } }

theorem test_ladder_break :
    let t := next ladderStation (.breakDetection [])
    (eight.map fun k => (t.channel k).state) = [.shed, .shed, .on, .shed, .unused, .unused, .unused, .unused] ∧
      ((t.channel 0).shedCause, (t.channel 3).shedCause, t.ca.allowance, t.ca.grant) = (.line, .allowance, 30, 15) := by
  decide

/-- The state a millisecond with no command waiting leaves. -/
def later (s : State) : State := match step s with | .next t => t | _ => s

/-- 9.2, sequence: the sample at 19 ms settles input 3. -/
theorem test_debounce :
    let s : State :=
      { inRun .aux with
        iou := { inputs := setCell (Vector.replicate 16 {}) 3 ⟨true, 4, .inactive⟩ }, pins := { contacts := 8 } }
    let t := later (later s)
    (cell t.iou.inputs 3, t.iou.changeSet, t.sl.summary.inputs) = (⟨true, 5, .active⟩, 8, true) := by decide +kernel

/-- 9.2, sequence: the sample at 15 ms restarts the run, and the one at 16 ms is the second of it; R170: another sample of the
same millisecond is none. -/
theorem test_sample_restarts_run :
    let s := next (inConfig .aux) (.inputSample 3 true)
    let t : State := { s with iou := { s.iou with sampled := 0 } }
    (s.iou.sampled, (cell s.iou.inputs 3).run, (s.inputTicked 3).run, (t.inputTicked 3).run) = (8, 1, 1, 2) ∧
      (next s (.inputSample 3 false)).iou = s.iou := by decide

/-- R199: a debounce count lowered in the millisecond of a sample acts from the next one. -/
theorem test_debounce_acts_next :
    let s := next (inConfig .aux) (.inputSample 3 true)
    let c := s.cfs.settings
    let t : State := { s with cfs := { s.cfs with settings := { c with inputs := { c.inputs with debounce := 1 } } } }
    (t.settlingTicked.getLsbD 3, { t with iou := { t.iou with sampled := 0 } : State }.settlingTicked.getLsbD 3) = (false, true) := by
  decide

/-! ### Commands on small states -/

theorem test_decode_none : decodeTableWord 8 0 = none := by decide

theorem test_join :
    let t := next (inConfig .aux) .join
    (t.rsq.mode, t.cfs.valid, t.sl.tx) = (.listen, true, [0x7E, 2, 0x80, 2, 1, 0x7B]) := by decide

theorem test_config_write_refused :
    (next (inConfig .aux) (.configWrite 4 [49])).sl.tx = [0x7E, 3, 0x81, 7, 1, 1, 0x73] := by decide

theorem test_set_demand_clamped : (next (inRun .aux) (.setDemand 2048)).ca.demand = 2047 := by decide

theorem test_raise_accepted :
    ((next (inRun .pole) (.poleCommand .raise .both .recessive)).pole .n).state = .raising := by decide +kernel

theorem test_drop_listed :
    let t := next (withP { state := .onWire, elevation := 200 }) (.sampleWord 240 .recessive)
    ((t.pole .p).state, t.listed (.station 0) .poleDropP, t.li.driver) = (.lowering, true, .brk) := by decide

theorem test_status_resyncs :
    let t := next (inRun .aux) (.statusReceived 5 quietStatus)
    (t.rsq.slotCounter, t.rsq.resyncCount, (t.peer 5).state) = (6, 1, .fresh) := by decide

theorem test_last_slot_ends_round :
    (next (inRun .aux) (.statusReceived 15 quietStatus)).rsq.phase = .roundEnd := by decide

theorem test_own_slot_notice_alternates :
    let s : State := { inRun .aux with rsq := { (inRun .aux).rsq with queue := [.ackAll], lastOwnSlot := .notice } }
    (next s (.ownSlotStart .recessive false)).li.ownFrame.map OwnFrame.kind = some .status := by decide

theorem test_eighth_error_mutes :
    let s : State := { inRun .aux with li := { txErrors := 7, abortPending := true } }
    ((next s .abortJudgedError).rsq.mode, (next s .abortJudgedError).rsq.muteCause) = (.mute, .txErrors) := by decide

theorem test_unclaimed_window :
    let s : State := { inRun .aux with rsq := { mode := .run, phase := .window, windowPosition := some 15 } }
    (next s .windowComplete).listed .unknown .unclaimed = true := by decide

/-- R63, R72: a STATUS states the allowance as it stands; 11.4, sequence: that of a station whose own slot precedes its first
round end in RUN is 0. -/
theorem test_status_allowance :
    ({ inRun .aux with ca := { ownCharge := 60, allowance := 25 } : State }.statement.allowance = 25) ∧
      (next (inListen .aux) (.statusReceived 5 quietStatus)).statement.allowance = 0 := by decide

/-- R142: the characters of a frame that goes on stay in reception, and the whole frame that they begin is received. -/
theorem test_reception :
    let f := frameChars 5 (.status quietStatus)
    let s := next (next (inRun .aux) (.receiveError [f.getD 0 0] (.going 0))) (.receiveError [f.getD 1 0] (.going 3))
    (s.li.receiver, s.li.reception, s.li.expected, s.li.dominantRun) = (.frame, f.take 2, some 18, 3) ∧
      (next s (.statusReceived 5 quietStatus)).rsq.slotCounter = 6 ∧ next s (.statusReceived 4 quietStatus) = s ∧
      (next s (.receiveError [] .idle)).li.lastRxError = .gap := by decide +kernel

/-- R142, R143: an unknown header on a line that then falls idle leaves the receiver in IDLE. -/
theorem test_unknown_header_idle :
    ([.idle, .reached].map fun e => (next (inRun .aux) (.receiveError [0xA7, 0x4F] e)).li.receiver) = [.idle, .discard] := by
  decide +kernel

/-- R122: the counter that counts is that at the frame's start bit, though a window completes within the frame. -/
theorem test_resync_at_start_bit :
    let s : State :=
      { inRun .aux with
        rsq := { mode := .run, phase := .window, windowPosition := some 15, slotCounter := 5 }, alc := { windowClaimed := true } }
    let begun := next (next s (.receiveError [0xA7] (.going 0))) .windowComplete
    let late := next s .windowComplete
    (begun.rsq.slotCounter, late.rsq.slotCounter) = (16, 16) ∧
      (next begun (.statusReceived 5 quietStatus)).rsq.resyncCount = 0 ∧
      (next late (.statusReceived 5 quietStatus)).rsq.resyncCount = 1 := by decide +kernel

/-- R134, R142, R48: in MUTE with cause DUPLICATE a frame of the own address ends at the receiver, and an ALARM claims a
window. -/
theorem test_duplicate_again :
    let s : State :=
      { inRun .aux with rsq := { mode := .mute, muteCause := .duplicate, phase := .window, windowPosition := some 3 } }
    let t := next (next s (.receiveError ((frameChars 0 (.alarm ⟨1, 0⟩)).take 2) (.going 0))) (.duplicateAddress (.alarm ⟨1, 0⟩))
    (t.li.receiver, t.li.reception, t.alc.windowClaimed, t.rsq.slotCounter) = (.idle, [], true, 0) ∧
      (next t .windowComplete).listed .unknown .unclaimed = false := by decide +kernel

/-- R114, R123, R134: an ALARM of the own address that finds an UNTIMED station's counter at N leaves it in ROUND_END, whose
end sets the counter to 0. -/
theorem test_duplicate_at_round_end :
    let s : State := { inListen .aux with rsq := { mode := .listen, phase := .untimed, slotCounter := 16 } }
    let t := next s (.duplicateAddress (.alarm ⟨1, 0⟩))
    (t.rsq.mode, t.rsq.phase, (next t .roundEnd).rsq.slotCounter) = (.mute, .roundEnd, 0) := by decide +kernel

/-- R44, R132: at a window's end on a dominant line the break waits for the line to go recessive. -/
theorem test_window_end_dominant :
    let s : State :=
      { inRun .aux with
        alc := { entries := [entry (.station 0) .lineLoss .pending], windowClaimed := true }
        rsq := { mode := .run, phase := .window, windowPosition := some 15 }, pins := { line := .dominant } }
    let t := next s .windowComplete
    (t.li.driver, (next t .breakAssert).li.driver) = (.released, .brk) := by decide +kernel

/-- R138, R145: the dominant run after a character read back: 0 after its recessive stop bit, and otherwise its last
dominant bits. -/
theorem test_echo_run :
    let s : State :=
      { inRun .aux with
        li := { driver := .frame, ownFrame := some ⟨.alarm, frameChars 0 (.alarm ⟨4, 0⟩), 0⟩, dominantRun := 5 }
        pins := { line := .dominant } }
    ([charBits 0xA7, 0x01F, 0].map fun b => (next s (.echoMismatch 0 b)).li.dominantRun) = [0, 5, 10] := by decide +kernel

/-- R150: a line the ticks keep dominant past 256 bit times is stuck. -/
theorem test_tick_sticks :
    let s : State := { inRun .aux with li := { dominantRun := 20 }, pins := { line := .dominant } }
    (s.tick.pending, (next s.tick .stuckLine).li.dominantRun) = ([.stuckLine], 257) := by decide +kernel

/-- R138, R149: a break whose count a change of the bit rate restarts counts on from 0, and is still a break at its end. -/
theorem test_run_restarted :
    let s : State := { inConfig .aux with li := { dominantRun := 40 }, pins := { line := .dominant } }
    (s.restartRun.li.dominantRun, decide (0 < s.restartRun.tick.li.dominantRun), (next s.restartRun .breakEnd).pins.line) =
      (0, true, .recessive) := by decide +kernel

/-- R119: a dominant bit seen restarts the idle count. -/
theorem test_dominant_restarts_idle :
    let s : State := { inListen .aux with rsq := { mode := .listen, idleCount := some 8000 } }
    (next (next s (.sampleWord 0 .dominant)) (.sampleWord 0 .recessive)).rsq.idleCount = some 0 := by decide +kernel

/-- R55: a SET_DEMAND taken first starts the hold again, and the expiry behind it does not occur. -/
theorem test_demand_hold_restarted :
    let s : State := { inRun .aux with ca := { demand := 5, demandHoldTimer := some 200 } }
    ((next s .demandHoldExpiry).ca.demand, (next (next s (.setDemand 7)) .demandHoldExpiry).ca.demand) = (0, 7) := by decide

/-- R142, R143: a receiver in DISCARD takes no frame and counts no error until the line falls idle. -/
theorem test_discard :
    let s : State := { inRun .aux with li := { receiver := .discard } }
    (next s (.statusReceived 5 quietStatus) = s ∧ (next s (.receiveError [0xA7] .badStop)).li = s.li) ∧
      (next (next s .lineActivityEnd) (.statusReceived 5 quietStatus)).rsq.slotCounter = 6 := by decide

/-- R183: the strap as it stands is read at a link reset. -/
theorem test_reset_reads_strap :
    (next (next (inRun .aux) (.transmitByteStart true ⟨.recessive, true⟩)) .reset).sl.rateHigh = true := by decide

theorem test_stuck_in_config : (next (next (inConfig .aux) (.breakDetection [])) .stuckLine).li.stuck = true := by decide

/-! ### Witnesses: each statement's hypotheses are met, clause by clause -/

theorem witness_StepRunsFront : { State.reset with pending := [.join, .readIo] : State }.pending = .join :: [.readIo] := rfl

theorem witness_IdleStepAges :
    State.reset.pending = [] ∧
      (let s : State := { inRun .aux with li := { receiver := .discard } }
       s.pending = [] ∧ s.li.receiver = .discard ∧ s.hears = true ∧ s.pins.line = .recessive) ∧
      ({ inRun .aux with pins := { line := .dominant } : State }.pending = [] ∧
        { inRun .aux with pins := { line := .dominant } : State }.pins.line = .dominant) ∧
      (∀ a, ((State.reset.peer a).state = .absent)) ∧ (((inRun .aux).knowing 3 .fresh).peer 3).state ≠ .absent := by decide

/-- A step whose front command is a round end. -/
def turning : State := { inRun .pole with pending := [.roundEnd] }

/-- The laws hold of it. -/
theorem turning_laws : LawsHold turning :=
  ⟨by unfold Apportioned; decide, by unfold Stopped; decide, by unfold LineFedOut; decide,
    by unfold LadderAgrees Channel.Agrees; decide, by unfold ListKept; decide,
    ⟨by decide, by decide, by intro n h; cases h⟩, by unfold OwnAbsent; decide, by unfold OutputsShown; decide,
    by unfold AttnShown; decide, by unfold FifosKept; decide, by unfold ModeKept; decide, by unfold LineKept; decide,
    by unfold ConfigQuiet; decide⟩

theorem witness_StepKeepsLaws : LawsHold turning ∧ ∃ t, step turning = .next t := ⟨turning_laws, _, rfl⟩

/-- A POLE station whose outputs 0 and 1 raise and lower pole P. -/
def steering : State :=
  { inRun .pole with
    pending := [.poleCommand .raise .p .recessive]
    cfs := { settings := { settingsOf .pole with
      outputs := { fn := setCell (setCell (Vector.replicate 16 .general) 0 (.raisePole .p)) 1 (.lowerPole .p) } } } }

theorem witness_StepKeepsPins :
    FifosKept steering ∧ OutputsShown steering ∧ (∃ t, step steering = .next t) ∧
      (next steering (.poleCommand .raise .p .recessive)).outputFn 0 = .raisePole .p ∧
      (next steering (.poleCommand .raise .p .recessive)).outputFn 1 = .lowerPole .p := by
  refine ⟨by unfold FifosKept; decide, by unfold OutputsShown; decide, ⟨_, rfl⟩, by decide +kernel⟩

/-- A full list and a full queue with another notice held. -/
def crowded : State :=
  { turning.listing fullList with
    rsq :=
      { turning.rsq with
        queue := (List.finRange 8).map fun a => .ack (.station (Fin.ofNat 16 a.val)) .lineLoss
        holding := some (.clear .lineLoss) } }

theorem witness_StepKeepsLists :
    ListKept crowded ∧ QueueKept crowded ∧ (∃ t, step crowded = .next t) ∧ SettingsKept turning.cfs.settings ∧
      CountsKept turning ∧ ∃ t, step turning = .next t := by
  refine ⟨by unfold ListKept; decide +kernel, ⟨by decide +kernel, by decide +kernel, fun n h => ?_⟩, ⟨_, rfl⟩,
    by unfold SettingsKept; decide, ?_, ⟨_, rfl⟩⟩
  · cases h; decide
  · refine ⟨fun x => by cases x <;> decide, by decide, by decide, by decide, by decide, by decide, by decide, by decide,
      by decide, by decide, by decide⟩

theorem witness_StepKeepsJudgement : LawsHold turning ∧ Judged turning ∧ ∃ t, step turning = .next t :=
  ⟨turning_laws, by unfold Judged; decide, _, rfl⟩

theorem witness_StepKeepsPoles : LawsHold turning ∧ PolesKept turning ∧ ∃ t, step turning = .next t := by
  refine ⟨turning_laws, ⟨fun x => by cases x <;> decide, fun h => absurd h (by decide), by decide, by decide, by decide,
    fun x => by cases x <;> decide, by decide, fun h => absurd rfl h, fun h => absurd h (by decide)⟩, ⟨_, rfl⟩⟩

theorem witness_SettingsInRange : SettingsKept turning.cfs.settings ∧ ∃ t, step turning = .next t :=
  ⟨by unfold SettingsKept; decide, _, rfl⟩

theorem witness_EventsFrame : isEvent .roundEnd = true ∧ ∃ t, exec .roundEnd turning = .next t := ⟨rfl, _, rfl⟩

theorem witness_PeersFrame :
    (isEvent (.alarmReceived 3 ⟨1, 0⟩) = true ∨ isInput (.alarmReceived 3 ⟨1, 0⟩) = true) ∧
      peerOf (.alarmReceived 3 ⟨1, 0⟩) ≠ some 3 ∧ (∃ t, exec (.alarmReceived 3 ⟨1, 0⟩) (inRun .aux) = .next t) ∧
      isInput (.inputSample 3 true) = true ∧ peerOf (.inputSample 3 true) ≠ some 3 ∧
      ∃ t, exec (.inputSample 3 true) (inRun .aux) = .next t :=
  ⟨.inl rfl, by decide, ⟨_, rfl⟩, rfl, by decide, ⟨_, rfl⟩⟩

theorem witness_ConfigFrozen :
    (inRun .aux).rsq.mode ≠ .config ∧ isMessage .join = true ∧ (LinkClear (inRun .aux) ∧ Instr.wf .join = true) ∧
      ∃ t, exec .join (inRun .aux) = .next t :=
  ⟨by decide, rfl, ⟨by unfold LinkClear; decide, rfl⟩, _, rfl⟩

theorem witness_ModeChanges :
    isMessage .join = true ∧ (LinkClear (inConfig .aux) ∧ Instr.wf .join = true) ∧
      (∃ t, exec .join (inConfig .aux) = .next t ∧ t.rsq.mode ≠ (inConfig .aux).rsq.mode) ∧
      (LinkClear (inRun .aux) ∧ Instr.wf .reset = true) ∧
      ∃ t, exec .reset (inRun .aux) = .next t ∧ t.rsq.mode ≠ (inRun .aux).rsq.mode :=
  ⟨rfl, ⟨by unfold LinkClear; decide, rfl⟩, ⟨_, rfl, by decide⟩, ⟨by unfold LinkClear; decide, rfl⟩, _, rfl, by decide⟩

theorem witness_AllowanceRises :
    ∃ t, exec .roundEnd { ladderStation with rsq := { mode := .run, phase := .roundEnd }, ca := { demand := 50 } } = .next t ∧
      0 < t.ca.allowance := ⟨_, rfl, by decide⟩

theorem witness_TopicsFollowChanges :
    let heard := (inRun .aux).alarms ++ (next (inRun .aux) (.alarmReceived 3 ⟨1, 0⟩)).alarms
    let raised := withP { state := .raising, qualifyTimer := some 300, elevation := 200 }
    let restoring : State := { ladderStation with ca := { ladderStation.ca with allowance := 120 } }.put 0 { requested := true, state := .waiting }
    isEvent (.alarmReceived 3 ⟨1, 0⟩) = true ∧ heard.length = 1 ∧
      isEvent (.qualifyTimerExpiry .p) = true ∧
      (raised.pole .p).state ≠ ((next raised (.qualifyTimerExpiry .p)).pole .p).state ∧
      isEvent (.breakDetection []) = true ∧
      ladderStation.ca.allowance ≠ (next ladderStation (.breakDetection [])).ca.allowance ∧
      isEvent .restoreTimerExpiry = true ∧
      (restoring.channel 0).state ≠ ((next restoring .restoreTimerExpiry).channel 0).state ∧
      isEvent (.peerStale 3) = true ∧
      (((inRun .aux).knowing 3 .fresh).peer 3).state ≠ ((next ((inRun .aux).knowing 3 .fresh) (.peerStale 3)).peer 3).state ∧
      isEvent (.receiveError [0xA7] .idle) = true ∧ 0 < (next (inRun .aux) (.receiveError [0xA7] .idle)).li.rxErrors ∧
      isEvent .idleCountExpiry = true ∧ (next (longIdle .aux) .idleCountExpiry).rsq.mode = .run := by decide

theorem witness_BytesMakeRequest :
    LinkClear (inConfig .aux) ∧ (requestPayload (.configWrite 5 (List.replicate 23 0))).length = 47 ∧
      (requestPayload Request.reset).length ≤ Figures.payloadMax := by
  refine ⟨by unfold LinkClear; decide, by decide, by decide⟩

theorem witness_SentFramesAreValid :
    frameChars 3 (.alarm ⟨1, 0⟩) = (frameChars 3 (.alarm ⟨1, 0⟩)).take 4 ++ [(frameChars 3 (.alarm ⟨1, 0⟩)).getD 4 0, (frameChars 3 (.alarm ⟨1, 0⟩)).getD 5 0] ∧
      ((frameChars 3 (.alarm ⟨1, 0⟩)).getD 4 0 ^^^ 1, (frameChars 3 (.alarm ⟨1, 0⟩)).getD 5 0) ≠
        ((frameChars 3 (.alarm ⟨1, 0⟩)).getD 4 0, (frameChars 3 (.alarm ⟨1, 0⟩)).getD 5 0) := by decide +kernel

/-- A station whose stated values stand at the tops of their ranges. -/
def brimming : State :=
  { inRun .store with
    rsq := { mode := .run, phase := .slot, statusSequence := 255, statusSent := true }
    ca := { ownCharge := 2047, allowance := 2047 }
    ps := { lineVoltage := 1023 }
    iou :=
      { latches :=
        setCell (setCell (setCell (Vector.replicate 8 {}) drawnChannel ⟨2047, 0, false⟩) battAvailChannel ⟨2047, 0, false⟩)
          socChannel ⟨100, 0, false⟩ } }

theorem witness_StatedIsFiled :
    noticeMeaningful (.ack .unknown .unclaimed) = true ∧ noticeMeaningful (.command .raise .both) = true ∧
      (brimming.rsq.statusSequence = 255 ∧ brimming.ca.ownCharge = 2047 ∧ brimming.ca.allowance = 2047 ∧
        brimming.drawnCurrent = 2047 ∧ brimming.ps.lineVoltage = 1023 ∧ (brimming.latch battAvailChannel).value = 2047 ∧
        (brimming.latch socChannel).value = 100) := by decide

theorem witness_LineBudgetShape :
    worked.vFloor < worked.vKnee ∧ worked.vKnee ≤ 600 ∧ 400 ≤ worked.vFloor ∧ (worked.vFloor < 401 ∧ 401 < worked.vKnee) ∧
      (worked.vFloor < 599 ∧ 599 < worked.vKnee) ∧ worked.reserve ≤ lineBudget worked 406 ∧
      lineBudget worked 405 < worked.reserve ∧ (inRun .aux).stopEffect = false := by decide

theorem witness_ClassFillFits :
    (workedList.map Demand.charge).sum ≤ 771 ∧
      (⟨300, 1⟩ ∈ workedList ∧ fillPart workedList 640 ⟨300, 1⟩ < 300 ∧ ⟨60, 2⟩ ∈ workedList ∧ (1 : Fin 4) < 2) ∧
      (⟨45, 0⟩ ∈ workedList ∧ ((workedList.filter fun e => decide (e.cls < 1)).map Demand.charge).sum = 81 ∧
        ((workedList.filter fun e => decide (e.cls = 1)).map Demand.charge).sum = 580) := by decide

theorem witness_ResetsLeaveValues : LinkClear (inRun .aux) := by unfold LinkClear; decide

/-- A station whose link holds a complete message that waits for room. -/
def fullLink (rx : List RxItem) : State :=
  { inRun .aux with sl := { assembler := .complete, buffer := requestBytes .readIo, tx := List.replicate 13 0, rx := rx, rts := true } }

/-- A station whose assembler stands as given. -/
def assembling (a : Assembler) (buffer : List Byte) : State := { inRun .aux with sl := { assembler := a, buffer := buffer } }

theorem witness_LinkByteTaken :
    ((fullLink (List.replicate 31 (.byte 0))).sl.assembler = .complete ∧
        (fullLink (List.replicate 31 (.byte 0))).answerRoom = false ∧
        rxBytes (fullLink (List.replicate 31 (.byte 0))).sl.rx < 32 ∧ rxBytes (List.replicate 32 (.byte 0)) = 32) ∧
      ((assembling .hunting []).sl.rx = [] ∧ (assembling .hunting []).sl.assembler = .hunting) ∧
      ((assembling .length [0x7E]).sl.rx = [] ∧ (assembling .length [0x7E]).sl.assembler = .length ∧
        (48 : Byte).toNat ≤ 48 ∧ 48 < (49 : Byte).toNat ∧ (assembling .length [0x7E]).sl.buffer = [0x7E] ∧
        (assembling .length [0x7E]).answerRoom = true) ∧
      (∀ s ∈ [assembling .hunting [], assembling .length [0x7E], assembling .body [0x7E, 1],
          assembling .body [0x7E, 1, 0x0B]],
        s.sl.rx = [] ∧ s.sl.assembler ≠ .complete ∧ s.answerRoom = true) ∧
      ((assembling .body [0x7E, 1]).sl.rx = [] ∧ (assembling .body [0x7E, 1]).sl.assembler = .body ∧
        (assembling .body [0x7E, 1]).sl.buffer.length + 1 ≠ ((assembling .body [0x7E, 1]).sl.buffer.getD 1 0).toNat + 4 ∧
        1 < (assembling .body [0x7E, 1]).sl.buffer.length) := by decide

theorem witness_IdleTimerDiscards :
    (∀ a : Assembler, a ≠ .complete →
      let s : State := { assembling a [0x7E] with sl := { (assembling a [0x7E]).sl with idleTimer := some 5 } }
      Reached s.sl.idleTimer 5 ∧ s.sl.rx = [] ∧ s.sl.assembler = a) ∧
    (let s : State := { fullLink [] with sl := { (fullLink []).sl with idleTimer := some 5 } }
     Reached s.sl.idleTimer 5 ∧ s.sl.rx = [] ∧ s.sl.assembler = .complete ∧ s.answerRoom = false) ∧
    ¬Reached (some 4) 5 ∧ ¬Reached none 5 := by
  unfold Reached
  refine ⟨fun a h => ?_, by decide⟩
  cases a <;> first | exact absurd rfl h | decide

theorem witness_TransmitterSends :
    (let s : State := { inRun .aux with sl := { stx := some 5, tx := [1] } }
     s.sl.stx ≠ none) ∧ (inRun .aux).sl.tx = [] ∧ (inRun .aux).ownPending = false ∧
    (let s : State := { inRun .aux with sl := { tx := [1, 2] } }
     s.sl.stx = none ∧ s.sl.tx = 1 :: [2] ∧ s.sl.assembler ≠ .complete ∧ s.sl.rx = []) ∧
    (let s : State := { fullLink [] with sl := { (fullLink []).sl with tx := List.replicate 14 0 } }
     s.sl.stx = none ∧ s.sl.tx = 0 :: List.replicate 13 0 ∧ s.sl.assembler = .complete ∧
       64 < (List.replicate 13 (0 : Byte)).length + 52) ∧
    ((fullLink []).sl.stx = none ∧ (fullLink []).sl.tx = 0 :: List.replicate 12 0) := by decide

theorem witness_BadMessagesAnswered :
    LinkClear (inRun .aux) ∧ (List.replicate 48 (0 : Byte)).length ≤ 48 ∧
      ([] : List Byte).foldl (· + ·) (byteOf 0 + 4) + 0 ≠ 0 ∧
      (([] : List Byte).foldl (· + ·) (byteOf 0 + 0) + 0 = 0 ∧ (0 : Byte).toNat = 0) ∧
      (([] : List Byte).foldl (· + ·) (byteOf 0 + 17) + 0xEF = 0 ∧ 16 < (17 : Byte).toNat) ∧
      (([9] : List Byte).foldl (· + ·) (byteOf 1 + 16) + 0xE6 = 0 ∧ parseRequest 16 [9] = .error .badForm ∧
        0 < (16 : Byte).toNat ∧ (16 : Byte).toNat ≤ 16) ∧
      (([] : List Byte).foldl (· + ·) (byteOf 0 + 4) + 0xFC = 0 ∧ parseRequest 4 [] = .ok .readStation) := by
  refine ⟨by unfold LinkClear; decide, by decide, by decide, by decide, by decide, ⟨by decide, by rfl, by decide, by decide⟩,
    ⟨by decide, by rfl⟩⟩

theorem witness_RequestsRefused :
    (LinkClear (inRun .aux) ∧ (inRun .aux).sense .recessive = inRun .aux ∧ (inRun .aux).breakWanted = false) ∧
    (LinkClear (inConfig .aux) ∧ (inConfig .aux).sense .recessive = inConfig .aux ∧ (inConfig .aux).breakWanted = false) ∧
    (inRun .aux).judge (.readPeer 16) = some (.noSuch, 0) ∧
    (formOk .join = true ∧ (inRun .aux).rsq.mode ≠ .config) ∧
    (formOk (.setDemand 5) = true ∧ (inConfig .aux).rsq.mode = .config) ∧
    (formOk .readPoles = true ∧ (inRun .aux).role ≠ .pole ∧ formOk (.poleCommand .raise .p) = true) ∧
    (formOk (.readPeer 16) = true ∧ 16 ≤ (16 : Byte).toNat ∧ formOk (.readPeer 0) = true ∧ (0 : Byte).toNat = (inRun .aux).own.val) ∧
    (formOk (.readAlarms 24) = true ∧ 24 ≤ (24 : Byte).toNat) ∧
    (formOk (.setOutput 16 true) = true ∧ ∀ p : Fin 16, p.val = (16 : Byte).toNat → (inRun .aux).outputFn p ≠ .general) ∧
    (formOk (.setChannel 8 .setLowest) = true ∧ 8 ≤ (8 : Byte).toNat ∧ formOk (.setChannel 5 .mask) = true ∧
      (ladderStation.channel 5).state = .unused) ∧
    (formOk (.configWrite 15 []) = true ∧ 15 ≤ (15 : Byte).toNat) := by
  unfold LinkClear; decide

theorem witness_ReadsReturnRecords : LinkClear (inRun .pole) ∧ (23 : Byte).toNat < 24 ∧ (inRun .pole).role = .pole := by
  unfold LinkClear; decide

theorem witness_ReadsThatClear :
    LinkClear (inRun .aux) ∧ (15 : Fin 16) ≠ (inRun .aux).own ∧ AttnShown turning ∧ ∃ t, step turning = .next t := by
  refine ⟨by unfold LinkClear; decide, by decide, by unfold AttnShown; decide, _, rfl⟩

theorem witness_OutputSet :
    LinkClear steering ∧ OutputsShown steering ∧ steering.outputFn 15 = .general := by
  unfold LinkClear OutputsShown; decide

theorem witness_DemandSet : LinkClear (inRun .aux) ∧ (inRun .aux).rsq.mode ≠ .config := by unfold LinkClear; decide

theorem witness_ChannelSet :
    (∀ c ∈ [({ state := .off } : Channel), { requested := true, state := .waiting }, { requested := true, state := .on },
        { requested := true, state := .shed, shedCause := .line }, { masked := true, state := .held },
        { requested := true, masked := true, state := .held }],
      LinkClear ((inRun .aux).put 7 c) ∧ ((inRun .aux).put 7 c).rsq.mode ≠ .config ∧
        (((inRun .aux).put 7 c).channel 7).state ≠ .unused ∧ ((inRun .aux).put 7 c).channel 7 = c ∧
        (((inRun .aux).put 7 c).channelCfg 7).source = .link) ∧
    (LinkClear (inRun .aux) ∧ (inRun .aux).rsq.mode ≠ .config ∧ Settled (inRun .aux)) := by
  unfold LinkClear Settled; decide

/-- A station in RUN whose queue is full. -/
def fullQueue : State := { crowded with alc := {}, rsq := { crowded.rsq with holding := none } }

theorem witness_NoticeSent :
    LinkClear fullQueue ∧ fullQueue.rsq.mode ≠ .config ∧ noticeSendable .ackAll = true ∧
      noticeSendable (.ack (.station 0) .lineLoss) = true ∧ .ack (.station 0) .lineLoss ∈ fullQueue.rsq.queue ∧
      (.ackAll ∉ fullQueue.rsq.queue ∧ fullQueue.rsq.holding ≠ some .ackAll ∧ 8 ≤ fullQueue.rsq.queue.length) ∧
      (LinkClear (inRun .aux) ∧ .ackAll ∉ (inRun .aux).rsq.queue ∧ (inRun .aux).rsq.holding ≠ some .ackAll ∧
        (inRun .aux).rsq.queue.length < 8) := by
  unfold LinkClear; decide

theorem witness_PoleCommandJudged :
    ∀ st ∈ [PoleState.initial, .stowed, .raising, .onWire, .suspect, .lowerWait, .lowering, .stuck],
      LinkClear (withP { state := st }) ∧ (withP { state := st }).rsq.mode ≠ .config ∧
        (withP { state := st }).role = .pole := by
  unfold LinkClear; decide

theorem witness_ConfigWritten :
    LinkClear (inConfig .aux) ∧ (inConfig .aux).rsq.mode = .config ∧ (14 : Byte).toNat < 15 ∧
      ([255, 1, 2] : List Half).length = (itemTests 14).length ∧
      firstBad 1 (itemTests 14) (([255, 1, 2] : List Half).map BitVec.toNat) = none ∧
      firstBad 1 (itemTests 14) (([256, 1, 2] : List Half).map BitVec.toNat) = some 1 ∧
      firstBad 1 (itemTests 14) (([255, 1, 3] : List Half).map BitVec.toNat) = some 3 := by
  unfold LinkClear; decide

/-- A station in CONFIG whose address is N. -/
def badAddress : State :=
  { inConfig .aux with
    cfs := { settings := { settingsOf .aux with station := { (settingsOf .aux).station with address := 15, roundLength := 15 } } } }

theorem witness_Joined :
    (∀ r, LinkClear (inConfig r) ∧ (inConfig r).rsq.mode = .config ∧ firstFailed (joinChecks (inConfig r).cfs.settings) = none) ∧
    (∀ r, ConfigQuiet (inConfig r)) ∧
    (LinkClear badAddress ∧ badAddress.rsq.mode = .config ∧ ConfigQuiet badAddress ∧
      firstFailed (joinChecks badAddress.cfs.settings) = some 1) := by
  refine ⟨fun r => ?_, fun r => ?_, ?_⟩
  · unfold LinkClear; cases r <;> decide
  · unfold ConfigQuiet; cases r <;> decide
  · unfold LinkClear ConfigQuiet; decide

/-- The state with input 3 last sampled at a level and its run at the debounce count. -/
def State.settling3 (s : State) (raw : Bool) : State :=
  { s with
    iou := { s.iou with inputs := setCell s.iou.inputs 3 { cell s.iou.inputs 3 with lastRaw := raw, run := 5 }, settling := 8 } }

theorem witness_InputSampled :
    ((cell (inRun .aux).iou.inputs 3).lastRaw != true) = true ∧ ((cell (inRun .aux).iou.inputs 3).lastRaw != false) = false ∧
      (cell (inRun .aux).iou.inputs 3).value ≠ levelOf true := by decide

theorem witness_InputChanged :
    ChangeDue 3 true ((inConfig .aux).settling3 true) ∧ ((inConfig .aux).settling3 true).rsq.mode = .config ∧
      ¬ChangeDue 3 false ((inConfig .aux).settling3 true) ∧ ¬ChangeDue 4 false (inConfig .aux) := by
  unfold ChangeDue; decide

/-- A POLE station under supervision with pole P as given and its STOWED input settled. -/
def hooking (st : PoleState) (v : Debounced) : State :=
  ((withP { state := st, qualifying := true }).withInputOf (.stowed .p) v).settling3 (v != .active)

/-- An AUX station whose channel 7 is bound to input 3. -/
def pushing (src : RequestSource) (v : Debounced) (c : Channel) : State :=
  let s := (((inRun .aux).withInputOf (.channelReq 7) v).settling3 (v != .active)).put 7 c
  { s with cfs := { s.cfs with settings := { s.cfs.settings with channels := setCell s.cfs.settings.channels 7 { rating := 9, source := src } } } }

/-- An AUX station in RUN with eight notices queued and an input bound. -/
def queueing (f : InputFn) (held : Option Notice) : State :=
  let s := ((inRun .aux).withInputOf f .inactive).settling3 true
  { s with
    rsq :=
      { s.rsq with queue := (List.finRange 8).map fun a => .ack (.station (Fin.ofNat 16 a.val)) .lineLoss, holding := held } }

theorem witness_InputsDeliver :
    (∀ p ∈ [(InputFn.ackButton, Notice.ackAll), (.raiseButton, .command .raise .both), (.lowerButton, .command .lower .both),
        (.general, .ackAll)],
      ∀ held ∈ [none, some p.2],
        let s := queueing p.1 held
        ChangeDue 3 true s ∧ (cell s.iou.inputs 3).value = .inactive ∧ s.rsq.mode ≠ .config ∧ s.inputFn 3 = p.1 ∧
          s.role ≠ .pole ∧ Settled s ∧
          p.2 ∉ s.rsq.queue ∧ ¬s.rsq.queue.length < 8) ∧
    (∀ f ∈ [InputFn.ackButton, .raiseButton, .lowerButton, .stopButton, .general],
      let s := ((inRun .pole).withInputOf f .inactive).settling3 true
      ChangeDue 3 true s ∧ (cell s.iou.inputs 3).value = .inactive ∧ s.rsq.mode ≠ .config ∧ s.inputFn 3 = f ∧
        s.rsq.queue.length < 8 ∧ s.rsq.holding = none ∧ s.role = .pole ∧ s.activeStops = 0) ∧
    HasPlace (.station 0) .deskStop (((inRun .pole).withInputOf .stopButton .inactive).settling3 true) ∧
    (let s := ((inRun .aux).withInputOf .ackButton .unknown).settling3 true
     ChangeDue 3 true s ∧ (cell s.iou.inputs 3).value ≠ .inactive ∧ s.inputFn 3 = .ackButton) ∧
    (∀ src ∈ [RequestSource.inputEdge, .inputLevel],
      let s := pushing src .inactive { state := .off }
      ChangeDue 3 true s ∧ (cell s.iou.inputs 3).value = .inactive ∧ s.rsq.mode ≠ .config ∧ s.inputFn 3 = .channelReq 7 ∧
        (s.channelCfg 7).source = src ∧ (s.channel 7).state = .off ∧ (s.channel 7).requested = false) ∧
    (let s := pushing .inputLevel .active { requested := true, state := .on }
     ChangeDue 3 false s ∧ (s.channelCfg 7).source = .inputLevel ∧
       (s.channel 7).requested = true ∧ ∀ j, j ≠ 3 → s.inputFn j = .channelReq 7 → s.inputActive j = false) ∧
    (∀ st ∈ [PoleState.lowering, .stuck, .initial, .onWire, .suspect, .lowerWait, .raising],
      ChangeDue 3 true (hooking st .inactive) ∧ (hooking st .inactive).rsq.mode ≠ .config ∧
        (hooking st .inactive).role = .pole ∧ (hooking st .inactive).ps.supervising = true ∧
        (hooking st .inactive).stowedInput .p = some 3 ∧ ((hooking st .inactive).pole .p).state = st ∧
        ((hooking st .inactive).pole .p).qualifying = true ∧ ((hooking st .inactive).pole .p).qualified = false) ∧
    (ChangeDue 3 false (hooking .stowed .active) ∧ (cell (hooking .stowed .active).iou.inputs 3).value = .active ∧
      ((hooking .stowed .active).pole .p).state = .stowed) := by
  unfold ChangeDue HasPlace Settled
  refine ⟨by decide, by decide, by decide, by decide, by decide, by decide, by decide, by decide⟩

theorem witness_SampleTaken :
    (let s := withP { state := .lowerWait, stateTimer := some 5 }
     s.rsq.mode ≠ .config ∧ s.role = .pole ∧ s.ps.supervising = true ∧ (0x4005 : Half).toNat / 8192 = 2 ∧
       (0x6005 : Half).toNat / 8192 = 3 ∧ (s.pole .p).state = .lowerWait) ∧
    ((inRun .aux).rsq.mode ≠ .config ∧ (0xA015 : Half).toNat / 8192 = 5 ∧ (0xA014 : Half).toNat / 8192 = 5 ∧
      (inRun .aux).cfs.settings.apportion.overdrawMargin = 20 ∧ (0xA015 : Half).toNat % 8192 = 21) ∧
    (2 : Fin 8).val = (0x47FF : Half).toNat / 8192 ∧ (15 : Nat) ≠ 16 ∧ (inConfig .aux).rsq.mode = .config ∧
      (inRun .aux).role ≠ .pole ∧
      ((inRun .pole).rsq.mode ≠ .config ∧ (inRun .pole).role = .pole ∧
        (inRun .pole).poleCfg.tGap + (inRun .pole).poleCfg.hyst ≤ (inRun .pole).poleCfg.tLow) ∧
      ((inRun .pole).poleCfg.tGap = 200 ∧ (inRun .pole).poleCfg.hyst = 20 ∧ (inRun .pole).poleCfg.tLow = 450) ∧
      [199, 200, 219, 220, 449, 450, 469, 470, 1023].map (fun v => min 1023 ((BitVec.ofNat 16 (0x8000 + v)).toNat % 8192)) =
        [199, 200, 219, 220, 449, 450, 469, 470, 1023] ∧
      (BitVec.ofNat 16 (0x8000 + 199) : Half).toNat / 8192 = 4 := by decide

theorem witness_ElevationJudged :
    (∀ st ∈ [PoleState.initial, .stowed, .raising, .onWire, .suspect, .lowerWait, .lowering, .stuck],
      let s := withP { state := st, elevation := 200, qualifying := st == .initial }
      s.rsq.mode ≠ .config ∧ s.role = .pole ∧ s.ps.supervising = true ∧ (s.pole .p).state = st ∧
        HasPlace (.station s.own) (dropCause .p) s ∧ (s.pole .p).elevation + s.poleCfg.dropStep = 240 ∧
        s.poleCfg.contactLo = 150 ∧ s.poleCfg.contactHi = 500) ∧
    (let s := withP { state := .raising, elevation := 200, qualified := true }
     (s.pole .p).state = .raising ∧ (s.pole .p).qualified = true ∧ s.ps.supervising = true) ∧
    ([0x00F0, 0x0096, 0x0095] : List Half).map (fun w => (w.toNat / 8192, min 900 (w.toNat % 8192))) =
      [(0, 240), (0, 150), (0, 149)] ∧ (elevChannel .p).val = 0 ∧
    (let s := (withP { state := .initial }).withInputOf (.stowed .p) .active
     (s.pole .p).state = .initial ∧ (s.pole .p).qualifying = false ∧ (s.pole .p).qualified = false ∧
       s.stowedKnown .p = true ∧ s.stowedClosed .p = true ∧ (withP {}).stowedKnown .p = true ∧
       (withP {}).stowedClosed .p = false) := by
  unfold HasPlace; decide

theorem witness_LatchesStale :
    (0x80 : Byte).getLsbD 7 = true ∧ (withP {}).fresh 7 = true ∧
      (let s := { withP { state := .raising, qualifyTimer := some 9 } with iou := { latches := Vector.replicate 8 ⟨200, 20, false⟩ } }
       s.poleCfg.sampleTimeout = 20 ∧ s.latchDue 0 = true ∧ s.rsq.mode ≠ .config ∧ s.role = .pole ∧ s.ps.supervising = true ∧
         (0x11 : Byte).getLsbD (elevChannel .p).val = true ∧ s.latchDue (elevChannel .p) = true ∧ (s.pole .p).state = .raising ∧
         sensorDetails.find? (fun d => (0x11 : Byte).getLsbD (detailCode d) && s.latchDue (detailChannel d)) = some .elevP ∧
         (s.pole .n).state ≠ .stowed ∧ (s.pole .n).state ≠ .initial ∧
         HasPlace (.station s.own) .sensorLoss s) := by
  unfold HasPlace; decide

/-- Two poles held for qualification, pole N with or without its mark. -/
def qualifying (n : Pole) : State :=
  { withP { state := .raising, stateTimer := some 6000, qualifyTimer := some 300 } with
    ps := { (withP { state := .raising, stateTimer := some 6000, qualifyTimer := some 300 }).ps with poleN := n } }

theorem witness_QualifyExpires :
    ∀ n ∈ [({ state := .onWire } : Pole), { state := .raising, qualified := true }, { state := .initial, qualifying := true }],
      Reached ((qualifying n).pole .p).qualifyTimer (qualifying n).poleCfg.qualifyMs ∧
        ((qualifying n).pole .p).isQualifying = true ∧ (qualifying n).pole .n = n ∧
        ¬Reached ((withP {}).pole .p).qualifyTimer (withP {}).poleCfg.qualifyMs := by
  unfold Reached; decide

theorem witness_PoleTimersExpire :
    (let s := qualifying { state := .raising, qualified := true }
     (s.pole .p).state = .raising ∧ Reached (s.pole .p).stateTimer s.poleCfg.raiseMax ∧ s.rsq.mode ≠ .config ∧ s.role = .pole ∧
       s.ps.supervising = true ∧ (s.pole .n).isQualifying = true ∧ (s.pole .n).qualified = true) ∧
    (∀ st ∈ [PoleState.suspect, .lowerWait, .lowering],
      let s := withP { state := st, confirmTimer := some 20, quietTimer := some 20, stateTimer := some 4000 }
      (s.pole .p).state = st ∧ Reached (s.pole .p).confirmTimer s.poleCfg.confirmMs ∧
        Reached (s.pole .p).quietTimer 20 ∧ Reached (s.pole .p).stateTimer s.poleCfg.lowerWaitMax ∧
        Reached (s.pole .p).stateTimer s.poleCfg.lowerMax ∧ HasPlace (.station s.own) (dropCause .p) s) ∧
    (let s := withP { confirmTimer := some 19, quietTimer := some 19 }
     (s.pole .p).state = .initial ∧ ¬Reached (s.pole .p).confirmTimer s.poleCfg.confirmMs ∧
       ¬Reached (s.pole .p).quietTimer 20) := by
  unfold Reached HasPlace; decide

theorem witness_LineLossListedAndCleared :
    (let s : State := { inRun .pole with ps := { supervising := true, gapFlag := true, gapTimer := some 1500, poleP := { state := .onWire }, poleN := { state := .suspect } } }
     Reached s.ps.gapTimer s.poleCfg.gapMax ∧ HasPlace (.station s.own) .lineLoss s ∧ s.rsq.mode ≠ .config ∧ s.ps.gapFlag = true ∧
       s.ps.band = .none ∧ (s.pole .p).onOrSuspect = true ∧ (s.pole .n).onOrSuspect = true) ∧
    (let s : State := { (inRun .pole).listing [entry (.station 0) .lineLoss .announced] with ps := { supervising := true, band := .low, restoreQualifyTimer := some 300 } }
     Reached s.ps.restoreQualifyTimer s.poleCfg.qualifyMs ∧ s.ownListed .lineLoss = true ∧ s.queueRoom = true ∧
       s.rsq.holding = none) ∧
    ¬Reached (inRun .pole).ps.gapTimer (inRun .pole).poleCfg.gapMax ∧
    ¬Reached (inRun .pole).ps.restoreQualifyTimer (inRun .pole).poleCfg.qualifyMs := by
  unfold Reached HasPlace; decide

theorem witness_HoldsExpire :
    (let s : State := { inRun .aux with alc := { entries := entry (.station 3) .lineLoss .announced :: [entry .unknown .unclaimed .announced], unclaimedHoldTimer := some 200 } }
     Reached s.alc.unclaimedHoldTimer s.cfs.settings.alarm.unclaimedHold ∧ s.alarms.length < 24 ∧ entry (.station 3) .lineLoss .announced ∈ s.alarms ∧
       (entry (.station 3) .lineLoss .announced).source ≠ .station s.own ∧
       (entry (.station 3) .lineLoss .announced).hasKey .unknown .unclaimed = false) ∧
    (let s : State := { inRun .aux with ca := { demand := 5, demandHoldTimer := some 200 } }
     Reached s.ca.demandHoldTimer s.cfs.settings.apportion.demandHold ∧ s.rsq.mode ≠ .config) ∧
    (let s : State :=
      { ladderStation with
        ca := { ladderStation.ca with overdrawTimer := some 500 }
        iou := { latches := setCell (Vector.replicate 8 {}) drawnChannel ⟨141, 0, false⟩ } }
     Reached s.ca.overdrawTimer s.cfs.settings.apportion.overdrawMs ∧ s.rsq.mode ≠ .config ∧ s.overdrawn = true ∧
       (s.channel 3).state = .on ∧ ∀ j, (s.channel j).state = .on → rank s j ≤ rank s 3) ∧
    (let s : State := { inRun .aux with ca := { overdrawTimer := some 500 }, iou := { latches := setCell (Vector.replicate 8 {}) drawnChannel ⟨21, 0, false⟩ } }
     Reached s.ca.overdrawTimer s.cfs.settings.apportion.overdrawMs ∧ s.overdrawn = true ∧
       ∀ k, (s.channel k).state ≠ .on) ∧
    (let s := inRun .aux
     ¬Reached s.alc.unclaimedHoldTimer s.cfs.settings.alarm.unclaimedHold ∧
       ¬Reached s.ca.demandHoldTimer s.cfs.settings.apportion.demandHold ∧
       ¬Reached s.ca.overdrawTimer s.cfs.settings.apportion.overdrawMs) := by
  unfold Reached rank; decide

/-- The auxiliary station with channel 0 out and room for it. -/
def restoring : State :=
  { (ladderStation.put 0 { requested := true, state := .shed, shedCause := .line }) with
    ca :=
      { ownCharge := 120, lineCondition := .available, poleVoltage := some 560, budget := 610, share := 120, allowance := 120
        grant := 40 } }

theorem witness_RestoreExpires :
    (Reached restoring.ll.restoreTimer restoring.cfs.settings.ladder.restoreInterval ∧ restoring.rsq.mode ≠ .config ∧
      Settled restoring ∧ MayRestore restoring 0 ∧ ∀ j, MayRestore restoring j → rank restoring 0 ≤ rank restoring j) ∧
    (let s : State := { inRun .aux with ll := { (inRun .aux).ll with restoreTimer := some 400 } }
     Reached s.ll.restoreTimer s.cfs.settings.ladder.restoreInterval ∧ s.rsq.mode ≠ .config ∧ Settled s ∧
       ∀ k, ¬MayRestore s k) ∧
    ¬Reached (inRun .aux).ll.restoreTimer (inRun .aux).cfs.settings.ladder.restoreInterval := by
  unfold Reached Settled MayRestore rank; decide

theorem witness_PeersAge :
    ((inRun .aux).station.staleMs ≤ (((inRun .aux).knowing 15 .fresh).peer 15).age ∧
      (inRun .aux).station.lostMs ≤ (((inRun .aux).knowing 15 .stale).peer 15).age) ∧
    ((inRun .aux).peer 15).age < (inRun .aux).station.staleMs ∧ ((inRun .aux).peer 15).age < (inRun .aux).station.lostMs ∧
    ((((inRun .aux).knowing 15 .fresh).peer 15).state = .fresh ∧ ((inRun .aux).knowing 15 .fresh).rsq.mode ≠ .config ∧
      ((inRun .aux).knowing 15 .fresh).role ≠ .pole ∧ ((inRun .aux).knowing 15 .fresh).alarmEffect = false ∧
      ∀ b, b ≠ 15 → (((inRun .aux).knowing 15 .fresh).peer b).poleSource = none) ∧
    (((inRun .aux).knowing 15 .stale).peer 15).state = .stale := by decide

theorem witness_MuteAndIdleExpire :
    (let s : State := { inRun .aux with rsq := { mode := .mute, muteCause := .txErrors, muteTimer := some 1000 } }
     s.rsq.mode = .mute ∧ s.rsq.muteCause = .txErrors ∧ Reached s.rsq.muteTimer 1000) ∧ ¬Reached (some 999) 1000 ∧
    (let s := (longIdle .pole).listing [entry (.station 0) .deskStop .pending]
     s.rsq.mode = .listen ∧ s.rsq.idleCount = some 8192 ∧ ListKept s ∧ s.role = .pole ∧ s.ownPending = true ∧
       s.pins.line = .recessive ∧ s.li.driver = .released ∧ s.li.abortPending = false) ∧
    ({ inListen .aux with pins := { line := .dominant } : State }).pins.line = .dominant ∧
    (inRun .aux).rsq.mode ≠ .listen ∧ (inListen .aux).rsq.idleCount ≠ some 8192 := by
  unfold ListKept Reached; decide

/-- A station in RUN that has taken the SYNC and the header of a STATUS. -/
def halfway (a : Fin 16) : State :=
  { inRun .aux with
    li :=
      { receiver := .frame, reception := (frameChars a (.status quietStatus)).take 2, expected := some 18
        startSlot := some 0 } }

theorem witness_StatusHeard :
    ∀ s ∈ [inRun .aux, inListen .aux, (inRun .aux).knowing 15 .lost, { inRun .aux with rsq := { mode := .run, phase := .window } }],
      (s.hears = true ∧ s.li.receiver ≠ .discard ∧ s.li.reception <+: frameChars 15 (.status quietStatus) ∧
        (15 : Fin 16) ≠ s.own ∧ s.alarms.length + 6 ≤ 24) ∧
      (halfway 15).hears = true ∧ (halfway 15).li.receiver = .frame ∧
      (halfway 15).li.reception <+: frameChars 15 (.status quietStatus) ∧
      ¬(halfway 15).li.reception <+: frameChars 14 (.status quietStatus) := by decide +kernel

/-- A POLE station under supervision, both poles STOWED and every latch fresh, with an own entry ANNOUNCED. -/
def hooked (c : Cause) : State :=
  { inRun .pole with
    alc := { entries := [entry (.station 0) c .announced] }, iou := (withP {}).iou }

theorem witness_NoticeHeard :
    (∀ s ∈ [inRun .aux, (inRun .aux).knowing 15 .stale, (inRun .aux).knowing 15 .lost,
        (inRun .aux).listing [entry (.station 15) .lineLoss .announced], inRun .pole, inListen .pole, inListen .aux],
      s.hears = true ∧ s.li.receiver ≠ .discard ∧ s.li.reception = [] ∧ (15 : Fin 16) ≠ s.own ∧ s.alarms.length < 24) ∧
    ([] <+: frameChars 15 (.notice ⟨2, 0, 0, 0⟩) ∧ ¬(halfway 15).li.reception <+: frameChars 15 (.notice ⟨2, 0, 0, 0⟩)) ∧
    (∀ c, c ≠ .lineLoss → c ≠ .unclaimed →
      Acknowledges (some .ackAll) c (hooked c) ∧ ListKept (hooked c) ∧
        entry (.station 0) c .announced ∈ (hooked c).alarms ∧ ReasonGone c (hooked c) ∧
        (hooked c).rsq.queue.length + 4 ≤ 8 ∧ (hooked c).rsq.holding = none) ∧
    (let s := wanting
     Acknowledges (some (.ack (.station 0) .lineLoss)) .lineLoss s ∧ ListKept s ∧
       entry (.station 0) .lineLoss .pending ∈ s.alarms ∧ ¬ReasonGone .lineLoss s ∧ s.alarms.length < 24) ∧
    readNotice ⟨2, 0, 0, 0⟩ = some .ackAll ∧ readNotice ⟨5, 1, 3, 0⟩ = some (.command .raise .both) ∧
    readNotice ⟨1, 15, 2, 0⟩ = some (.ack (.station 15) .lineLoss) ∧ readNotice ⟨3, 0, 2, 0⟩ = some (.clear .lineLoss) ∧
    readNotice ⟨4, 0, 0, 0⟩ = some .clearLost ∧ readNotice ⟨6, 0, 0, 0⟩ = none ∧ (inRun .aux).role ≠ .pole := by
  refine ⟨by decide, by decide +kernel, ?_, ?_, by decide⟩
  · unfold Acknowledges ListKept ReasonGone
    intro c h k
    cases c <;> first | exact absurd rfl h | exact absurd rfl k | decide
  · unfold Acknowledges ListKept ReasonGone; decide

theorem witness_AlarmsAndDuplicatesHeard :
    ({ inRun .aux with li := { receiver := .discard } : State }).li.receiver = .discard ∧
    (∀ s ∈ [inRun .aux, (inRun .aux).listing fullList, withP { state := .raising }], s.li.receiver ≠ .discard ∧ s.li.reception = []) ∧
    ([] <+: frameChars 15 (.alarm ⟨8, 0⟩) ∧ ¬(halfway 15).li.reception <+: frameChars 15 (.alarm ⟨8, 0⟩) ∧
      [] <+: frameChars 0 (.alarm ⟨8, 0⟩) ∧ ¬(halfway 15).li.reception <+: frameChars 0 (.alarm ⟨8, 0⟩)) ∧
    ((inRun .aux).hears = true ∧ (15 : Fin 16) ≠ (inRun .aux).own ∧ (inRun .aux).alarms.length + 6 ≤ 24 ∧
      inCauseSet 0x08 .sensorLoss = true ∧ (inRun .aux).listed (.station 15) .sensorLoss = false) ∧
    (((inRun .aux).listing fullList).hears = true ∧ 24 ≤ ((inRun .aux).listing fullList).alarms.length ∧
      ((inRun .aux).listing fullList).listed (.station 3) .lineLoss = false ∧ inCauseSet 0x04 .lineLoss = true) ∧
    ((withP { state := .raising }).hears = true ∧ (withP { state := .raising }).rsq.muteCause ≠ .duplicate ∧
      (withP { state := .raising }).role = .pole ∧ (withP { state := .raising }).ps.supervising = true ∧
      (withP { state := .raising }).rsq.mode = .run ∧ ((withP { state := .raising }).pole .p).state = .raising) ∧
    (let s : State := { inRun .aux with rsq := { mode := .mute, muteCause := .duplicate, phase := .window } }
     s.hears = true ∧ s.li.receiver ≠ .discard ∧ [] <+: frameChars s.own (.alarm ⟨8, 0⟩) ∧ s.rsq.mode = .mute ∧
       s.rsq.muteCause = .duplicate ∧ s.rsq.phase = .window ∧ Settled s) := by unfold Settled; decide +kernel

theorem witness_ErrorsCounted :
    (inRun .aux).hears = true ∧ judgeRun [0xA7, 0x2F] .idle = .error .gap ∧ judgeRun [0xA7, 0x2F] .badStop = .error .framing ∧
      judgeRun [0xA7, 0x4F] .reached = .error .length ∧ judgeRun [0xA7, 0x0F] .reached = .error .length ∧
      judgeRun [0xA7, 0x3F, 1, 0, 0, 0] .reached = .error .crc ∧ judgeRun [0xA6, 0x2F] .idle = .noFrame ∧
      judgeRun [0xA7] .idle = .error .gap ∧ judgeRun [] .badStop = .error .framing ∧
      (inRun .aux).li.receiver ≠ .discard ∧ (inRun .aux).li.reception = [] ∧
      (judgeRun [0xA7] (.going 2) = .going ∧ judgeRun [] (.going 2) = .going ∧
        (halfway 15).hears = true ∧ judgeRun (halfway 15).li.reception (.going 9) = .going ∧
        judgeRun (halfway 15).li.reception .idle = .error .gap) ∧
      Settled (inRun .aux) ∧ ({ inRun .aux with li := { receiver := .discard } } : State).hears = true ∧
      (let s : State := { inRun .aux with li := { dominantRun := 20 } }
       s.li.stuck = false ∧ 20 ≤ s.li.dominantRun) ∧
      ((inConfig .aux).rsq.mode = .config ∧ (inConfig .aux).li.dominantRun < 20 ∧
        (inConfig .aux).li.driver = .released ∧ (inConfig .aux).li.stuck = false) := by
  unfold Settled; decide +kernel

/-- A station at its own slot. -/
def atSlot (q : List Notice) (last : OwnSlotKind) : State :=
  { inRun .aux with rsq := { mode := .run, phase := .slot, queue := q, lastOwnSlot := last } }

theorem witness_OwnSlotStarts :
    (∀ s ∈ [atSlot [] .none, atSlot [.ackAll] .status, atSlot [.ackAll] .notice, wanting],
      s.rsq.mode = .run ∧ s.rsq.phase = .slot ∧ s.rsq.slotCounter = s.own.val ∧ s.li.driver = .released ∧
        s.li.receiver = .idle ∧ s.li.abortPending = false) ∧
    (let s : State := { atSlot [] .none with li := { receiver := .discard, abortPending := true } }
     s.rsq.slotCounter = s.own.val ∧ s.li.driver = .released ∧ s.li.receiver = .discard ∧ s.li.abortPending = true) ∧
    ((wanting.sense .recessive).breakWanted = true ∧ ListKept wanting) ∧
    (((atSlot [] .none).sense .dominant).breakWanted = false ∧ ((atSlot [] .none).sense .dominant).pins.line = .dominant) ∧
    (((atSlot [] .none).sense .recessive).breakWanted = false ∧ ((atSlot [] .none).sense .recessive).pins.line ≠ .dominant) := by
  unfold ListKept; decide

theorem witness_RoundsTurn :
    (let s : State := { inRun .aux with rsq := { mode := .run, phase := .slot, slotCounter := 15 } }
     s.rsq.mode = .run ∧ s.rsq.phase = .slot ∧ s.intervalRuns = true ∧ ¬s.rsq.slotCounter + 1 < s.roundLength) ∧
    (let s : State := { inListen .aux with rsq := { mode := .listen, phase := .roundEnd } }
     s.rsq.mode ≠ .config ∧ s.rsq.phase = .roundEnd ∧ s.rsq.mode = .listen ∧ s.intervalRuns = true) ∧
    (∀ l ∈ [({ driver := .brk } : LineInterface), { receiver := .discard }],
      l.driver ≠ .released ∨ l.receiver ≠ .idle) ∧
    (let s : State := { restoring with rsq := { mode := .run, phase := .roundEnd } }
     s.rsq.mode = .run ∧ s.rsq.phase = .roundEnd ∧ s.intervalRuns = true ∧ s.alc.breakHold = false ∧ Settled s) := by
  unfold Settled; decide

theorem witness_OwnFramesComplete :
    (sendingFrame .status).sending = some .status ∧ (sendingFrame .notice).sending = some .notice ∧
      (sendingFrame .notice).rsq.queue = .ackAll :: [.clear .lineLoss] ∧
      (let s : State := { sendingFrame .notice with rsq := { mode := .run, queue := [.command .raise .both] }, cfs := { settings := settingsOf .pole } }
       s.sending = some .notice ∧ s.rsq.queue = .command .raise .both :: [] ∧ s.rsq.mode ≠ .config ∧ s.role = .pole) ∧
      ((sendingFrame .alarm).sending = some .alarm ∧
        (sendingFrame .alarm).li.ownFrame = some ⟨.alarm, frameChars 0 (.alarm ⟨4, 0⟩), 0⟩ ∧ ListKept (sendingFrame .alarm) ∧
        entry (.station 0) .lineLoss .pending ∈ (sendingFrame .alarm).alarms ∧
        inCauseSet ((frameChars 0 (.alarm ⟨4, 0⟩)).getD 2 0) .lineLoss = true) := by
  unfold ListKept; decide +kernel

theorem witness_EchoesJudged :
    ((sendingFrame .alarm).li.driver = .frame ∧
      (sendingFrame .alarm).li.ownFrame = some ⟨.alarm, frameChars 0 (.alarm ⟨4, 0⟩), 0⟩ ∧
      (frameChars 0 (.alarm ⟨4, 0⟩))[0]? = some 0xA7 ∧ (sendingFrame .alarm).lineHeld = false ∧
      (sendingFrame .alarm).rsq.mode = .run ∧ (sendingFrame .alarm).ownPending = true ∧
      (sendingFrame .alarm).li.abortPending = false ∧ ListKept (sendingFrame .alarm)) ∧
    ({ sendingFrame .status with alc := {} } : State).ownPending = false ∧
    ((∀ j : Fin 10, 10 ≤ j.val + 10 → (0 : BitVec 10).getLsbD j.val = false) ∧ (charBits 0xA7).getLsbD 9 = true) ∧
    (let s : State := { inRun .aux with li := { txErrors := 7, abortPending := true } }
     s.li.abortPending = true ∧ s.hears = true ∧ 7 ≤ s.li.txErrors ∧ s.rsq.mode = .run) ∧
    (let s : State := { inRun .aux with li := { txErrors := 6, abortPending := true } }
     s.li.abortPending = true ∧ s.hears = true ∧ ¬7 ≤ s.li.txErrors) := by unfold ListKept; decide +kernel

theorem witness_BreaksDriven :
    (wanting.lineHeld = false ∧ wanting.rsq.mode = .run ∧ wanting.rsq.phase ≠ .window ∧
      wanting.ownPending = true ∧ wanting.li.abortPending = false ∧ ListKept wanting) ∧
    ((inRun .aux).li.driver ≠ .brk ∧ (inRun .aux).ownPending = false ∧ (inListen .aux).rsq.mode ≠ .run) ∧
    (let s : State := { inRun .aux with li := { driver := .brk }, pins := { line := .dominant } }
     s.li.driver = .brk ∧ s.pins.line = .dominant) := by
  unfold ListKept; decide

theorem witness_BreakDetected :
    (let s : State := { inRun .aux with li := { dominantRun := 19 } }
     s.li.dominantRun < 20 ∧ s.rsq.mode ≠ .config ∧ (s.li.reception ++ [0xA7]).head? = some 0xA7 ∧ s.li.driver ≠ .frame ∧
       s.li.receiver ≠ .discard) ∧
    ((halfway 15).li.dominantRun < 20 ∧ ((halfway 15).li.reception ++ []).head? = some 0xA7) ∧
    (let s : State := { inRun .aux with li := { dominantRun := 20 } }
     20 ≤ s.li.dominantRun ∧ s.rsq.mode ≠ .config) ∧
    ((inConfig .aux).li.dominantRun < 20 ∧ (inConfig .aux).rsq.mode = .config) := by decide

/-- A station in a window at a position. -/
def inWindow (q : Option (Fin 16)) : State :=
  { inRun .aux with
    alc := { entries := [entry (.station 0) .lineLoss .pending] }, rsq := { mode := .run, phase := .window, windowPosition := q } }

theorem witness_WindowsAndClaims :
    (let s : State := { inRun .aux with li := { dominantRun := 20 } }
     20 ≤ s.li.dominantRun ∧ s.rsq.mode ≠ .config) ∧
    (let s : State := { inRun .aux with li := { restarted := true }, pins := { line := .dominant } }
     s.li.restarted = true ∧ s.rsq.mode ≠ .config) ∧
    (let s : State := { wanting with li := { dominantRun := 20, driver := .brk } }
     20 ≤ s.li.dominantRun ∧ s.own = 0 ∧ s.rsq.mode = .run ∧ s.ownPending = true ∧ s.li.driver ≠ .frame ∧
       s.li.abortPending = false) ∧
    (let s : State := { inConfig .aux with li := { dominantRun := 257, stuck := true } }
     s.li.stuck = true ∧ s.rsq.mode = .config) ∧
    ((inWindow none).rsq.mode ≠ .config ∧ (inWindow none).rsq.phase = .window ∧
      (∀ q, (inWindow none).rsq.windowPosition = some q → q < 0) ∧ (0 : Fin 16) = (inWindow none).own ∧
      (inWindow none).ownPending = true ∧ (inWindow none).li.driver = .released ∧ (inWindow none).li.abortPending = false ∧
      ((inWindow none).sense .recessive).pins.line = .recessive) ∧
    (∀ q, (inWindow (some 0)).rsq.windowPosition = some q → q < 1) ∧ (1 : Fin 16) ≠ (inWindow (some 0)).own := by
  refine ⟨by decide, by decide, by decide, by decide,
    ⟨by decide, by decide, fun q h => (by cases h), by decide, by decide, by decide, by decide, by decide⟩,
    fun q h => ?_, by decide⟩
  cases h; decide

theorem witness_WindowCompletes :
    ((inWindow (some 15)).rsq.mode ≠ .config ∧ (inWindow (some 15)).rsq.phase = .window ∧
      (inWindow (some 15)).alc.windowClaimed = false ∧ HasPlace .unknown .unclaimed (inWindow (some 15)) ∧
      (inWindow (some 15)).alarms.length < 23 ∧ (inWindow (some 15)).rsq.mode = .run ∧
      (inWindow (some 15)).ownPending = true ∧ (inWindow (some 15)).pins.line = .recessive ∧
      (inWindow (some 15)).li.driver ≠ .brk ∧ (inWindow (some 15)).li.abortPending = false ∧
      ListKept (inWindow (some 15))) ∧
    (let s : State := { inWindow (some 15) with pins := { line := .dominant } }
     s.rsq.phase = .window ∧ s.pins.line = .dominant) ∧
    (let s : State := { inWindow (some 15) with alc := { windowClaimed := true } }
     s.alc.windowClaimed = true ∧ s.listed .unknown .unclaimed = false) := by
  unfold HasPlace ListKept; decide

end Machine
end Sys2Proof
end

/-!
PROOFS. The line budget as a function of the pole-source voltage (R58): one equation per branch, its bound, and that it
never falls; from these the shape of the line budget.
-/

namespace Sys2Proof
namespace Machine

section LineBudget

variable {c : ApportionSettings} {v w : Nat}

/-! ### The three branches of R58 -/

/-- R58: at and above v_knee. -/
theorem lineBudget_of_knee_le (h : c.vKnee ≤ v) : lineBudget c v = c.poleMax := if_pos h

/-- R58: at and below v_floor, where v_knee is not reached. -/
theorem lineBudget_of_le_floor (hk : v < c.vKnee) (hf : v ≤ c.vFloor) : lineBudget c v = 0 := by
  rw [lineBudget, if_neg (not_le.mpr hk), if_pos hf]

/-- R58: between v_floor and v_knee. -/
theorem lineBudget_of_between (hf : c.vFloor < v) (hk : v < c.vKnee) :
    lineBudget c v = c.poleMax * (v - c.vFloor) / (c.vKnee - c.vFloor) := by
  rw [lineBudget, if_neg (not_le.mpr hk), if_neg (not_le.mpr hf)]

/-! ### Bound and growth -/

/-- The rise above v_floor is within the span, so the quotient is within pole_max. -/
theorem lineBudget_le_poleMax (c : ApportionSettings) (v : Nat) : lineBudget c v ≤ c.poleMax := by
  rcases le_or_gt c.vKnee v with hk | hk
  · exact (lineBudget_of_knee_le hk).le
  rcases le_or_gt v c.vFloor with hf | hf
  · exact (lineBudget_of_le_floor hk hf).trans_le (Nat.zero_le _)
  · rw [lineBudget_of_between hf hk]
    apply Nat.div_le_of_le_mul
    rw [Nat.mul_comm]
    exact Nat.mul_le_mul_right _ (Nat.sub_le_sub_right hk.le _)

/-- Where the higher voltage reaches v_knee its budget is the bound; where the lower one is at v_floor its budget is 0;
otherwise both are quotients by the same span. -/
theorem lineBudget_mono (c : ApportionSettings) (h : v ≤ w) : lineBudget c v ≤ lineBudget c w := by
  rcases le_or_gt c.vKnee w with hk | hk
  · rw [lineBudget_of_knee_le hk]
    exact lineBudget_le_poleMax c v
  rcases le_or_gt v c.vFloor with hf | hf
  · rw [lineBudget_of_le_floor (h.trans_lt hk) hf]
    exact Nat.zero_le _
  · rw [lineBudget_of_between hf (h.trans_lt hk), lineBudget_of_between (hf.trans_le h) hk]
    exact Nat.div_le_div_right (Nat.mul_le_mul_left _ (Nat.sub_le_sub_right h _))

/-- Between the ends the line budget is the one quotient rounded down. -/
theorem eq_lineBudget_iff_of_between (hf : c.vFloor < v) (hk : v < c.vKnee) (q : Nat) :
    q = lineBudget c v ↔
      q * (c.vKnee - c.vFloor) ≤ c.poleMax * (v - c.vFloor) ∧
        c.poleMax * (v - c.vFloor) < (q + 1) * (c.vKnee - c.vFloor) := by
  have hspan : 0 < c.vKnee - c.vFloor := Nat.sub_pos_of_lt (hf.trans hk)
  rw [lineBudget_of_between hf hk, le_antisymm_iff, Nat.le_div_iff_mul_le hspan,
    ← Nat.div_lt_iff_lt_mul hspan, Nat.lt_add_one_iff]

end LineBudget

/-! ### The budget (R60) -/

/-- R60: with no stop in effect, the line budget counts under AVAILABLE alone. -/
theorem formBudget_of_no_stop (s : State) (lc : LineCondition) (v : Nat) (h : s.stopEffect = false) :
    s.formBudget lc (some v) =
      if lc = .available then min 2047 (netLineBudget s.cfs.settings.apportion v + s.batteryOffer)
      else s.batteryOffer := by
  rw [State.formBudget, h]
  rfl

/-- Settles O19: the branches of R58, the bound and the growth of the line budget, and the net as a difference cut
off at 0. -/
theorem lineBudgetShape : Obligations.LineBudgetShape := by
  refine ⟨formBudget_of_no_stop, fun c v hspan =>
    ⟨lineBudget_of_knee_le, fun hf => ?_, fun q hf hk => ?_, ?_, ?_, ?_, ?_⟩⟩
  · exact lineBudget_of_le_floor (hf.trans_lt hspan) hf
  · exact eq_lineBudget_iff_of_between hf hk q
  · exact lineBudget_mono c (Nat.le_succ v)
  · exact lineBudget_le_poleMax c v
  · exact Nat.sub_add_cancel
  · exact fun h => Nat.sub_eq_zero_of_le h.le

end Machine
end Sys2Proof

/-!
PROOFS. The settings of the Configuration Store (R197): a written record whose items pass their tests lies within its
ranges, the one request that writes it is taken only when they pass (R189, R198), and nothing else but a reset touches
a setting; from these, that every step keeps the settings within their ranges.
-/

namespace Sys2Proof
namespace Machine

/-! ### The ranges of each record (R197) -/

/-- R197: the ranges of record 0. -/
def StationKept (x : StationSettings) : Prop :=
  2 ≤ x.roundLength ∧ x.roundLength ≤ 16 ∧ 20 ≤ x.staleMs ∧ x.staleMs ≤ 500 ∧ 100 ≤ x.lostMs ∧ x.lostMs ≤ 5000 ∧
    ∀ k : Fin 4, cell x.lostCharge k ≤ 2047

/-- R197: the ranges of record 1. -/
def ApportionKept (x : ApportionSettings) : Prop :=
  50 ≤ x.poleMax ∧ x.poleMax ≤ 2047 ∧ 100 ≤ x.vKnee ∧ x.vKnee ≤ 1023 ∧ x.vFloor ≤ 1023 ∧ x.reserve ≤ 500 ∧
    1 ≤ x.rampStep ∧ x.rampStep ≤ 500 ∧ 50 ≤ x.demandHold ∧ x.demandHold ≤ 2000 ∧ x.overdrawMargin ≤ 255 ∧
    50 ≤ x.overdrawMs ∧ x.overdrawMs ≤ 5000 ∧ x.grantMin ≤ 255

/-- R197: the ranges of record 2. -/
def PoleSettingsKept (x : PoleSettings) : Prop :=
  x.contactLo ≤ 900 ∧ x.contactHi ≤ 900 ∧ 5 ≤ x.dropStep ∧ x.dropStep ≤ 200 ∧ 2 ≤ x.confirmMs ∧ x.confirmMs ≤ 200 ∧
    50 ≤ x.qualifyMs ∧ x.qualifyMs ≤ 5000 ∧ 500 ≤ x.raiseMax ∧ x.raiseMax ≤ 20000 ∧ 500 ≤ x.lowerMax ∧
    x.lowerMax ≤ 20000 ∧ 100 ≤ x.gapMax ∧ x.gapMax ≤ 10000 ∧ 50 ≤ x.tGap ∧ x.tGap ≤ 500 ∧ 100 ≤ x.tLow ∧
    x.tLow ≤ 1000 ∧ 5 ≤ x.hyst ∧ x.hyst ≤ 100 ∧ 50 ≤ x.lowerWaitMax ∧ x.lowerWaitMax ≤ 2000 ∧ x.quiet ≤ 50 ∧
    5 ≤ x.sampleTimeout ∧ x.sampleTimeout ≤ 100

/-- R197: the ranges of record 3. -/
def LadderSettingsKept (x : LadderSettings) : Prop :=
  50 ≤ x.restoreInterval ∧ x.restoreInterval ≤ 5000 ∧ x.restoreMargin ≤ 100

/-- R197: the range of record 4. -/
def AlarmSettingsKept (x : AlarmSettings) : Prop := 50 ≤ x.unclaimedHold ∧ x.unclaimedHold ≤ 2000

/-- R197: the range of record 5's debounce. -/
def InputSettingsKept (x : InputSettings) : Prop := 1 ≤ x.debounce ∧ x.debounce ≤ 15

/-- R197: the ranges of records 7 to 14. -/
def RatingsKept (x : Vector ChannelSettings 8) : Prop := ∀ k : Fin 8, (cell x k).rating ≤ 255

theorem settingsKept_iff (c : Settings) :
    SettingsKept c ↔
      StationKept c.station ∧ ApportionKept c.apportion ∧ PoleSettingsKept c.pole ∧ LadderSettingsKept c.ladder ∧
        AlarmSettingsKept c.alarm ∧ InputSettingsKept c.inputs ∧ RatingsKept c.channels :=
  Iff.rfl

/-! ### Items that pass their tests (R198) -/

/-- Every item of the list passes the test that stands at its place in the record. -/
def ItemsPass (record : Nat) (vs : List Nat) : Prop :=
  ∀ (k : Nat) (t : Nat → Bool), (itemTests record)[k]? = some t → t (item vs (k + 1)) = true

theorem passes_of_firstBad_eq_none {ts : List (Nat → Bool)} :
    ∀ {vs : List Nat} {n : Nat}, vs.length = ts.length → firstBad n ts vs = none →
      ∀ (k : Nat) (t : Nat → Bool), ts[k]? = some t → t (item vs (k + 1)) = true := by
  induction ts with
  | nil => simp
  | cons t ts ih =>
    intro vs n hlen hgood
    obtain ⟨v, vs, rfl⟩ := List.exists_cons_of_length_eq_add_one hlen
    rw [firstBad] at hgood
    have ht : t v = true := by
      by_contra hv
      simp [hv] at hgood
    rw [if_pos ht] at hgood
    intro k u hu
    cases k with
    | zero =>
      obtain rfl : t = u := by simpa using hu
      exact ht
    | succ k => exact ih (by simpa using hlen) hgood k u (by simpa using hu)

theorem ItemsPass.within {record : Nat} {vs : List Nat} (h : ItemsPass record vs) (k : Nat) {lo hi : Nat}
    (hk : (itemTests record)[k]? = some (inRange lo hi)) : lo ≤ item vs (k + 1) ∧ item vs (k + 1) ≤ hi := by
  simpa [inRange] using h k _ hk

/-! ### A written record (R198) -/

section Written

variable {vs : List Nat} {c : Settings}

theorem stationKept_writeRecord (h : ItemsPass 0 vs) : StationKept (writeRecord 0 vs c).station := by
  have hround := h.within 3 rfl
  have hstale := h.within 5 rfl
  have hlost := h.within 6 rfl
  refine ⟨hround.1, hround.2, hstale.1, hstale.2, hlost.1, hlost.2, fun k => ?_⟩
  fin_cases k
  exacts [(h.within 7 rfl).2, (h.within 8 rfl).2, (h.within 9 rfl).2, (h.within 10 rfl).2]

theorem apportionKept_writeRecord (h : ItemsPass 1 vs) : ApportionKept (writeRecord 1 vs c).apportion := by
  have hmax := h.within 0 rfl
  have hknee := h.within 1 rfl
  have hramp := h.within 4 rfl
  have hhold := h.within 5 rfl
  have hover := h.within 7 rfl
  exact ⟨hmax.1, hmax.2, hknee.1, hknee.2, (h.within 2 rfl).2, (h.within 3 rfl).2, hramp.1, hramp.2, hhold.1, hhold.2,
    (h.within 6 rfl).2, hover.1, hover.2, (h.within 8 rfl).2⟩

theorem poleSettingsKept_writeRecord (h : ItemsPass 2 vs) : PoleSettingsKept (writeRecord 2 vs c).pole := by
  have hdrop := h.within 2 rfl
  have hconfirm := h.within 3 rfl
  have hqualify := h.within 4 rfl
  have hraise := h.within 5 rfl
  have hlower := h.within 6 rfl
  have hgapMax := h.within 7 rfl
  have htGap := h.within 8 rfl
  have htLow := h.within 9 rfl
  have hhyst := h.within 10 rfl
  have hwait := h.within 11 rfl
  have htimeout := h.within 13 rfl
  exact ⟨(h.within 0 rfl).2, (h.within 1 rfl).2, hdrop.1, hdrop.2, hconfirm.1, hconfirm.2, hqualify.1, hqualify.2,
    hraise.1, hraise.2, hlower.1, hlower.2, hgapMax.1, hgapMax.2, htGap.1, htGap.2, htLow.1, htLow.2, hhyst.1, hhyst.2,
    hwait.1, hwait.2, (h.within 12 rfl).2, htimeout.1, htimeout.2⟩

theorem ladderSettingsKept_writeRecord (h : ItemsPass 3 vs) : LadderSettingsKept (writeRecord 3 vs c).ladder :=
  ⟨(h.within 0 rfl).1, (h.within 0 rfl).2, (h.within 1 rfl).2⟩

theorem alarmSettingsKept_writeRecord (h : ItemsPass 4 vs) : AlarmSettingsKept (writeRecord 4 vs c).alarm :=
  h.within 0 rfl

theorem inputSettingsKept_writeRecord (h : ItemsPass 5 vs) : InputSettingsKept (writeRecord 5 vs c).inputs :=
  h.within 16 rfl

/-- The written channel has the new rating, every other one the rating it had. -/
theorem ratingsKept_writeRecord {r : Nat} (h : ItemsPass (r + 7) vs) (hc : RatingsKept c.channels) :
    RatingsKept (writeRecord (r + 7) vs c).channels := by
  intro k
  simp only [writeRecord, cell_setCell]
  split
  · exact (h.within 0 rfl).2
  · exact hc k

/-- R198: a record replaced by items that pass their tests; each record touches its own part of the settings alone. -/
theorem settingsKept_writeRecord {record : Nat} (h : ItemsPass record vs) (hc : SettingsKept c) :
    SettingsKept (writeRecord record vs c) := by
  obtain ⟨hstation, happortion, hpole, hladder, halarm, hinputs, hchannels⟩ := (settingsKept_iff c).mp hc
  rw [settingsKept_iff]
  match record with
  | 0 => exact ⟨stationKept_writeRecord h, happortion, hpole, hladder, halarm, hinputs, hchannels⟩
  | 1 => exact ⟨hstation, apportionKept_writeRecord h, hpole, hladder, halarm, hinputs, hchannels⟩
  | 2 => exact ⟨hstation, happortion, poleSettingsKept_writeRecord h, hladder, halarm, hinputs, hchannels⟩
  | 3 => exact ⟨hstation, happortion, hpole, ladderSettingsKept_writeRecord h, halarm, hinputs, hchannels⟩
  | 4 => exact ⟨hstation, happortion, hpole, hladder, alarmSettingsKept_writeRecord h, hinputs, hchannels⟩
  | 5 => exact ⟨hstation, happortion, hpole, hladder, halarm, inputSettingsKept_writeRecord h, hchannels⟩
  | 6 => exact ⟨hstation, happortion, hpole, hladder, halarm, hinputs, hchannels⟩
  | r + 7 => exact ⟨hstation, happortion, hpole, hladder, halarm, hinputs, ratingsKept_writeRecord h hchannels⟩

end Written

/-! ### Changes that keep the ranges -/

/-- Settings within their ranges in `s` are within them in `t`. -/
def KeepsRanges (s t : State) : Prop := SettingsKept s.cfs.settings → SettingsKept t.cfs.settings

theorem KeepsRanges.trans {s t u : State} (h : KeepsRanges s t) (h' : KeepsRanges t u) : KeepsRanges s u :=
  fun hs => h' (h hs)

theorem KeepsRanges.of_settings {s t : State} (h : t.cfs.settings = s.cfs.settings) : KeepsRanges s t := by
  unfold KeepsRanges
  rw [h]
  exact id

theorem KeepsRanges.of_cfs {s t : State} (h : t.cfs = s.cfs) : KeepsRanges s t := .of_settings (by rw [h])

theorem settingsKept_default : SettingsKept {} := by
  unfold SettingsKept
  decide

/-! ### Requests (R189, R190, R198) -/

/-- Tests 3 to 7 of R189: a request is taken when it passes each. -/
theorem judge_eq_none_iff (r : Request) (s : State) :
    s.judge r = none ↔
      formOk r = true ∧ modeOk r s.rsq.mode = true ∧ roleOk r s.role = true ∧ s.namesObject r = true ∧
        s.obstacle r = none := by
  simp [State.judge, apply_ite (· = none)]

/-- R198: a CONFIG_WRITE with items is taken only when each of them passes its test. -/
theorem itemsPass_of_judge {s : State} {record : Byte} {items : List Half}
    (h : s.judge (.configWrite record items) = none) (hne : items.isEmpty = false) :
    ItemsPass record.toNat (items.map BitVec.toNat) := by
  obtain ⟨hform, -, -, hname, hgood⟩ := (judge_eq_none_iff _ _).mp h
  have hrecord : record.toNat < recordCount := by simpa [State.namesObject] using hname
  have hlen : items.length = (itemTests record.toNat).length := by
    simpa [formOk, hne, not_le.mpr hrecord] using hform
  exact passes_of_firstBad_eq_none (by simpa using hlen) (by simpa [State.obstacle] using hgood)

@[simp] theorem rewriteChannel_cfs (record : Nat) (s : State) : (rewriteChannel record s).cfs = s.cfs := by
  unfold rewriteChannel
  split <;> simp

@[simp] theorem writeConfig_settings (record : Nat) (vs : List Nat) (s : State) :
    (s.writeConfig record vs).cfs.settings = writeRecord record vs s.cfs.settings := by
  unfold State.writeConfig
  dsimp only
  rw [rewriteChannel_cfs, withIou_cfs]
  split <;> split <;> simp

@[simp] theorem join_settings (s : State) : s.join.cfs.settings = s.cfs.settings := by
  unfold State.join
  dsimp only
  split <;> simp

theorem keepsRanges_effect {r : Request} {s : State} (h : s.judge r = none) : KeepsRanges s (s.effect r) := by
  cases r with
  | configWrite record items =>
    cases hempty : items.isEmpty with
    | true => exact .of_cfs (by simp [State.effect, hempty])
    | false =>
      intro hs
      simpa [State.effect, hempty] using settingsKept_writeRecord (itemsPass_of_judge h hempty) hs
  | join => exact .of_settings (by simp [State.effect])
  | reset => exact .of_settings rfl
  | sendNotice n =>
    refine .of_cfs ?_
    rw [State.effect]
    split <;> simp
  | _ => exact .of_cfs (by simp [State.effect])

theorem keepsRanges_takeRequest (r : Request) (s : State) : KeepsRanges s (s.takeRequest r) := by
  unfold State.takeRequest
  split
  next => exact .of_cfs (by simp)
  next h =>
    have heffect := keepsRanges_effect h
    split
    · exact heffect
    · exact heffect.trans (.of_cfs (by simp))

theorem keepsRanges_takeBuffer (s : State) : KeepsRanges s s.takeBuffer := by
  have hrefuse (l : List Byte) : KeepsRanges s (s.answer l) := .of_cfs (by simp)
  unfold State.takeBuffer
  dsimp only
  split
  · exact hrefuse _
  split
  · split
    · split
      · exact keepsRanges_takeRequest _ _
      · exact hrefuse _
    · exact hrefuse _
  · exact hrefuse _

/-! ### The station link (R183 to R188) -/

theorem keepsRanges_pump (fuel : Nat) : ∀ s : State, KeepsRanges s (s.pump fuel) := by
  induction fuel with
  | zero => exact fun s => .of_cfs rfl
  | succ fuel ih =>
    intro s
    rw [State.pump]
    split
    · split
      · exact (keepsRanges_takeBuffer s).trans (ih _)
      · exact .of_cfs rfl
    · split
      · exact .of_cfs rfl
      · exact KeepsRanges.trans (.of_cfs (by simp)) (ih _)

theorem keepsRanges_runLink (s : State) : KeepsRanges s s.runLink := keepsRanges_pump _ s

theorem keepsRanges_linkByte (b : Byte) (stopOk : Bool) (s : State) : KeepsRanges s (s.linkByte b stopOk) :=
  KeepsRanges.trans (.of_cfs (by simp)) (keepsRanges_runLink (s.storeByte b stopOk))

theorem keepsRanges_linkBytes (l : List Byte) (s : State) : KeepsRanges s (s.linkBytes l) :=
  foldl_keeps (KeepsRanges s) _ (fun t b h => h.trans (keepsRanges_linkByte b true t)) l s (.of_cfs rfl)

theorem keepsRanges_deliverRequest (r : Request) (s : State) : KeepsRanges s (s.deliverRequest r) := by
  unfold State.deliverRequest
  split
  · exact KeepsRanges.trans (.of_cfs (by simp)) (keepsRanges_takeRequest r s.byteSeen)
  · exact keepsRanges_linkBytes _ s

theorem keepsRanges_startByte (s : State) : KeepsRanges s s.startByte := by
  unfold State.startByte
  split
  · exact KeepsRanges.trans (.of_cfs (by simp)) (keepsRanges_runLink _)
  · exact .of_cfs rfl

theorem keepsRanges_execLinkByteReceived {b : Byte} {stopOk : Bool} {levels : LinkLevels} {s t : State}
    (h : execLinkByteReceived b stopOk levels s = .next t) : KeepsRanges s t := by
  cases h
  refine KeepsRanges.trans ?_ (.of_cfs (examineBreak_frame _).2.1)
  exact KeepsRanges.trans (.of_cfs (by simp)) (keepsRanges_linkByte _ _ _)

theorem keepsRanges_execTransmitByteStart {cts : Bool} {levels : LinkLevels} {s t : State}
    (h : execTransmitByteStart cts levels s = .next t) : KeepsRanges s t := by
  cases h
  refine KeepsRanges.trans ?_ (.of_cfs (examineBreak_frame _).2.1)
  split
  · exact KeepsRanges.trans (.of_cfs (by simp)) (keepsRanges_startByte _)
  · exact .of_cfs (by simp)

theorem keepsRanges_execIdleTimerExpiry {s t : State} (h : execIdleTimerExpiry s = .next t) : KeepsRanges s t := by
  cases h
  split
  · exact KeepsRanges.trans (.of_cfs (by simp)) (keepsRanges_runLink _)
  · exact .of_cfs rfl

theorem keepsRanges_execBadMessage {m : LinkMessage} {s t : State} (h : execBadMessage m s = .next t) :
    KeepsRanges s t := by
  cases h
  have hbytes := keepsRanges_linkBytes (messageBytes m).1 s
  split
  · exact hbytes.trans (keepsRanges_linkByte _ _ _)
  · exact hbytes

/-! ### Resets (R202) -/

/-- R196, R202: a pin reset keeps the configuration, unless a power-on reset puts it at its defaults. -/
theorem keepsRanges_execPinReset {high inPowerOn : Bool} {s t : State}
    (h : execPinReset high inPowerOn s = .next t) : KeepsRanges s t := by
  cases h
  cases inPowerOn with
  | true => exact fun _ => settingsKept_default
  | false => exact .of_settings rfl

/-! ### Expiries, inputs and the coordination line -/

/-- An event made where it can occur, with the end it is given: where it touches no configuration, nothing does. -/
theorem cfs_ite_finish {p : Prop} [Decidable p] {s t : State} (h : t.cfs = s.cfs) :
    (if p then t.finish s else s).cfs = s.cfs := by
  split
  · rw [(finish_frame t s).2.1, h]
  · rfl

theorem execReceiveError_cfs {chars : List Byte} {ending : RunEnding} {s t : State}
    (h : execReceiveError chars ending s = .next t) : t.cfs = s.cfs := by
  cases h
  split
  · simp
  · split <;> simp

theorem execSampleWordDiscarded_cfs {bits : Nat} {s t : State} (h : execSampleWordDiscarded bits s = .next t) :
    t.cfs = s.cfs := by
  cases h
  split <;> simp

theorem execLatchStale_cfs {channels : Byte} {line : LineLevel} {s t : State}
    (h : execLatchStale channels line s = .next t) : t.cfs = s.cfs := by
  cases h
  rw [(finish_frame _ _).2.1]
  refine foldl_keeps (fun u : State => u.cfs = s.cfs) _ (fun u c hu => ?_) eight _ (by simp)
  split
  · rw [(latchExpires_frame u c).2.1, hu]
  · exact hu

/-! ### Every command and every step -/

/-- The configuration is written by a request, put back by a power-on reset, and left as it is by every other event. -/
theorem keepsRanges_exec {c : Instr} {s t : State} (h : exec c s = .next t) : KeepsRanges s t := by
  cases c with
  | powerOnReset =>
    cases h
    exact fun _ => settingsKept_default
  | pinReset => exact keepsRanges_execPinReset h
  | linkByteReceived => exact keepsRanges_execLinkByteReceived h
  | idleTimerExpiry => exact keepsRanges_execIdleTimerExpiry h
  | transmitByteStart => exact keepsRanges_execTransmitByteStart h
  | badMessage => exact keepsRanges_execBadMessage h
  | reset | configWrite | join | readStation | readPeer | readAlarms | readPoles | readChannels | readIo | readChanges
  | setAttnMask | setOutput | setDemand | setChannelRequest | setChannelRelease | setChannelMask | setChannelUnmask
  | setChannelShed | setLowest | sendNotice =>
    cases h
    exact keepsRanges_deliverRequest _ s
  | poleCommand action poles line =>
    cases h
    refine KeepsRanges.trans ?_ (.of_cfs (examineBreak_frame _).2.1)
    exact KeepsRanges.trans (.of_cfs (by simp)) (keepsRanges_deliverRequest _ (s.sense line))
  | receiveError => exact .of_cfs (execReceiveError_cfs h)
  | sampleWordDiscarded => exact .of_cfs (execSampleWordDiscarded_cfs h)
  | latchStale => exact .of_cfs (execLatchStale_cfs h)
  | inputSample | sampleWord | breakAssert | stxByteEnd =>
    cases h
    exact .of_cfs (by simp)
  | debouncedChange | qualifyTimerExpiry | raiseMaxExpiry | confirmTimerExpiry | quietTimerExpiry
  | lowerWaitMaxExpiry | lowerMaxExpiry | gapTimerExpiry | restoreQualifyExpiry | unclaimedHoldExpiry
  | demandHoldExpiry | overdrawTimerExpiry | restoreTimerExpiry | peerStale | peerLost | muteTimerExpiry
  | idleCountExpiry | statusReceived | noticeReceived | alarmReceived | duplicateAddress | lineActivityEnd
  | ownSlotStart | skipInterval | roundEnd | ownStatusComplete | ownNoticeComplete | ownAlarmComplete | echoMismatch
  | abortJudgedError | breakRelease | breakDetection | breakEnd | claimPositionStart | windowComplete | stuckLine =>
    cases h
    exact .of_cfs (cfs_ite_finish (by simp))

/-- A millisecond leaves the configuration, and a command runs over the rest of the queue. -/
theorem keepsRanges_step {s t : State} (h : step s = .next t) : KeepsRanges s t := by
  unfold step at h
  split at h
  · cases h
    exact .of_cfs rfl
  · exact fun hs => keepsRanges_exec h hs

/-- R197: the defaults of the fifteen records, item by item. -/
theorem recordItems_default :
    (List.range 15).map (fun r => recordItems r {}) =
      [[0, roleCode .aux, 2, 16, 500, 60, 500, 50, 400, 80, 100], [600, 560, 400, 20, 20, 200, 20, 500, 10],
        [150, 500, 40, 20, 300, 6000, 4000, 1500, 200, 450, 20, 500, 5, 20], [400, 5, 0], [200],
        List.replicate 16 (inputFnCode .general) ++ [5], List.replicate 16 (outputFnCode .general)] ++
      List.replicate 8 [0, 0, requestSourceCode .link] := by
  decide

/-- R200: the defaults pass the checks of JOIN in every role. -/
theorem defaults_pass_joinChecks (r : Role) :
    firstFailed (joinChecks { ({} : Settings) with station := { ({} : Settings).station with role := r } }) = none := by
  cases r <;> decide

/-- Settles O9: the defaults as evaluated, and the ranges as every command keeps them. -/
theorem settingsInRange : Obligations.SettingsInRange :=
  ⟨fun s high => ⟨s.restarted {} high, rfl, recordItems_default, defaults_pass_joinChecks⟩,
    fun _ _ hs ht => keepsRanges_step ht hs⟩

end Machine
end Sys2Proof

/-!
PROOFS. What a command can do, said once: an event is its own effect and then the event's end; the station link makes
runs of takings; and a property that the operations keep is kept by every command and every step.
-/

namespace Sys2Proof
namespace Machine

/-! ### Events with an event's end -/

/-- What an expiry, an event of the line or an input does before the event's end; none where it does not occur. -/
def State.body (s : State) : Instr → Option State
  | .debouncedChange i a l => if s.changeDue i a then some (((s.sense l).settled i).changeInput i a) else none
  | .sampleWord w l => some ((s.sense l).takeWord w)
  | .latchStale m l =>
    some (eight.foldl (fun s c => if m.getLsbD c.val then s.latchExpires c else s) (s.sense l))
  | .inputSample i a => some (s.sampleInput i a)
  | .qualifyTimerExpiry x => if s.qualifyDue x then some (s.qualifyExpired x) else none
  | .raiseMaxExpiry x => if s.raiseMaxDue x then some (s.raiseMaxExpired x) else none
  | .confirmTimerExpiry x l => if s.confirmDue x then some ((s.sense l).confirmExpired x) else none
  | .quietTimerExpiry x => if s.quietDue x then some (s.quietExpired x) else none
  | .lowerWaitMaxExpiry x => if s.lowerWaitDue x then some (s.lowerWaitExpired x) else none
  | .lowerMaxExpiry x => if s.lowerMaxDue x then some (s.lowerMaxExpired x) else none
  | .gapTimerExpiry l => if s.gapDue then some (s.sense l).gapExpired else none
  | .restoreQualifyExpiry => if s.restoreQualifyDue then some s.restoreQualifyExpired else none
  | .unclaimedHoldExpiry => if s.unclaimedDue then some s.unclaimedExpired else none
  | .demandHoldExpiry => if s.demandHoldDue then some s.demandHoldExpired else none
  | .overdrawTimerExpiry => if s.overdrawDue then some s.overdrawExpired else none
  | .restoreTimerExpiry => if s.restoreDue then some s.restoreExpired else none
  | .peerStale a => if s.staleDue a then some (s.peerGoesStale a) else none
  | .peerLost a => if s.lostDue a then some (s.peerGoesLost a) else none
  | .muteTimerExpiry => if s.muteDue then some s.muteExpired else none
  | .idleCountExpiry => if s.idleCountDue then some ((s.receiverTo .idle).enterRun.takeRoundEnd) else none
  | .statusReceived a b => if s.receives a (.status b) && a != s.own then some (s.hearStatus a b) else none
  | .noticeReceived a b => if s.receives a (.notice b) && a != s.own then some (s.hearNotice a b) else none
  | .alarmReceived a b => if s.receives a (.alarm b) && a != s.own then some (s.hearAlarm a b) else none
  | .duplicateAddress b => if s.receives s.own b then some (s.hearDuplicate b) else none
  | .receiveError chars ending =>
    if s.hears then some (s.hearError chars ending)
    else match ending with
      | .going n => some (s.dominantSeen n)
      | _ => none
  | .lineActivityEnd => if s.hears then some (s.hearError [] .idle) else none
  | .ownSlotStart l taken =>
    if s.rsq.mode == .run && s.rsq.phase == .slot && s.rsq.slotCounter == s.own.val && s.li.driver == .released &&
        s.li.receiver == .idle && !s.li.abortPending then
      some ((s.sense l).startOwnSlot taken)
    else none
  | .skipInterval =>
    if (s.rsq.mode == .run || s.rsq.mode == .mute) && s.rsq.phase == .slot && s.intervalRuns then
      some (s.passSlot s.rsq.slotCounter)
    else none
  | .roundEnd =>
    if s.rsq.mode != .config && s.rsq.phase == .roundEnd && s.intervalRuns then some s.roundEnds else none
  | .ownStatusComplete => if s.sending = some .status then some s.ownStatusSent else none
  | .ownNoticeComplete => if s.sending = some .notice then some s.ownNoticeSent else none
  | .ownAlarmComplete => if s.sending = some .alarm then some s.ownAlarmSent else none
  | .echoMismatch i r => if s.li.driver = .frame then some (s.compareEcho i r) else none
  | .abortJudgedError => if s.li.abortPending && s.hears then some s.judgeAbort else none
  | .breakAssert => some (s.sense .recessive)
  | .breakRelease => if s.li.driver = .brk then some (s.withLi { s.li with driver := .released }) else none
  | .breakDetection chars => if s.li.dominantRun < Figures.breakBits then some (s.detectBreak chars) else none
  | .breakEnd =>
    if Figures.breakBits ≤ s.li.dominantRun || s.li.stuck || s.li.restarted then some s.endBreak else none
  | .claimPositionStart p l =>
    if s.rsq.mode != .config && s.rsq.phase == .window &&
        (match s.rsq.windowPosition with | some q => q < p | none => true) then
      some ((s.sense l).presentClaim p)
    else none
  | .windowComplete => if s.rsq.mode != .config && s.rsq.phase == .window then some s.endWindow else none
  | .stuckLine => if Figures.breakBits ≤ s.li.dominantRun then some s.stickLine else none
  | _ => none

/-- The commands that are an effect followed by an event's end: all expiries, events of the line and inputs but the
counting of a broken sample word. -/
def endsEvent : Instr → Bool
  | .sampleWordDiscarded _ => false
  | c => isEvent c || isInput c

/-- The state an event answers: its effect with the event's end, or the state unchanged where it does not occur. -/
def State.afterEvent (s : State) (c : Instr) : State := (s.body c).elim s fun u => u.finish s

theorem afterEvent_some {s u : State} {c : Instr} (h : s.body c = some u) : s.afterEvent c = u.finish s := by
  rw [State.afterEvent, h]; rfl

theorem afterEvent_none {s : State} {c : Instr} (h : s.body c = none) : s.afterEvent c = s := by
  rw [State.afterEvent, h]; rfl

/-- An event made where it can occur, as an optional effect. -/
theorem elim_ite_some (p : Prop) [Decidable p] (s u : State) :
    (if p then some u else none).elim s (fun u => u.finish s) = if p then u.finish s else s := by
  split <;> rfl

/-- An expiry, an event of the line or an input is its effect and then the event's end. -/
theorem exec_event {c : Instr} (h : endsEvent c = true) (s : State) : exec c s = .next (s.afterEvent c) := by
  unfold State.afterEvent
  cases c with
  | sampleWord | latchStale | inputSample | breakAssert => rfl
  | receiveError chars ending =>
    refine congrArg Host.Outcome.next ?_
    simp only [State.body]
    split
    · rfl
    · cases ending <;> rfl
  | debouncedChange | qualifyTimerExpiry | raiseMaxExpiry | confirmTimerExpiry | quietTimerExpiry
  | lowerWaitMaxExpiry | lowerMaxExpiry | gapTimerExpiry | restoreQualifyExpiry | unclaimedHoldExpiry
  | demandHoldExpiry | overdrawTimerExpiry | restoreTimerExpiry | peerStale | peerLost | muteTimerExpiry
  | idleCountExpiry | statusReceived | noticeReceived | alarmReceived | duplicateAddress | lineActivityEnd
  | ownSlotStart | skipInterval | roundEnd | ownStatusComplete | ownNoticeComplete | ownAlarmComplete | echoMismatch
  | abortJudgedError | breakRelease | breakDetection | breakEnd | claimPositionStart | windowComplete | stuckLine =>
    exact congrArg Host.Outcome.next (elim_ite_some _ _ _).symm
  | _ => exact absurd h (by simp [endsEvent, isEvent, isInput])

/-! ### Requests taken -/

/-- R188, R189, R191: a request is refused, or is a RESET and unanswered, or is applied and answered. -/
theorem takeRequest_cases (r : Request) (s : State) :
    (∃ code n, s.judge r = some (code, n) ∧ s.takeRequest r = s.answer (refusedMessage code (some (requestType r)) n)) ∨
      (s.judge r = none ∧ r = .reset ∧ s.takeRequest r = s.linkReset) ∨
      (s.judge r = none ∧ r ≠ .reset ∧
        s.takeRequest r = (s.effect r).answer (replyMessage (requestType r) (replyData r s (s.effect r)))) := by
  unfold State.takeRequest
  cases h : s.judge r with
  | some x => exact .inl ⟨x.1, x.2, rfl, rfl⟩
  | none => cases r <;> simp [State.effect]

/-- R189: a request that is taken, other than RESET, is applied and answered. -/
theorem takeRequest_of_judge {r : Request} {s : State} (h : s.judge r = none) (hr : r ≠ .reset) :
    s.takeRequest r = (s.effect r).answer (replyMessage (requestType r) (replyData r s (s.effect r))) := by
  rcases takeRequest_cases r s with ⟨_, _, hj, -⟩ | ⟨-, hreset, -⟩ | ⟨-, -, he⟩
  · simp [h] at hj
  · exact absurd hreset hr
  · exact he

/-- R189: a request that a test refuses is answered with the refusal. -/
theorem takeRequest_of_refusal {r : Request} {s : State} {code : RefusalCode} {n : Nat}
    (h : s.judge r = some (code, n)) :
    s.takeRequest r = s.answer (refusedMessage code (some (requestType r)) n) := by
  simp [State.takeRequest, h]

/-- R188, R189: the message in the buffer is refused by the tests 1 to 3, or is the request it spells. -/
theorem takeBuffer_cases (s : State) :
    (∃ code type, s.takeBuffer = s.answer (refusedMessage code type 0)) ∨ ∃ r, s.takeBuffer = s.takeRequest r := by
  unfold State.takeBuffer
  dsimp only
  split
  · exact .inl ⟨_, _, rfl⟩
  · split
    · split
      · split
        · exact .inr ⟨_, rfl⟩
        · exact .inl ⟨_, _, rfl⟩
      · exact .inl ⟨_, _, rfl⟩
    · exact .inl ⟨_, _, rfl⟩

/-! ### Runs of the station link (R187, R188) -/

/-- The states the link's takings lead to: items taken by the assembler, and complete messages refused, applied or
made a link reset. -/
inductive LinkRun (s : State) : State → Prop
  | start : LinkRun s s
  | assembled {t : State} {i : RxItem} {rest : List RxItem} : LinkRun s t → t.sl.assembler ≠ .complete →
      t.sl.rx = i :: rest → LinkRun s (t.withSl (t.sl.assemble i rest))
  | refused {t : State} (code : RefusalCode) (type : Option Byte) (n : Nat) : LinkRun s t →
      t.sl.assembler = .complete → t.answerRoom = true → LinkRun s (t.answer (refusedMessage code type n))
  | taken {t : State} {r : Request} : LinkRun s t → t.sl.assembler = .complete → t.answerRoom = true →
      t.judge r = none → r ≠ .reset →
      LinkRun s ((t.effect r).answer (replyMessage (requestType r) (replyData r t (t.effect r))))
  | reset {t : State} : LinkRun s t → t.sl.assembler = .complete → LinkRun s t.linkReset

theorem LinkRun.takeBuffer {s t : State} (h : LinkRun s t) (hc : t.sl.assembler = .complete)
    (hroom : t.answerRoom = true) : LinkRun s t.takeBuffer := by
  rcases takeBuffer_cases t with ⟨code, type, e⟩ | ⟨r, e⟩ <;> rw [e]
  · exact .refused _ _ _ h hc hroom
  · rcases takeRequest_cases r t with ⟨code, n, -, e'⟩ | ⟨-, -, e'⟩ | ⟨hj, hr, e'⟩ <;> rw [e']
    · exact .refused _ _ _ h hc hroom
    · exact .reset h hc
    · exact .taken h hc hroom hj hr

theorem LinkRun.pump {s : State} (fuel : Nat) : ∀ {t : State}, LinkRun s t → LinkRun s (t.pump fuel) := by
  induction fuel with
  | zero => exact fun h => h
  | succ fuel ih =>
    intro t h
    rw [State.pump]
    split
    case isTrue hc =>
      split
      case isTrue hroom => exact ih (h.takeBuffer hc hroom)
      case isFalse => exact h
    case isFalse hc =>
      split
      · exact h
      next i rest hrx => exact ih (.assembled h hc hrx)

theorem linkRun_runLink (s : State) : LinkRun s s.runLink := LinkRun.start.pump _

/-! ### Properties that every command keeps -/

/-- A property that each operation keeps of which the commands of the link and of the resets are made. -/
structure Kept (P : State → Prop) : Prop where
  link : ∀ (s : State) (x : StationLink), P s → P (s.withSl x)
  strap : ∀ (s : State) (high cts : Bool), P s → P (s.withPins { s.pins with lrateHigh := high, cts := cts })
  sense : ∀ (s : State) (l : LineLevel), P s → P (s.sense l)
  brk : ∀ s : State, P s → P s.examineBreak
  effect : ∀ (s : State) (r : Request), P s → s.judge r = none → P (s.effect r)
  power : ∀ (s : State) (high : Bool), P s → P (s.restarted {} high)
  pin : ∀ (s : State) (high : Bool), P s → P (s.restarted { s.cfs with resetCause := .pin } high)
  sampleError : ∀ s : State, P s → P (s.withIou { s.iou with sampleErrors := satInc 255 s.iou.sampleErrors })

section Kept

variable {P : State → Prop} (K : Kept P) {s t : State}
include K

theorem Kept.answer (h : P s) (m : List Byte) : P (s.answer m) := K.link s _ h

theorem Kept.takeRequest (h : P s) (r : Request) : P (s.takeRequest r) := by
  rcases takeRequest_cases r s with ⟨code, n, -, e⟩ | ⟨hj, hr, e⟩ | ⟨hj, -, e⟩ <;> rw [e]
  · exact K.answer h _
  · subst hr
    exact K.effect s .reset h hj
  · exact K.answer (K.effect s r h hj) _

theorem Kept.linkRun (r : LinkRun s t) (h : P s) : P t := by
  induction r with
  | start => exact h
  | assembled _ _ _ ih => exact K.link _ _ ih
  | refused _ _ _ _ _ _ ih => exact K.answer ih _
  | taken _ _ _ hj _ ih => exact K.answer (K.effect _ _ ih hj) _
  | reset _ _ ih => exact K.effect _ .reset ih rfl

theorem Kept.runLink (h : P s) : P s.runLink := K.linkRun (linkRun_runLink s) h

theorem Kept.placeMark (h : P s) (m : RxItem) : P (s.placeMark m) := by
  unfold State.placeMark
  split
  · exact h
  · exact K.link _ _ h

theorem Kept.storeByte (h : P s) (b : Byte) (stopOk : Bool) : P (s.storeByte b stopOk) := by
  unfold State.storeByte
  dsimp only
  split
  · exact K.link _ _ (K.link _ _ h)
  · exact K.placeMark (K.link _ _ h) _

theorem Kept.linkByte (h : P s) (b : Byte) (stopOk : Bool) : P (s.linkByte b stopOk) :=
  K.runLink (K.storeByte h b stopOk)

theorem Kept.linkBytes (h : P s) (l : List Byte) : P (s.linkBytes l) :=
  foldl_keeps P _ (fun _ b ht => K.linkByte ht b true) l s h

theorem Kept.deliverRequest (h : P s) (r : Request) : P (s.deliverRequest r) := by
  unfold State.deliverRequest
  split
  · exact K.takeRequest (K.link s _ h) r
  · exact K.linkBytes h _

theorem Kept.startByte (h : P s) : P s.startByte := by
  unfold State.startByte
  split
  · exact K.runLink (K.link _ _ h)
  · exact h

theorem Kept.strapped (h : P s) (high : Bool) : P (s.strapped high) := K.strap s high s.pins.cts h

theorem Kept.linkByteReceived {b : Byte} {stopOk : Bool} {levels : LinkLevels}
    (ht : execLinkByteReceived b stopOk levels s = .next t) (h : P s) : P t := by
  cases ht
  exact K.brk _ (K.linkByte (K.strapped (K.sense s _ h) _) _ _)

theorem Kept.transmitByteStart {cts : Bool} {levels : LinkLevels}
    (ht : execTransmitByteStart cts levels s = .next t) (h : P s) : P t := by
  cases ht
  have hu := K.strapped (K.sense s levels.line h) levels.lrateHigh
  refine K.brk _ ?_
  split
  · exact K.startByte (K.strap _ _ _ hu)
  · exact K.strap _ _ _ hu

theorem Kept.idleTimerExpiry (ht : execIdleTimerExpiry s = .next t) (h : P s) : P t := by
  cases ht
  split
  · exact K.runLink (K.placeMark (K.link _ _ h) _)
  · exact h

theorem Kept.badMessage {m : LinkMessage} (ht : execBadMessage m s = .next t) (h : P s) : P t := by
  cases ht
  split
  · exact K.linkByte (K.linkBytes h _) _ _
  · exact K.linkBytes h _

theorem Kept.pinReset {high inPowerOn : Bool} (ht : execPinReset high inPowerOn s = .next t) (h : P s) : P t := by
  cases ht
  cases inPowerOn with
  | true => exact K.power s high h
  | false => exact K.pin s high h

omit K in
theorem afterEvent_keeps {c : Instr} (hev : ∀ u, s.body c = some u → P (u.finish s)) (h : P s) : P (s.afterEvent c) := by
  cases hb : s.body c with
  | none => rwa [afterEvent_none hb]
  | some u =>
    rw [afterEvent_some hb]
    exact hev u hb

/-- A property that the operations and the events keep is kept by every command. -/
theorem Kept.exec {c : Instr} (hev : ∀ u, s.body c = some u → P (u.finish s)) (ht : exec c s = .next t) (h : P s) :
    P t := by
  cases c with
  | powerOnReset high =>
    cases ht
    exact K.power s high h
  | pinReset => exact K.pinReset ht h
  | linkByteReceived => exact K.linkByteReceived ht h
  | idleTimerExpiry => exact K.idleTimerExpiry ht h
  | transmitByteStart => exact K.transmitByteStart ht h
  | badMessage => exact K.badMessage ht h
  | poleCommand action poles line =>
    cases ht
    exact K.brk _ (K.deliverRequest (K.sense s line h) _)
  | stxByteEnd =>
    cases ht
    exact K.link s _ h
  | sampleWordDiscarded bits =>
    cases ht
    split
    · exact h
    · exact K.sampleError s h
  | reset | configWrite | join | readStation | readPeer | readAlarms | readPoles | readChannels | readIo | readChanges
  | setAttnMask | setOutput | setDemand | setChannelRequest | setChannelRelease | setChannelMask | setChannelUnmask
  | setChannelShed | setLowest | sendNotice =>
    cases ht
    exact K.deliverRequest h _
  | _ =>
    rw [exec_event rfl] at ht
    cases ht
    exact afterEvent_keeps hev h

/-- A property that the operations, the events, the taking of a command and a millisecond keep is kept by every step. -/
theorem Kept.step (hev : ∀ (s u : State) (c : Instr), P s → s.body c = some u → P (u.finish s))
    (hq : ∀ (s : State) (q : List Instr), P s → P { s with pending := q })
    (htick : ∀ s : State, P s → P s.tick) (ht : step s = .next t) (h : P s) : P t := by
  unfold Machine.step at ht
  split at ht
  · cases ht
    exact htick s h
  · exact K.exec (fun u => hev _ u _ (hq s _ h)) ht (hq s _ h)

end Kept

end Machine
end Sys2Proof

/-!
PROOFS. The frame of an event: the link keeps all but its topics, which only grow, and the pins keep all but the line.
-/

namespace Sys2Proof
namespace Machine

/-! ### The link's topics only grow (R193) -/

/-- The Station Link is as it was but for ATTN and topics that have been set. -/
def TopicsGrow (s t : State) : Prop := SameLink s t ∧ s.sl.summary.union t.sl.summary = t.sl.summary

theorem union_assoc (a b c : Topics) : (a.union b).union c = a.union (b.union c) := by
  simp [Topics.union, Bool.or_assoc]

theorem union_self (a : Topics) : a.union a = a := by simp [Topics.union]

theorem TopicsGrow.of_sl {s t : State} (h : t.sl = s.sl) : TopicsGrow s t := by
  unfold TopicsGrow SameLink
  rw [h]
  exact ⟨rfl, union_self _⟩

theorem TopicsGrow.trans {s t u : State} (h : TopicsGrow s t) (g : TopicsGrow t u) : TopicsGrow s u := by
  obtain ⟨h1, h2⟩ := h
  obtain ⟨g1, g2⟩ := g
  unfold SameLink at h1 g1
  refine ⟨?_, ?_⟩
  · unfold SameLink
    rw [g1, h1]
  · rw [← g2, ← union_assoc, h2]

/-- A step of an event that leaves the link as it is, after one that lets the topics grow. -/
theorem TopicsGrow.then {s t u : State} (h : TopicsGrow s t) (g : u.sl = t.sl) : TopicsGrow s u :=
  h.trans (.of_sl g)

/-- A step of an event that lets the topics grow, after one that leaves the link as it is. -/
theorem TopicsGrow.after {s t u : State} (g : TopicsGrow t u) (h : t.sl = s.sl) : TopicsGrow s u :=
  (TopicsGrow.of_sl h).trans g

theorem topicsGrow_setTopics (s : State) (x : Topics) : TopicsGrow s (s.setTopics x) := by
  unfold TopicsGrow SameLink
  rw [setTopics_sl]
  exact ⟨rfl, by rw [← union_assoc, union_self]⟩

theorem topicsGrow_setOutcome (s : State) (x : PoleId) (o : CommandOutcome) : TopicsGrow s (s.setOutcome x o) :=
  (topicsGrow_setTopics _ _).after (by simp)

theorem topicsGrow_raiseOne (s : State) (x : PoleId) : TopicsGrow s (s.raiseOne x) := by
  unfold State.raiseOne
  dsimp only
  split
  · exact .of_sl (by simp)
  · split
    · exact .of_sl rfl
    · split
      · exact topicsGrow_setOutcome s x _
      · split
        · exact topicsGrow_setOutcome s x _
        · exact (topicsGrow_setOutcome _ x _).after (by simp)

theorem topicsGrow_lowerOne (s : State) (x : PoleId) : TopicsGrow s (s.lowerOne x) := by
  unfold State.lowerOne
  dsimp only
  split
  · exact .of_sl (by simp)
  · split
    case h_1 | h_2 => exact (topicsGrow_setOutcome _ x _).after (by simp)
    case h_3 | h_4 => exact topicsGrow_setOutcome s x _
    case h_5 | h_6 => exact (topicsGrow_setOutcome _ x _).after (by simp)
    case h_7 | h_8 => exact .of_sl rfl

theorem topicsGrow_commandOne (s : State) (a : PoleAction) (x : PoleId) : TopicsGrow s (s.commandOne a x) := by
  cases a with
  | raise => exact topicsGrow_raiseOne s x
  | lower => exact topicsGrow_lowerOne s x

theorem topicsGrow_commandPoles (s : State) (a : PoleAction) (ps : PoleSel) : TopicsGrow s (s.commandPoles a ps) := by
  unfold State.commandPoles
  split
  · cases ps with
    | p => exact topicsGrow_commandOne s a .p
    | n => exact topicsGrow_commandOne s a .n
    | both => exact (topicsGrow_commandOne s a .p).trans (topicsGrow_commandOne _ a .n)
  · exact .of_sl rfl

theorem topicsGrow_applyNotice (s : State) (a : Fin 16) (n : Notice) : TopicsGrow s (s.applyNotice a n) := by
  cases n with
  | command action poles => exact topicsGrow_commandPoles s action poles
  | _ => exact .of_sl (by simp [State.applyNotice])

theorem topicsGrow_countRxError (s : State) (k : RxErrorKind) : TopicsGrow s (s.countRxError k) :=
  (topicsGrow_setTopics _ _).after (withLi_sl _ _)

theorem topicsGrow_fileStatus (s : State) (a : Fin 16) (b : StatusBody) : TopicsGrow s (s.fileStatus a b) := by
  unfold State.fileStatus
  dsimp only
  split
  · exact (topicsGrow_setTopics _ _).after (by simp)
  · exact .of_sl (by simp)

theorem topicsGrow_hearStatus (s : State) (a : Fin 16) (b : StatusBody) : TopicsGrow s (s.hearStatus a b) := by
  have h := (topicsGrow_fileStatus ((s.followFrame a).receiverTo .idle) a b).after (s := s) (by simp)
  exact h.then (by simp [State.hearStatus])

theorem topicsGrow_hearNotice (s : State) (a : Fin 16) (b : NoticeBody) : TopicsGrow s (s.hearNotice a b) := by
  unfold State.hearNotice
  dsimp only
  split
  · exact (topicsGrow_applyNotice _ _ _).after (by simp)
  · exact .of_sl (by simp)

theorem topicsGrow_ownNoticeSent (s : State) : TopicsGrow s s.ownNoticeSent := by
  unfold State.ownNoticeSent
  dsimp only
  split
  · exact (topicsGrow_applyNotice _ _ _).after (by simp)
  · exact .of_sl (by simp)

theorem topicsGrow_hearError (s : State) (chars : List Byte) (ending : RunEnding) :
    TopicsGrow s (s.hearError chars ending) := by
  unfold State.hearError
  dsimp only
  split
  · exact .of_sl (by simp)
  · split
    · exact (topicsGrow_countRxError _ _).after (by simp)
    · exact .of_sl (by simp)
    · split <;> exact .of_sl (by simp)
    · exact .of_sl rfl

theorem topicsGrow_demandHoldExpired (s : State) : TopicsGrow s s.demandHoldExpired := by
  unfold State.demandHoldExpired
  split
  · exact (topicsGrow_setTopics _ _).after (by simp)
  · exact .of_sl rfl

theorem topicsGrow_muteTxErrors (s : State) : TopicsGrow s s.muteTxErrors := .of_sl (by simp)

theorem topicsGrow_judgeAbort (s : State) : TopicsGrow s s.judgeAbort := by
  unfold State.judgeAbort
  dsimp only
  split
  · exact ((topicsGrow_setTopics _ _).after (by simp)).trans (topicsGrow_muteTxErrors _)
  · exact (topicsGrow_setTopics _ _).after (by simp)

theorem topicsGrow_detectBreak (s : State) (chars : List Byte) : TopicsGrow s (s.detectBreak chars) := by
  unfold State.detectBreak State.breakFound
  dsimp only
  split
  · exact .of_sl (by simp)
  · split
    · exact (topicsGrow_countRxError _ _).after (by simp)
    · exact .of_sl (by simp)

theorem topicsGrow_inputRequest (s : State) (k : Fin 8) (f : Channel → Channel) : TopicsGrow s (s.inputRequest k f) := by
  unfold State.inputRequest
  dsimp only
  split
  · exact .of_sl (by simp)
  · exact (topicsGrow_setTopics _ _).after (by simp)

theorem topicsGrow_channelInput (s : State) (k : Fin 8) (rising : Bool) : TopicsGrow s (s.channelInput k rising) := by
  unfold State.channelInput
  split
  · exact .of_sl rfl
  · exact topicsGrow_inputRequest s k _
  · split
    · exact topicsGrow_inputRequest s k _
    · exact .of_sl rfl

theorem topicsGrow_deliver (s : State) (i : Fin 16) (before : Debounced) (active : Bool) (n : Nat) :
    TopicsGrow s (s.deliver i before active n) := by
  unfold State.deliver
  dsimp only
  split
  case h_5 | h_6 =>
    split
    · exact (topicsGrow_commandPoles _ _ _).after (by simp)
    · exact .of_sl rfl
  case h_7 => exact topicsGrow_channelInput s _ _
  all_goals
    first
    | exact .of_sl rfl
    | (split <;> exact .of_sl (by simp))

theorem topicsGrow_changeInput (s : State) (i : Fin 16) (active : Bool) : TopicsGrow s (s.changeInput i active) := by
  unfold State.changeInput
  dsimp only
  split
  · exact (topicsGrow_setTopics _ _).after (by simp)
  · exact ((topicsGrow_setTopics _ _).after (by simp)).trans (topicsGrow_deliver _ _ _ _ _)

theorem topicsGrow_sampleInput (s : State) (i : Fin 16) (active : Bool) : TopicsGrow s (s.sampleInput i active) := by
  unfold State.sampleInput State.takeSample
  dsimp only
  split
  · exact .of_sl (by simp)
  · split
    · exact (topicsGrow_changeInput _ _ _).after (by simp)
    · exact .of_sl (by simp)

theorem topicsGrow_finishBut (skip : Option (Fin 8)) (u s : State) : TopicsGrow u (u.finishBut skip s) :=
  (topicsGrow_setTopics _ _).after (by simp)

theorem topicsGrow_finish (u s : State) : TopicsGrow u (u.finish s) := topicsGrow_finishBut none u s

/-! ### The pins but for the line -/

theorem samePins_iff (s t : State) : SamePins s t ↔
    t.pins.lrateHigh = s.pins.lrateHigh ∧ t.pins.cts = s.pins.cts ∧ t.pins.contacts = s.pins.contacts := by
  unfold SamePins
  generalize s.pins = p
  generalize t.pins = q
  cases p
  cases q
  simp

theorem SamePins.of_pins {s t : State} (h : t.pins = s.pins) : SamePins s t := by
  rw [samePins_iff, h]
  exact ⟨rfl, rfl, rfl⟩

theorem SamePins.trans {s t u : State} (h : SamePins s t) (g : SamePins t u) : SamePins s u := by
  rw [samePins_iff] at *
  obtain ⟨g1, g2, g3⟩ := g
  rwa [g1, g2, g3]

theorem samePins_lineTo (s : State) (l : LineLevel) : SamePins s (s.lineTo l) := by
  rw [samePins_iff, lineTo_pins]
  exact ⟨rfl, rfl, rfl⟩

theorem samePins_sense (s : State) (l : LineLevel) : SamePins s (s.sense l) := by
  unfold State.sense
  split
  · exact .of_pins rfl
  · exact samePins_lineTo s l

theorem samePins_startFrame (s : State) (b : FrameBody) : SamePins s (s.startFrame b) :=
  (samePins_iff _ _).2 ⟨rfl, rfl, rfl⟩

theorem samePins_examineBreak (s : State) : SamePins s s.examineBreak := by
  unfold State.examineBreak
  split
  · exact (samePins_iff _ _).2 ⟨rfl, rfl, rfl⟩
  · exact .of_pins rfl

theorem samePins_presentClaim (s : State) (p : Fin 16) : SamePins s (s.presentClaim p) := by
  unfold State.presentClaim
  dsimp only
  split
  · exact (samePins_iff _ _).2 ⟨rfl, rfl, rfl⟩
  · exact .of_pins rfl

theorem samePins_receiverTo (s : State) (r : ReceiverState) : SamePins s (s.receiverTo r) :=
  SamePins.trans (.of_pins (taking_frame s r []).2.2.2.2.2.2.2.2.2.2) (samePins_lineTo _ _)

theorem samePins_frameDone (s : State) : SamePins s s.frameDone :=
  SamePins.trans (.of_pins (withLi_pins s _)) (samePins_lineTo _ _)

theorem samePins_dominantSeen (s : State) (n : Nat) : SamePins s (s.dominantSeen n) := by
  unfold State.dominantSeen
  dsimp only
  split
  · exact .of_pins rfl
  · split
    · exact SamePins.trans (.of_pins (withLi_pins s _)) (samePins_lineTo _ _)
    · split
      · exact samePins_lineTo s _
      · exact SamePins.trans (.of_pins (withLi_pins s _)) (samePins_lineTo _ _)

theorem samePins_lineAfter (s : State) (chars : List Byte) (ending : RunEnding) :
    SamePins s (s.lineAfter chars ending) := by
  unfold State.lineAfter
  split
  · refine SamePins.trans (.of_pins ?_) (samePins_dominantSeen _ _)
    split <;> simp
  · exact (samePins_lineTo s .recessive).trans (.of_pins (by simp))

theorem samePins_hearStatus (s : State) (a : Fin 16) (b : StatusBody) : SamePins s (s.hearStatus a b) := by
  have h : SamePins s ((s.followFrame a).receiverTo .idle) :=
    SamePins.trans (.of_pins (by simp)) (samePins_receiverTo (s.followFrame a) _)
  exact h.trans (.of_pins (by simp [State.hearStatus]))

theorem samePins_hearNotice (s : State) (a : Fin 16) (b : NoticeBody) : SamePins s (s.hearNotice a b) := by
  have h : SamePins s ((s.followFrame a).receiverTo .idle) :=
    SamePins.trans (.of_pins (by simp)) (samePins_receiverTo (s.followFrame a) _)
  refine h.trans (.of_pins ?_)
  unfold State.hearNotice
  dsimp only
  split <;> simp

theorem samePins_hearAlarm (s : State) (a : Fin 16) (b : AlarmBody) : SamePins s (s.hearAlarm a b) :=
  (samePins_receiverTo s .idle).trans (.of_pins (by simp [State.hearAlarm]))

theorem samePins_hearDuplicate (s : State) (b : FrameBody) : SamePins s (s.hearDuplicate b) := by
  unfold State.hearDuplicate
  dsimp only
  have h (t : State) (ht : t.pins = s.pins) : SamePins s (t.receiverTo .idle) :=
    SamePins.trans (.of_pins ht) (samePins_receiverTo t _)
  have ht : (if s.rsq.muteCause = .duplicate then s else s.muteDuplicate.followDuplicate b s.rsq.mode).pins = s.pins := by
    split <;> simp
  split
  · exact (h _ ht).trans (.of_pins (by simp))
  · exact h _ ht

theorem samePins_hearError (s : State) (chars : List Byte) (ending : RunEnding) :
    SamePins s (s.hearError chars ending) := by
  have h := samePins_lineAfter s chars ending
  unfold State.hearError
  dsimp only
  split
  · exact h.trans (.of_pins (by simp))
  · split
    · exact h.trans (.of_pins (by simp))
    · exact h.trans (.of_pins (by simp))
    · split
      · exact h
      · exact SamePins.trans (.of_pins (by simp)) (samePins_lineAfter (s.startSeen.taking .frame _) _ _)
    · exact .of_pins rfl

theorem samePins_startOwnSlot (s : State) (taken : Bool) : SamePins s (s.startOwnSlot taken) := by
  unfold State.startOwnSlot
  split
  · exact .of_pins rfl
  · exact samePins_startFrame s _

theorem samePins_ownStatusSent (s : State) : SamePins s s.ownStatusSent :=
  (samePins_frameDone s).trans (.of_pins (by simp [State.ownStatusSent]))

theorem samePins_ownNoticeSent (s : State) : SamePins s s.ownNoticeSent := by
  refine (samePins_frameDone s).trans (.of_pins ?_)
  unfold State.ownNoticeSent
  dsimp only
  split <;> simp

theorem samePins_ownAlarmSent (s : State) : SamePins s s.ownAlarmSent :=
  (samePins_frameDone s).trans (.of_pins (by simp [State.ownAlarmSent]))

theorem samePins_compareEcho (s : State) (i : Nat) (r : BitVec 10) : SamePins s (s.compareEcho i r) := by
  unfold State.compareEcho
  split
  · exact .of_pins rfl
  · split
    · exact .of_pins rfl
    · exact SamePins.trans (.of_pins (withLi_pins s _)) (samePins_dominantSeen _ _)

theorem samePins_judgeAbort (s : State) : SamePins s s.judgeAbort := by
  have h : SamePins s ((s.withLi
      { s.li with abortPending := false, txErrors := satInc Figures.txErrorLimit s.li.txErrors }).lineTo .recessive) :=
    SamePins.trans (.of_pins (withLi_pins s _)) (samePins_lineTo _ _)
  unfold State.judgeAbort
  dsimp only
  split
  · exact h.trans (.of_pins (by simp))
  · exact h.trans (.of_pins (by simp))

theorem samePins_dominantFor (s : State) (n : Nat) : SamePins s (s.dominantFor n) :=
  SamePins.trans (.of_pins (withLi_pins s _)) (samePins_lineTo _ _)

theorem samePins_detectBreak (s : State) (chars : List Byte) : SamePins s (s.detectBreak chars) := by
  refine (samePins_dominantFor s Figures.breakBits).trans (.of_pins ?_)
  unfold State.detectBreak
  dsimp only
  split <;> simp

theorem samePins_endBreak (s : State) : SamePins s s.endBreak := by
  have h : SamePins s ((s.withLi
      { s.li with stuck := false, driver := if s.li.driver = .brk then .released else s.li.driver }).lineTo .recessive) :=
    SamePins.trans (.of_pins (withLi_pins s _)) (samePins_lineTo _ _)
  unfold State.endBreak
  dsimp only
  split
  · exact h
  · exact h.trans (SamePins.trans (.of_pins (by simp)) (samePins_presentClaim _ _))

theorem samePins_stickLine (s : State) : SamePins s s.stickLine :=
  (samePins_dominantFor s _).trans (.of_pins (withLi_pins _ _))

theorem samePins_finishBut (skip : Option (Fin 8)) (u s : State) : SamePins u (u.finishBut skip s) := by
  have h : SamePins u (u.blocksEnd s) := by
    unfold State.blocksEnd
    split
    · exact .of_pins rfl
    · exact SamePins.trans (.of_pins (by simp)) (samePins_examineBreak (u.polesEnd s).clearStop.caSettle)
  exact h.trans (.of_pins (by simp [State.finishBut]))

theorem samePins_finish (u s : State) : SamePins u (u.finish s) := samePins_finishBut none u s

/-! ### The frame of an event -/

/-- What the effect of an expiry or of an event of the line leaves. -/
def BodyFrame (s u : State) : Prop :=
  u.pending = s.pending ∧ u.cfs = s.cfs ∧ TopicsGrow s u ∧ u.iou = s.iou ∧ SamePins s u

theorem BodyFrame.mk' {s u : State} (h : u.pending = s.pending ∧ u.cfs = s.cfs ∧ u.iou = s.iou)
    (hs : TopicsGrow s u) (hp : SamePins s u) : BodyFrame s u := ⟨h.1, h.2.1, hs, h.2.2, hp⟩

/-- The effects that touch neither the link nor the pins. -/
theorem BodyFrame.quiet {s u : State} (h : u.pending = s.pending ∧ u.cfs = s.cfs ∧ u.iou = s.iou)
    (hs : u.sl = s.sl) (hp : u.pins = s.pins) : BodyFrame s u := .mk' h (.of_sl hs) (.of_pins hp)

theorem some_of_ite {p : Prop} [Decidable p] {u v : State} (h : (if p then some u else none) = some v) : p ∧ u = v := by
  split at h
  · exact ⟨‹p›, Option.some.inj h⟩
  · cases h

end Machine
end Sys2Proof

/-!
PROOFS. Events one and all: what the effect of each leaves, that every command completes, and which topics a change sets.
-/

namespace Sys2Proof
namespace Machine

/-- The effect of an expiry or of an event of the line leaves the waiting commands, the configuration, the inputs and
latches, the link but for topics set, and the pins but for the line. -/
theorem body_frame {c : Instr} (hc : isEvent c = true) {s u : State} (h : s.body c = some u) : BodyFrame s u := by
  cases c with
  | qualifyTimerExpiry | raiseMaxExpiry | quietTimerExpiry | lowerWaitMaxExpiry | lowerMaxExpiry | restoreQualifyExpiry
  | unclaimedHoldExpiry | overdrawTimerExpiry | restoreTimerExpiry | peerStale | peerLost | muteTimerExpiry
  | skipInterval | roundEnd | breakRelease | windowComplete =>
    obtain ⟨-, rfl⟩ := some_of_ite h
    exact .quiet (by simp) (by simp) (by simp)
  | demandHoldExpiry =>
    obtain ⟨-, rfl⟩ := some_of_ite h
    exact .mk' (by simp) (topicsGrow_demandHoldExpired s) (.of_pins (by simp))
  | confirmTimerExpiry x l =>
    obtain ⟨-, rfl⟩ := some_of_ite h
    exact .mk' (by simp) (.of_sl (by simp)) ((samePins_sense s l).trans (.of_pins (by simp)))
  | gapTimerExpiry l =>
    obtain ⟨-, rfl⟩ := some_of_ite h
    exact .mk' (by simp) (.of_sl (by simp)) ((samePins_sense s l).trans (.of_pins (by simp)))
  | idleCountExpiry =>
    obtain ⟨-, rfl⟩ := some_of_ite h
    exact .mk' (by simp) (.of_sl (by simp)) ((samePins_receiverTo s .idle).trans (.of_pins (by simp)))
  | statusReceived a b =>
    obtain ⟨-, rfl⟩ := some_of_ite h
    exact .mk' (by simp) (topicsGrow_hearStatus s a b) (samePins_hearStatus s a b)
  | noticeReceived a b =>
    obtain ⟨-, rfl⟩ := some_of_ite h
    exact .mk' (by simp) (topicsGrow_hearNotice s a b) (samePins_hearNotice s a b)
  | alarmReceived a b =>
    obtain ⟨-, rfl⟩ := some_of_ite h
    exact .mk' (by simp) (.of_sl (by simp)) (samePins_hearAlarm s a b)
  | duplicateAddress b =>
    obtain ⟨-, rfl⟩ := some_of_ite h
    exact .mk' (by simp) (.of_sl (by simp)) (samePins_hearDuplicate s b)
  | receiveError chars ending =>
    simp only [State.body] at h
    split at h
    · cases h
      exact .mk' (by simp) (topicsGrow_hearError s chars ending) (samePins_hearError s chars ending)
    · split at h
      · cases h
        exact .mk' (by simp) (.of_sl (by simp)) (samePins_dominantSeen s _)
      · cases h
  | lineActivityEnd =>
    obtain ⟨-, rfl⟩ := some_of_ite h
    exact .mk' (by simp) (topicsGrow_hearError s [] .idle) (samePins_hearError s [] .idle)
  | ownSlotStart l taken =>
    obtain ⟨-, rfl⟩ := some_of_ite h
    exact .mk' (by simp) (.of_sl (by simp)) ((samePins_sense s l).trans (samePins_startOwnSlot _ taken))
  | ownStatusComplete =>
    obtain ⟨-, rfl⟩ := some_of_ite h
    exact .mk' (by simp) (.of_sl (by simp)) (samePins_ownStatusSent s)
  | ownNoticeComplete =>
    obtain ⟨-, rfl⟩ := some_of_ite h
    exact .mk' (by simp) (topicsGrow_ownNoticeSent s) (samePins_ownNoticeSent s)
  | ownAlarmComplete =>
    obtain ⟨-, rfl⟩ := some_of_ite h
    exact .mk' (by simp) (.of_sl (by simp)) (samePins_ownAlarmSent s)
  | echoMismatch i r =>
    obtain ⟨-, rfl⟩ := some_of_ite h
    exact .mk' (by simp) (.of_sl (by simp)) (samePins_compareEcho s i r)
  | abortJudgedError =>
    obtain ⟨-, rfl⟩ := some_of_ite h
    exact .mk' (by simp) (topicsGrow_judgeAbort s) (samePins_judgeAbort s)
  | breakAssert =>
    cases h
    exact .mk' (by simp) (.of_sl (by simp)) (samePins_sense s .recessive)
  | breakDetection chars =>
    obtain ⟨-, rfl⟩ := some_of_ite h
    exact .mk' (by simp) (topicsGrow_detectBreak s chars) (samePins_detectBreak s chars)
  | breakEnd =>
    obtain ⟨-, rfl⟩ := some_of_ite h
    exact .mk' (by simp) (.of_sl (by simp)) (samePins_endBreak s)
  | claimPositionStart p l =>
    obtain ⟨-, rfl⟩ := some_of_ite h
    exact .mk' (by simp) (.of_sl (by simp)) ((samePins_sense s l).trans (samePins_presentClaim _ p))
  | stuckLine =>
    obtain ⟨-, rfl⟩ := some_of_ite h
    exact .mk' (by simp) (.of_sl (by simp)) (samePins_stickLine s)
  | _ => cases hc

/-! ### Every command completes and keeps what waits (O10) -/

/-- A pass over the latches keeps what each of its turns keeps. -/
theorem latchFold_keeps (P : State → Prop) (m : Byte) (h : ∀ s c, P s → P (s.latchExpires c)) (s : State) (hs : P s) :
    P (eight.foldl (fun s c => if m.getLsbD c.val then s.latchExpires c else s) s) :=
  foldl_keeps P _ (fun u c hu => by
    split
    · exact h u c hu
    · exact hu) eight s hs

/-- The effect of an input leaves the waiting commands, the configuration and the peer records. -/
theorem body_input_frame {c : Instr} (hc : isInput c = true) {s u : State} (h : s.body c = some u) :
    u.pending = s.pending ∧ u.cfs = s.cfs ∧ u.pt = s.pt ∧ u.ca = s.ca := by
  cases c with
  | debouncedChange =>
    obtain ⟨-, rfl⟩ := some_of_ite h
    simp
  | sampleWord | inputSample =>
    cases h
    simp
  | latchStale m l =>
    cases h
    exact latchFold_keeps (fun u => u.pending = s.pending ∧ u.cfs = s.cfs ∧ u.pt = s.pt ∧ u.ca = s.ca) m
      (fun u c hu => by simpa using hu) _ (by simp)
  | sampleWordDiscarded => cases h
  | _ => cases hc

/-- Only an expiry, an event of the line or an input has an effect with an event's end. -/
theorem isEvent_or_isInput_of_body {c : Instr} {s u : State} (h : s.body c = some u) :
    isEvent c = true ∨ isInput c = true := by
  cases c <;> simp_all [State.body, isEvent, isInput]

theorem body_pending {c : Instr} {s u : State} (h : s.body c = some u) : u.pending = s.pending ∧ u.cfs = s.cfs := by
  rcases isEvent_or_isInput_of_body h with he | hi
  · obtain ⟨hp, hcfs, -⟩ := body_frame he h
    exact ⟨hp, hcfs⟩
  · obtain ⟨hp, hcfs, -⟩ := body_input_frame hi h
    exact ⟨hp, hcfs⟩

theorem effect_pending (s : State) (r : Request) : (s.effect r).pending = s.pending := by
  cases r with
  | configWrite record items =>
    simp only [State.effect]
    split
    · rfl
    · simp only [finish_frame]
      unfold State.writeConfig rewriteChannel
      dsimp only
      split <;> split <;> split <;> simp
  | sendNotice n =>
    simp only [State.effect]
    split <;> simp
  | reset => rfl
  | _ => simp [State.effect]

/-- The commands that wait stay as they are in every command. -/
theorem kept_pending (q : List Instr) : Kept fun s => s.pending = q where
  link _ _ h := h
  strap _ _ _ h := h
  sense s l h := by simpa using h
  brk s h := by simpa using h
  effect s r h _ := by rwa [effect_pending]
  power _ _ h := h
  pin _ _ h := h
  sampleError _ h := h

/-- No command stops the part. -/
theorem exec_next (c : Instr) (s : State) : ∃ t, exec c s = .next t := by
  cases c with
  | _ => exact ⟨_, rfl⟩

/-- An event leaves the frame of events. -/
theorem eventFrame_exec {c : Instr} {s t : State} (hc : isEvent c = true) (h : exec c s = .next t) :
    EventFrame s t := by
  have hends : endsEvent c = true := by cases c <;> first | rfl | cases hc
  rw [exec_event hends] at h
  cases h
  cases hb : s.body c with
  | none =>
    rw [afterEvent_none hb]
    exact ⟨rfl, rfl, rfl, rfl, rfl⟩
  | some u =>
    rw [afterEvent_some hb]
    obtain ⟨hp, hcfs, hsl, hiou, hpins⟩ := body_frame hc hb
    obtain ⟨fp, fcfs, -⟩ := finish_frame u s
    refine ⟨fp.trans hp, fcfs.trans hcfs, (hsl.trans (topicsGrow_finish u s)).1, ?_, hpins.trans (samePins_finish u s)⟩
    unfold SameInputs
    have hf : (u.finish s).iou = { u.iou with outputs := (u.finish s).iou.outputs } := by
      have hb : (u.blocksEnd s).iou = u.iou := by simp
      have hi : (u.finish s).iou = (u.blocksEnd s).driveOutputs.iou := by simp [State.finish, State.finishBut]
      rw [hi]
      simp only [State.driveOutputs, withIou_iou, hb]
    rw [hf, hiou]

/-- Settles O10: every command answers a state and leaves the commands that wait, and an event of the line or of a timer
keeps its frame. -/
theorem eventsFrame : Obligations.EventsFrame := by
  refine ⟨fun c s => (exec_next c s).imp fun _ ht => ⟨ht, ?_⟩, fun _ _ _ hc h => eventFrame_exec hc h⟩
  refine (kept_pending s.pending).exec (fun u hb => ?_) ht rfl
  obtain ⟨hp, -⟩ := body_pending hb
  obtain ⟨fp, -⟩ := finish_frame u s
  exact fp.trans hp

/-! ### The Peer Table (O11) -/

theorem peer_congr {s t : State} (h : t.pt = s.pt) (a : Fin 16) : t.peer a = s.peer a := congrArg (cell · a) h

/-- The effect of an event changes the record of its own address alone. -/
theorem body_peer {c : Instr} {s u : State} (h : s.body c = some u) {a : Fin 16} (ha : peerOf c ≠ some a) :
    u.peer a = s.peer a := by
  rcases isEvent_or_isInput_of_body h with he | hi
  · cases c with
    | peerStale b | peerLost b =>
      obtain ⟨-, rfl⟩ := some_of_ite h
      exact peer_withPeer_ne s _ fun hab => ha (congrArg some hab.symm)
    | statusReceived b body =>
      obtain ⟨-, rfl⟩ := some_of_ite h
      have hab : a ≠ b := fun hab => ha (congrArg some hab.symm)
      have hfile (t : State) (ht : t.pt = s.pt) : (t.fileStatus b body).peer a = s.peer a := by
        have hp : ∀ r, (t.withPeer b r).peer a = s.peer a := fun r =>
          (peer_withPeer_ne t r hab).trans (peer_congr ht a)
        unfold State.fileStatus
        dsimp only
        have htopics (v : State) (x : Topics) : (v.setTopics x).peer a = v.peer a := peer_congr (by simp) a
        split
        · exact (htopics _ _).trans (hp _)
        · exact hp _
      have hcompare (v : State) (m : Byte) : (v.compareCauses b m).peer a = v.peer a := peer_congr (by simp) a
      exact (hcompare _ _).trans (hfile _ (by simp))
    | noticeReceived b body =>
      obtain ⟨-, rfl⟩ := some_of_ite h
      have hab : a ≠ b := fun hab => ha (congrArg some hab.symm)
      have hp : (((s.followFrame b).receiverTo .idle).refreshPeer b).peer a = s.peer a :=
        (peer_withPeer_ne _ _ hab).trans (peer_congr (by simp) a)
      unfold State.hearNotice
      dsimp only
      split
      · exact (peer_congr (by simp) a).trans hp
      · exact hp
    | receiveError chars ending =>
      simp only [State.body] at h
      split at h
      · cases h
        exact peer_congr (by simp) a
      · split at h
        · cases h
          exact peer_congr (by simp) a
        · cases h
    | breakAssert =>
      cases h
      exact peer_congr (by simp) a
    | qualifyTimerExpiry | raiseMaxExpiry | confirmTimerExpiry | quietTimerExpiry | lowerWaitMaxExpiry
    | lowerMaxExpiry | gapTimerExpiry | restoreQualifyExpiry | unclaimedHoldExpiry | demandHoldExpiry
    | overdrawTimerExpiry | restoreTimerExpiry | muteTimerExpiry | idleCountExpiry | alarmReceived | duplicateAddress
    | lineActivityEnd | ownSlotStart | skipInterval | roundEnd | ownStatusComplete | ownNoticeComplete
    | ownAlarmComplete | echoMismatch | abortJudgedError | breakRelease | breakDetection | breakEnd
    | claimPositionStart | windowComplete | stuckLine =>
      obtain ⟨-, rfl⟩ := some_of_ite h
      exact peer_congr (by simp) a
    | _ => cases he
  · obtain ⟨-, -, hpt, -⟩ := body_input_frame hi h
    exact peer_congr hpt a

/-- Settles O11: an event's effect is about its own address, and the event's end changes no record. -/
theorem peersFrame : Obligations.PeersFrame := by
  intro c s t a hc ha h
  by_cases hends : endsEvent c = true
  · rw [exec_event hends] at h
    cases h
    cases hb : s.body c with
    | none => rw [afterEvent_none hb]
    | some u =>
      rw [afterEvent_some hb, ← body_peer hb ha]
      exact peer_congr (by simp) a
  · cases c with
    | sampleWordDiscarded =>
      cases h
      split <;> rfl
    | _ => simp_all [endsEvent, isEvent, isInput]

end Machine
end Sys2Proof

/-!
PROOFS. The end of an event, block by block: the rounds keep all but their notices, the current is judged from the state
as the event leaves it, and the line changes by a break alone.
-/

namespace Sys2Proof
namespace Machine

/-! ### The rounds but for their notices (R129, R130) -/

/-- The rounds of the second state are those of the first but for the notices. -/
def RoundsKept (s t : State) : Prop := SameRounds s.rsq t

theorem RoundsKept.of_rsq {s t : State} (h : t.rsq = s.rsq) : RoundsKept s t := by
  unfold RoundsKept SameRounds
  rw [h]

theorem RoundsKept.trans {s t u : State} (h : RoundsKept s t) (g : RoundsKept t u) : RoundsKept s u := by
  unfold RoundsKept SameRounds at *
  rw [g, h]

theorem roundsKept_placeInternal (s : State) (n : Notice) : RoundsKept s (s.placeInternal n) := by
  unfold State.placeInternal
  split
  · exact .of_rsq rfl
  · split <;> rfl

theorem roundsKept_clearOwn (s : State) (c : Cause) : RoundsKept s (s.clearOwn c) :=
  RoundsKept.trans (.of_rsq (by simp)) (roundsKept_placeInternal (s.withAlarms _) _)

theorem roundsKept_clearSensorLoss (s : State) : RoundsKept s s.clearSensorLoss := by
  unfold State.clearSensorLoss
  split
  · exact roundsKept_clearOwn s _
  · exact .of_rsq rfl

theorem roundsKept_clearDrop (s : State) (x : PoleId) : RoundsKept s (s.clearDrop x) := by
  unfold State.clearDrop
  split
  · exact roundsKept_clearOwn s _
  · exact .of_rsq rfl

theorem roundsKept_clearStop (s : State) : RoundsKept s s.clearStop := by
  unfold State.clearStop
  split
  · exact roundsKept_clearOwn s _
  · exact .of_rsq rfl

/-- R4, R9, R10, R21: the first part of an event's end at the poles, before the alarm entries are seen to. -/
def State.polesPlaced (s old : State) : State :=
  let a := (s.abandonRaise old .p).abandonRaise old .n
  let b := (a.settle .p).settle .n
  let c := (b.endWait .p).endWait .n
  c.withPs c.ps.gapRule

@[simp] theorem polesPlaced_frame (s old : State) :
    (s.polesPlaced old).pending = s.pending ∧ (s.polesPlaced old).cfs = s.cfs ∧ (s.polesPlaced old).li = s.li ∧
      (s.polesPlaced old).rsq = s.rsq ∧ (s.polesPlaced old).pt = s.pt ∧ (s.polesPlaced old).alc = s.alc ∧
      (s.polesPlaced old).ca = s.ca ∧ (s.polesPlaced old).ll = s.ll ∧ (s.polesPlaced old).iou = s.iou ∧
      (s.polesPlaced old).sl = s.sl ∧ (s.polesPlaced old).pins = s.pins := by
  simp [State.polesPlaced]

/-- R24 to R26: the entries of the poles at an event's end, after the poles have been placed. -/
def State.polesListed (d old : State) : State := ((d.raiseSensorLoss old).clearSensorLoss.clearDrop .p).clearDrop .n

theorem polesEnd_of_supervising {s : State} (h : s.role = .pole) (hs : s.ps.supervising = true) (old : State) :
    s.polesEnd old = ((s.polesPlaced old).polesListed old).restoreQualifyRule := by
  unfold State.polesEnd
  rw [if_pos (by simp [h, hs])]
  rfl

theorem polesEnd_of_not {s : State} (h : ¬(s.role = .pole ∧ s.ps.supervising = true)) (old : State) :
    s.polesEnd old = s := by
  unfold State.polesEnd
  rw [if_neg (by simpa using h)]

/-- What listing SENSOR_LOSS and clearing an own entry keep, the placing of the poles' own entries keeps. -/
theorem polesListed_keeps {P : State → Prop} (hraise : ∀ t c x, P t → P (t.raiseOwn c x))
    (hclear : ∀ t c, P t → P (t.clearOwn c)) {d : State} (h : P d) (old : State) : P (d.polesListed old) := by
  have hloss : P (d.raiseSensorLoss old) := by
    unfold State.raiseSensorLoss
    split
    · exact hraise _ _ _ h
    · exact h
  have hsensor : P (d.raiseSensorLoss old).clearSensorLoss := by
    unfold State.clearSensorLoss
    split
    · exact hclear _ _ hloss
    · exact hloss
  have hdrop (t : State) (x : PoleId) (ht : P t) : P (t.clearDrop x) := by
    unfold State.clearDrop
    split
    · exact hclear _ _ ht
    · exact ht
  exact hdrop _ _ (hdrop _ _ hsensor)

theorem roundsKept_polesListed (d old : State) : RoundsKept d (d.polesListed old) :=
  ((RoundsKept.of_rsq (by simp)).trans (roundsKept_clearSensorLoss (d.raiseSensorLoss old))).trans
    ((roundsKept_clearDrop _ .p).trans (roundsKept_clearDrop _ .n))

theorem roundsKept_polesEnd (s old : State) : RoundsKept s (s.polesEnd old) := by
  by_cases h : s.role = .pole ∧ s.ps.supervising = true
  · rw [polesEnd_of_supervising h.1 h.2]
    have hp : RoundsKept s (s.polesPlaced old) := .of_rsq (by simp)
    exact (hp.trans (roundsKept_polesListed _ old)).trans (.of_rsq (restoreQualifyRule_frame _).2.2.2.1)
  · rw [polesEnd_of_not h]
    exact .of_rsq rfl

/-- The state in which the current is judged at the end of an event: the poles and the stop entry have been seen to. -/
def State.reviewed (u old : State) : State := (u.polesEnd old).clearStop

@[simp] theorem reviewed_frame (u old : State) :
    (u.reviewed old).pending = u.pending ∧ (u.reviewed old).cfs = u.cfs ∧ (u.reviewed old).li = u.li ∧
      (u.reviewed old).pt = u.pt ∧ (u.reviewed old).ca = u.ca ∧ (u.reviewed old).ll = u.ll ∧
      (u.reviewed old).iou = u.iou ∧ (u.reviewed old).sl = u.sl ∧ (u.reviewed old).pins = u.pins := by
  simp [State.reviewed]

theorem roundsKept_reviewed (u old : State) : RoundsKept u (u.reviewed old) :=
  (roundsKept_polesEnd u old).trans (roundsKept_clearStop _)

theorem blocksEnd_of_config {u : State} (h : u.rsq.mode = .config) (old : State) : u.blocksEnd old = u := if_pos h

theorem blocksEnd_of_joined {u : State} (h : u.rsq.mode ≠ .config) (old : State) :
    u.blocksEnd old = (u.reviewed old).caSettle.examineBreak := if_neg h

/-- The outputs and topics of an event's end touch no other block. -/
theorem finishBut_blocks (skip : Option (Fin 8)) (u old : State) :
    (u.finishBut skip old).li = (u.blocksEnd old).li ∧ (u.finishBut skip old).rsq = (u.blocksEnd old).rsq ∧
      (u.finishBut skip old).ps = (u.blocksEnd old).ps ∧ (u.finishBut skip old).alc = (u.blocksEnd old).alc ∧
      (u.finishBut skip old).ca = (u.blocksEnd old).ca ∧ (u.finishBut skip old).ll = (u.blocksEnd old).ll ∧
      (u.finishBut skip old).pins = (u.blocksEnd old).pins := by
  simp [State.finishBut]

theorem roundsKept_finishBut (skip : Option (Fin 8)) (u old : State) : RoundsKept u (u.finishBut skip old) := by
  obtain ⟨-, hrsq, -⟩ := finishBut_blocks skip u old
  refine RoundsKept.trans ?_ (.of_rsq hrsq)
  by_cases h : u.rsq.mode = .config
  · rw [blocksEnd_of_config h]
    exact .of_rsq rfl
  · rw [blocksEnd_of_joined h]
    exact (roundsKept_reviewed u old).trans (.of_rsq (by simp))

theorem roundsKept_finish (u old : State) : RoundsKept u (u.finish old) := roundsKept_finishBut none u old

/-- What the rounds keep, item by item. -/
theorem RoundsKept.items {s t : State} (h : RoundsKept s t) :
    t.rsq.mode = s.rsq.mode ∧ t.rsq.muteCause = s.rsq.muteCause ∧ t.rsq.phase = s.rsq.phase ∧
      t.rsq.slotCounter = s.rsq.slotCounter ∧ t.rsq.roundCount = s.rsq.roundCount ∧
      t.rsq.resyncCount = s.rsq.resyncCount ∧ t.rsq.lastOwnSlot = s.rsq.lastOwnSlot ∧
      t.rsq.statusSequence = s.rsq.statusSequence ∧ t.rsq.statusSent = s.rsq.statusSent ∧
      t.rsq.windowPosition = s.rsq.windowPosition ∧ t.rsq.muteTimer = s.rsq.muteTimer ∧
      t.rsq.idleCount = s.rsq.idleCount := by
  unfold RoundsKept SameRounds at h
  rw [h]
  simp

@[simp] theorem finishBut_rounds (skip : Option (Fin 8)) (u old : State) :
    (u.finishBut skip old).rsq.mode = u.rsq.mode ∧ (u.finishBut skip old).rsq.muteCause = u.rsq.muteCause ∧
      (u.finishBut skip old).rsq.phase = u.rsq.phase ∧
      (u.finishBut skip old).rsq.slotCounter = u.rsq.slotCounter ∧
      (u.finishBut skip old).rsq.roundCount = u.rsq.roundCount ∧
      (u.finishBut skip old).rsq.resyncCount = u.rsq.resyncCount ∧
      (u.finishBut skip old).rsq.lastOwnSlot = u.rsq.lastOwnSlot ∧
      (u.finishBut skip old).rsq.statusSequence = u.rsq.statusSequence ∧
      (u.finishBut skip old).rsq.statusSent = u.rsq.statusSent ∧
      (u.finishBut skip old).rsq.windowPosition = u.rsq.windowPosition ∧
      (u.finishBut skip old).rsq.muteTimer = u.rsq.muteTimer ∧
      (u.finishBut skip old).rsq.idleCount = u.rsq.idleCount := (roundsKept_finishBut skip u old).items

@[simp] theorem finish_rounds (u old : State) :
    (u.finish old).rsq.mode = u.rsq.mode ∧ (u.finish old).rsq.muteCause = u.rsq.muteCause ∧
      (u.finish old).rsq.phase = u.rsq.phase ∧ (u.finish old).rsq.slotCounter = u.rsq.slotCounter ∧
      (u.finish old).rsq.roundCount = u.rsq.roundCount ∧ (u.finish old).rsq.resyncCount = u.rsq.resyncCount ∧
      (u.finish old).rsq.lastOwnSlot = u.rsq.lastOwnSlot ∧
      (u.finish old).rsq.statusSequence = u.rsq.statusSequence ∧
      (u.finish old).rsq.statusSent = u.rsq.statusSent ∧
      (u.finish old).rsq.windowPosition = u.rsq.windowPosition ∧
      (u.finish old).rsq.muteTimer = u.rsq.muteTimer ∧ (u.finish old).rsq.idleCount = u.rsq.idleCount :=
  finishBut_rounds none u old

theorem role_congr {s t : State} (h : t.cfs = s.cfs) : t.role = s.role := by
  simp [State.role, State.station, h]

theorem own_congr {s t : State} (h : t.cfs = s.cfs) : t.own = s.own := by
  simp [State.own, State.station, h]

/-! ### What the computations read -/

/-- What the line condition and the budget are judged from. -/
structure SameInputsOfCurrent (s t : State) : Prop where
  cfs : t.cfs = s.cfs
  stuck : t.li.stuck = s.li.stuck
  pt : t.pt = s.pt
  ps : t.ps = s.ps
  alc : t.alc = { s.alc with windowClaimed := t.alc.windowClaimed }
  latches : t.iou.latches = s.iou.latches

variable {s t : State}

/-- What an Alarm List Controller is but for the claim of a window. -/
theorem unclaimed_alc (h : t.alc = { s.alc with windowClaimed := t.alc.windowClaimed }) :
    t.alarms = s.alarms ∧ t.alc.unlisted = s.alc.unlisted ∧ t.alc.breakHold = s.alc.breakHold := by
  unfold State.alarms
  rw [h]
  exact ⟨rfl, rfl, rfl⟩

theorem SameInputsOfCurrent.stopEffect (h : SameInputsOfCurrent s t) : t.stopEffect = s.stopEffect := by
  simp [State.stopEffect, (unclaimed_alc h.alc).1]

theorem SameInputsOfCurrent.alarmEffect (h : SameInputsOfCurrent s t) : t.alarmEffect = s.alarmEffect := by
  obtain ⟨hentries, hunlisted, hhold⟩ := unclaimed_alc h.alc
  simp [State.alarmEffect, hentries, hunlisted, hhold]

theorem SameInputsOfCurrent.poleSources (h : SameInputsOfCurrent s t) : t.poleSources = s.poleSources := by
  simp [State.poleSources, role_congr h.cfs, h.ps, h.pt]

theorem SameInputsOfCurrent.judgeLine (h : SameInputsOfCurrent s t) : t.judgeLine = s.judgeLine := by
  simp [State.judgeLine, h.alarmEffect, h.poleSources, h.stuck]

theorem SameInputsOfCurrent.sourceVoltage (h : SameInputsOfCurrent s t) : t.sourceVoltage = s.sourceVoltage := by
  simp [State.sourceVoltage, h.poleSources]

theorem SameInputsOfCurrent.batteryOffer (h : SameInputsOfCurrent s t) : t.batteryOffer = s.batteryOffer := by
  simp [State.batteryOffer, State.ownOffer, State.fresh, State.latch, role_congr h.cfs, h.latches, h.pt]

theorem SameInputsOfCurrent.formBudget (h : SameInputsOfCurrent s t) (lc : LineCondition) (v : Option Nat) :
    t.formBudget lc v = s.formBudget lc v := by
  simp [State.formBudget, h.stopEffect, h.batteryOffer, h.cfs]

theorem SameInputsOfCurrent.formShare (h : SameInputsOfCurrent s t) (charge budget : Nat) :
    t.formShare charge budget = s.formShare charge budget := by
  simp [State.formShare, State.demandList, State.station, h.cfs, h.pt]

theorem Shedding.wanted {c d : Channel} (h : Shedding c d) : d.wanted = c.wanted := by
  rcases h with rfl | ⟨-, why, rfl⟩ <;> rfl

theorem formCharge_congr (hd : t.ca.demand = s.ca.demand) (hcfs : t.cfs = s.cfs)
    (hk : ∀ k, Shedding (s.channel k) (t.channel k)) : t.formCharge = s.formCharge := by
  simp only [State.formCharge, hd, (hk _).wanted, rating_congr hcfs]

/-- R65: what a lowering computation leaves, in terms of the state it is made in. -/
theorem caSettle_spec (v : State) :
    let t := v.caSettle
    t.ca.ownCharge = v.formCharge ∧ t.ca.lineCondition = v.judgeLine ∧ t.ca.poleVoltage = v.sourceVoltage ∧
      t.ca.budget = v.formBudget v.judgeLine v.sourceVoltage ∧
      t.ca.share = v.formShare v.formCharge (v.formBudget v.judgeLine v.sourceVoltage) ∧
      t.ca.allowance = (if v.rsq.mode = .run then min v.ca.allowance t.ca.share else 0) ∧
      t.ca.demand = v.ca.demand ∧ t.ca.demandHoldTimer = v.ca.demandHoldTimer ∧
      (∀ k, Shedding (v.channel k) (t.channel k)) ∧ t.onSum + t.ca.grant = t.ca.allowance ∧
      (v.judgeLine ≠ .available → ∀ k, t.isOn k = true → (v.channelCfg k).batteryFed = true) := by
  rw [caSettle_eq]
  obtain ⟨h1, h2, h3, h4, h5, h6, h7⟩ := computed_spec v
    (min v.ca.allowance (v.formShare v.formCharge (v.formBudget v.judgeLine v.sourceVoltage)))
  dsimp only
  rw [h5]
  exact ⟨h1, h2, h3, h4, rfl, h6, h7⟩

theorem caSettle_ladder (v : State) :
    v.caSettle.ll.lowest = v.ll.lowest ∧ v.caSettle.ll.restoreTimer = v.ll.restoreTimer := by
  rw [caSettle_eq]
  obtain ⟨-, hl, hr, -⟩ := follow_spec (v.compute.setAllowance
    (min v.ca.allowance (v.formShare v.formCharge (v.formBudget v.judgeLine v.sourceVoltage))))
  rw [hl, hr]
  exact ⟨rfl, rfl⟩

theorem overdrawn_congr (hcfs : t.cfs = s.cfs) (hlatch : t.iou.latches = s.iou.latches)
    (ha : t.ca.allowance = s.ca.allowance) : t.overdrawn = s.overdrawn := by
  simp [State.overdrawn, State.drawnCurrent, State.fresh, State.latch, hcfs, hlatch, ha]

/-- R69: what a computation leaves of the overdraw condition. -/
theorem follow_overdraw (v : State) :
    v.follow.ca.overdrawTimer = (if v.follow.overdrawn then v.ca.overdrawTimer <|> Timer.started else none) ∧
      v.follow.ca.overdrawFlag = (v.ca.overdrawFlag && v.follow.overdrawn) := by
  obtain ⟨-, -, -, -, hca⟩ := (lineSheds_onlySheds v).trans (allowanceSheds_onlySheds v.lineSheds)
  have ho : v.follow.overdrawn = v.lineSheds.allowanceSheds.grantRule.overdrawn :=
    overdrawn_congr (by simp [State.follow]) (by simp [State.follow]) (by simp [State.follow, State.overdrawRule])
  rw [ho]
  unfold State.follow State.overdrawRule
  simp only [withCa_ca]
  simp only [State.grantRule, withCa_ca, hca]
  exact ⟨trivial, trivial⟩

/-- What an event's end leaves of the current, from JOIN onward: every item follows the state it leaves, the allowance
comes down to the share, and channels are at most shed (R53, R56 to R67, R69, R86, R87). -/
structure CurrentEnd (u t : State) : Prop where
  charge : t.ca.ownCharge = t.formCharge
  chargeBefore : t.ca.ownCharge = u.formCharge
  line : t.ca.lineCondition = t.judgeLine
  voltage : t.ca.poleVoltage = t.sourceVoltage
  budget : t.ca.budget = t.formBudget t.ca.lineCondition t.ca.poleVoltage
  share : t.ca.share = t.formShare t.ca.ownCharge t.ca.budget
  allowance : t.ca.allowance = if u.rsq.mode = .run then min u.ca.allowance t.ca.share else 0
  demand : t.ca.demand = u.ca.demand
  hold : t.ca.demandHoldTimer = u.ca.demandHoldTimer
  sheds : ∀ k, Shedding (u.channel k) (t.channel k)
  grant : t.onSum + t.ca.grant = t.ca.allowance
  lineFed : t.ca.lineCondition ≠ .available → ∀ k, t.isOn k = true → (u.channelCfg k).batteryFed = true
  lowest : t.ll.lowest = u.ll.lowest
  restore : t.ll.restoreTimer = u.ll.restoreTimer
  overTimer : t.ca.overdrawTimer = if t.overdrawn then u.ca.overdrawTimer <|> Timer.started else none
  overFlag : t.ca.overdrawFlag = (u.ca.overdrawFlag && t.overdrawn)

theorem channel_congr (h : t.ll = s.ll) (k : Fin 8) : t.channel k = s.channel k := by simp [State.channel, h]

/-- What an event's end leaves of the current. -/
theorem currentEnd_finishBut (skip : Option (Fin 8)) {u : State} (old : State) (h : u.rsq.mode ≠ .config) :
    CurrentEnd u (u.finishBut skip old) := by
  obtain ⟨hli, -, hps, halc, hca, hll, -⟩ := finishBut_blocks skip u old
  rw [blocksEnd_of_joined h] at hli hps halc hca hll
  set v := u.reviewed old with hv
  set t := u.finishBut skip old with ht
  have hin : SameInputsOfCurrent v t := by
    refine ⟨by simp [ht, hv], ?_, by simp [ht, hv], by simp [hps], by simp [halc], ?_⟩
    · rw [hli]
      unfold State.examineBreak State.assertBreak
      split
      · dsimp only
        split <;> simp [LineInterface.taking]
      · simp
    · have hb : (u.blocksEnd old).iou = u.iou := by simp
      have hi : t.iou = (u.blocksEnd old).driveOutputs.iou := by simp [ht, State.finishBut]
      rw [hi]
      simp only [State.driveOutputs, withIou_iou, hb]
      simp [hv]
  have hca' : t.ca = v.caSettle.ca := by simp [hca]
  have hll' : t.ll = v.caSettle.ll := by simp [hll]
  have hcfs : t.cfs = u.cfs := by simp [ht]
  obtain ⟨h1, h2, h3, h4, h5, h6, h7, h8, h9, h10, h11⟩ := caSettle_spec v
  rw [← hca'] at h1 h2 h3 h4 h5 h6 h7 h8 h10
  have hmode : v.rsq.mode = u.rsq.mode := (roundsKept_reviewed u old).items.1
  have hvu : ∀ k, v.channel k = u.channel k := channel_congr (by simp [hv])
  have hsheds : ∀ k, Shedding (v.channel k) (t.channel k) := fun k => by
    rw [channel_congr hll' k]
    exact h9 k
  have hcharge : t.formCharge = v.formCharge := formCharge_congr h7 hin.cfs hsheds
  have hisOn : ∀ k, t.isOn k = v.caSettle.isOn k := isOn_congr (by rw [hll'])
  have hover : t.overdrawn = v.caSettle.overdrawn :=
    overdrawn_congr (by simp [hcfs, hv]) (by rw [hin.latches]; simp) (by rw [hca'])
  obtain ⟨hot, hof⟩ := follow_overdraw (v.compute.setAllowance
    (min v.ca.allowance (v.formShare v.formCharge (v.formBudget v.judgeLine v.sourceVoltage))))
  rw [← caSettle_eq, ← hover, ← hca', compute_setAllowance] at hot hof
  obtain ⟨hlow, hres⟩ := caSettle_ladder v
  have hvca : v.ca = u.ca := by simp [hv]
  refine ⟨by rw [h1, hcharge], ?_, by rw [h2, hin.judgeLine], by rw [h3, hin.sourceVoltage], ?_, ?_, ?_, ?_, ?_, ?_, ?_,
    ?_, ?_, ?_, ?_, ?_⟩
  · rw [h1]
    exact formCharge_congr (by rw [hvca]) (by simp [hv]) fun k => .inl (hvu k)
  · rw [h4, hin.formBudget, h2, h3]
  · rw [h5, hin.formShare, h1, h4]
  · rw [h6, hmode, hvca]
  · rw [h7, hvca]
  · rw [h8, hvca]
  · exact fun k => hvu k ▸ hsheds k
  · rw [← h10, onSum_congr (s := v.caSettle) (by rw [hll']) (by simp [hcfs, hv])]
  · intro hl k hk
    rw [← channelCfg_congr (s := u) (t := v) (by simp [hv]) k]
    exact h11 (h2 ▸ hl) k (hisOn k ▸ hk)
  · rw [hll', hlow]
    simp [hv]
  · rw [hll', hres]
    simp [hv]
  · rw [hot, hvca]
  · rw [hof, hvca]

theorem currentEnd_finish {u : State} (old : State) (h : u.rsq.mode ≠ .config) : CurrentEnd u (u.finish old) :=
  currentEnd_finishBut none old h

end Machine
end Sys2Proof

/-!
PROOFS. The judgement of the current (R53, R56 to R62): what it is of, what leaves it as it is, and that every step
leaves it the judgement of the inputs as they stand.
-/

namespace Sys2Proof
namespace Machine

variable {s t : State}

/-! ### The judgement in the model's terms -/

theorem lowestOf_eq_some {l : List Nat} {v : Nat} : lowestOf l = some v ↔ v ∈ l ∧ ∀ w ∈ l, v ≤ w := by
  have least : ∀ (l : List Nat) (a : Nat),
      (l.foldl min a = a ∨ l.foldl min a ∈ l) ∧ l.foldl min a ≤ a ∧ ∀ w ∈ l, l.foldl min a ≤ w := by
    intro l
    induction l with
    | nil => simp
    | cons b l ih =>
      intro a
      obtain ⟨hmem, hle, hall⟩ := ih (min a b)
      simp only [List.foldl_cons, List.mem_cons]
      refine ⟨?_, hle.trans (Nat.min_le_left a b), ?_⟩
      · rcases hmem with h | h
        · rcases Nat.le_total a b with hab | hab
          · exact .inl (h.trans (Nat.min_eq_left hab))
          · exact .inr (.inl (h.trans (Nat.min_eq_right hab)))
        · exact .inr (.inr h)
      · rintro w (rfl | hw)
        · exact hle.trans (Nat.min_le_right a w)
        · exact hall w hw
  cases l with
  | nil => simp [lowestOf]
  | cons a l =>
    obtain ⟨hmem, hle, hall⟩ := least l a
    have hmem' : l.foldl min a ∈ a :: l := by
      rcases hmem with h | h
      · exact List.mem_cons.2 (.inl h)
      · exact List.mem_cons.2 (.inr h)
    have hall' : ∀ w ∈ a :: l, l.foldl min a ≤ w := by
      intro w hw
      rcases List.mem_cons.1 hw with rfl | hw
      · exact hle
      · exact hall w hw
    simp only [lowestOf, Option.some.injEq]
    constructor
    · rintro rfl
      exact ⟨hmem', hall'⟩
    · rintro ⟨hv, hle⟩
      exact Nat.le_antisymm (hall' v hv) (hle _ hmem')

theorem lowestOf_eq_none {l : List Nat} : lowestOf l = none ↔ l = [] := by
  cases l <;> simp [lowestOf]

/-- R56: the pole-source voltage is the lowest of the sources', absent with none. -/
theorem sourceVoltage_iff (s : State) (v : Option Nat) :
    v = s.sourceVoltage ↔
      (s.poleSources = [] → v = none) ∧
        (s.poleSources ≠ [] → ∃ d ∈ s.poleSources, v = some d.voltage ∧ ∀ e ∈ s.poleSources, d.voltage ≤ e.voltage) := by
  unfold State.sourceVoltage
  generalize s.poleSources = l
  cases hl : lowestOf (l.map PoleSource.voltage) with
  | none =>
    have : l = [] := by simpa using lowestOf_eq_none.1 hl
    simp [this]
  | some w =>
    obtain ⟨hmem, hle⟩ := lowestOf_eq_some.1 hl
    obtain ⟨d, hd, rfl⟩ := List.mem_map.1 hmem
    have hle' : ∀ e ∈ l, d.voltage ≤ e.voltage := fun e he => hle _ (List.mem_map_of_mem he)
    have hne : l ≠ [] := List.ne_nil_of_mem hd
    constructor
    · rintro rfl
      exact ⟨fun h => absurd h hne, fun _ => ⟨d, hd, rfl, hle'⟩⟩
    · rintro ⟨-, h⟩
      obtain ⟨e, he, rfl, hle''⟩ := h hne
      exact congrArg some (Nat.le_antisymm (hle'' d hd) (hle' e he))

theorem judgeLine_eq (s : State) :
    s.judgeLine =
      if s.alarmEffect = true then .alarm
      else if s.li.stuck = true ∨ s.poleSources = [] then .unknown
      else if ∃ d ∈ s.poleSources, d.offWire = true then .offWire
      else if ∃ d ∈ s.poleSources, d.gapFlag = true then .gap
      else .available := by
  simp only [State.judgeLine, Bool.or_eq_true, List.isEmpty_iff, List.any_eq_true]

theorem formCharge_eq (s : State) :
    s.formCharge =
      min 2047 (s.ca.demand +
        (eight.map fun k => if (s.channel k).requested && !(s.channel k).masked then s.rating k else 0).sum) := rfl

/-- R53, R56 to R62: the items are those of the state's own inputs. -/
def ItemsJudged (s : State) : Prop :=
  s.ca.ownCharge = s.formCharge ∧ s.ca.lineCondition = s.judgeLine ∧ s.ca.poleVoltage = s.sourceVoltage ∧
    s.ca.budget = s.formBudget s.ca.lineCondition s.ca.poleVoltage ∧ s.ca.share = s.formShare s.ca.ownCharge s.ca.budget

theorem judged_iff (s : State) : Judged s ↔ (s.rsq.mode ≠ .config → ItemsJudged s) := by
  unfold Judged ItemsJudged
  rw [sourceVoltage_iff, judgeLine_eq, formCharge_eq, and_assoc]
  rfl

theorem CurrentEnd.itemsJudged {u : State} (h : CurrentEnd u t) : ItemsJudged t :=
  ⟨h.charge, h.line, h.voltage, h.budget, h.share⟩

/-! ### What leaves the judgement as it is -/

/-- What the judgement is of stands. -/
structure SameJudgement (s t : State) : Prop where
  mode : t.rsq.mode = s.rsq.mode
  ca : t.ca.ownCharge = s.ca.ownCharge ∧ t.ca.lineCondition = s.ca.lineCondition ∧
    t.ca.poleVoltage = s.ca.poleVoltage ∧ t.ca.budget = s.ca.budget ∧ t.ca.share = s.ca.share
  charge : t.formCharge = s.formCharge
  line : t.judgeLine = s.judgeLine
  voltage : t.sourceVoltage = s.sourceVoltage
  budget : ∀ lc v, t.formBudget lc v = s.formBudget lc v
  share : ∀ c b, t.formShare c b = s.formShare c b

theorem Judged.same (h : SameJudgement s t) (hs : Judged s) : Judged t := by
  rw [judged_iff] at *
  intro hm
  obtain ⟨h1, h2, h3, h4, h5⟩ := hs (h.mode ▸ hm)
  obtain ⟨c1, c2, c3, c4, c5⟩ := h.ca
  unfold ItemsJudged
  rw [c1, c2, c3, c4, c5, h.charge, h.line, h.voltage, h.budget, h.share]
  exact ⟨h1, h2, h3, h4, h5⟩

/-- Where what the current is judged from stands, and the current and the channels stand, so does the judgement. -/
theorem SameInputsOfCurrent.sameJudgement (h : SameInputsOfCurrent s t) (hm : t.rsq.mode = s.rsq.mode)
    (hca : t.ca = s.ca) (hll : t.ll = s.ll) : SameJudgement s t where
  mode := hm
  ca := by simp [hca]
  charge := formCharge_congr (by rw [hca]) h.cfs fun k => .inl (channel_congr hll k)
  line := h.judgeLine
  voltage := h.sourceVoltage
  budget := h.formBudget
  share := h.formShare

theorem stuck_lineTo (s : State) (l : LineLevel) : (s.lineTo l).li.stuck = s.li.stuck := by
  cases l with
  | recessive => simp
  | dominant =>
    rw [lineTo_dominant_li]
    split <;> simp

theorem stuck_sense (s : State) (l : LineLevel) : (s.sense l).li.stuck = s.li.stuck := by
  unfold State.sense
  split
  · rfl
  · exact stuck_lineTo s l

theorem mode_lineTo (s : State) (l : LineLevel) : (s.lineTo l).rsq.mode = s.rsq.mode := by
  cases l <;> simp

theorem mode_sense (s : State) (l : LineLevel) : (s.sense l).rsq.mode = s.rsq.mode := by
  unfold State.sense
  split
  · rfl
  · exact mode_lineTo s l

theorem stuck_examineBreak (s : State) : s.examineBreak.li.stuck = s.li.stuck := by
  unfold State.examineBreak State.assertBreak
  split
  · dsimp only
    split <;> simp [LineInterface.taking]
  · rfl

/-! ### Records one by one -/

theorem toList_eq_map_cell {α : Type} {n : Nat} (v : Vector α n) : v.toList = (List.finRange n).map (cell v) := by
  apply List.ext_getElem
  · simp
  · intro i h1 h2
    simp [cell]

/-- What is listed of the peer records is listed record by record. -/
theorem filterMap_peers_congr {β : Type} (f : Peer → Option β) (h : ∀ a, f (t.peer a) = f (s.peer a)) :
    t.pt.toList.filterMap f = s.pt.toList.filterMap f := by
  simp only [toList_eq_map_cell, List.filterMap_map]
  exact List.filterMap_congr fun a _ => h a

theorem map_peers_congr {β : Type} (f : Peer → β) (h : ∀ a, f (t.peer a) = f (s.peer a)) :
    t.pt.toList.map f = s.pt.toList.map f := by
  simp only [toList_eq_map_cell, List.map_map]
  exact List.map_congr_left fun a _ => h a

/-- Peer records that state the same in the same state, and entries of the same sources and causes, judge alike. -/
theorem sameJudgement_of_records (hm : t.rsq.mode = s.rsq.mode) (hcfs : t.cfs = s.cfs) (hstuck : t.li.stuck = s.li.stuck)
    (hsrc : t.ps.lineVoltage = s.ps.lineVoltage ∧ t.ps.poleP.state = s.ps.poleP.state ∧
      t.ps.poleN.state = s.ps.poleN.state ∧ t.ps.band = s.ps.band ∧ t.ps.gapFlag = s.ps.gapFlag)
    (hpt : ∀ a, (t.peer a).state = (s.peer a).state ∧ (t.peer a).stated = (s.peer a).stated)
    (hal : t.alarms.map AlarmEntry.key = s.alarms.map AlarmEntry.key)
    (hfl : t.alc.unlisted = s.alc.unlisted ∧ t.alc.breakHold = s.alc.breakHold)
    (hbatt : t.fresh battAvailChannel = s.fresh battAvailChannel ∧
      (t.latch battAvailChannel).value = (s.latch battAvailChannel).value)
    (hca : t.ca.ownCharge = s.ca.ownCharge ∧ t.ca.lineCondition = s.ca.lineCondition ∧
      t.ca.poleVoltage = s.ca.poleVoltage ∧ t.ca.budget = s.ca.budget ∧ t.ca.share = s.ca.share)
    (hd : t.ca.demand = s.ca.demand) (hll : ∀ k, t.channel k = s.channel k) : SameJudgement s t := by
  have hsource : t.poleSources = s.poleSources := by
    obtain ⟨h1, h2, h3, h4, h5⟩ := hsrc
    unfold State.poleSources
    rw [role_congr hcfs, h1, h2, h3, h4, h5, filterMap_peers_congr Peer.poleSource fun a => ?_]
    obtain ⟨p1, p2⟩ := hpt a
    simp [Peer.poleSource, p1, p2]
  have hany (f : Cause → Bool) : t.alarms.any (fun e => f e.cause) = s.alarms.any (fun e => f e.cause) := by
    have := congrArg (List.any · fun k : Source × Cause => f k.2) hal
    simpa [List.any_map, AlarmEntry.key, Function.comp_def] using this
  have heffect : t.alarmEffect = s.alarmEffect := by
    obtain ⟨f1, f2⟩ := hfl
    unfold State.alarmEffect
    rw [hany givesAlarm, f1, f2]
  have hstop : t.stopEffect = s.stopEffect := hany (· == .deskStop)
  have hoffer : t.batteryOffer = s.batteryOffer := by
    obtain ⟨b1, b2⟩ := hbatt
    have hp : t.pt.toList.map Peer.offer = s.pt.toList.map Peer.offer := map_peers_congr _ fun a => by
      obtain ⟨p1, p2⟩ := hpt a
      simp [Peer.offer, p1, p2]
    unfold State.batteryOffer State.ownOffer
    rw [hp, role_congr hcfs, b1, b2]
  refine ⟨hm, hca, formCharge_congr hd hcfs fun k => .inl (hll k), ?_, ?_, fun lc v => ?_, fun c b => ?_⟩
  · unfold State.judgeLine
    rw [heffect, hsource, hstuck]
  · unfold State.sourceVoltage
    rw [hsource]
  · unfold State.formBudget
    rw [hstop, hoffer, hcfs]
  · have hp : ∀ v, t.pt.toList.filterMap (Peer.demand v) = s.pt.toList.filterMap (Peer.demand v) := fun v =>
      filterMap_peers_congr _ fun a => by
        obtain ⟨p1, p2⟩ := hpt a
        simp [Peer.demand, p1, p2]
    unfold State.formShare State.demandList State.station
    rw [hcfs, hp]

/-! ### A millisecond -/

theorem tick_peer (s : State) (a : Fin 16) : s.tick.peer a = (s.peer a).ticked := by
  simp [State.tick, State.aged, State.peer]

theorem tick_latch (s : State) (c : Fin 8) : s.tick.latch c = { s.latch c with age := olderBy1 (s.latch c).age } := by
  simp [State.tick, State.aged, State.latch]

theorem tick_alarms (s : State) : s.tick.alarms = s.alarms.map fun e => { e with age := olderBy1 e.age } := rfl

theorem tick_keys (s : State) : s.tick.alarms.map AlarmEntry.key = s.alarms.map AlarmEntry.key := by
  rw [tick_alarms, List.map_map]
  rfl

theorem Peer.ticked_stated (r : Peer) : r.ticked.state = r.state ∧ r.ticked.stated = r.stated := by
  unfold Peer.ticked
  split <;> exact ⟨rfl, rfl⟩

theorem sameJudgement_tick (s : State) : SameJudgement s s.tick :=
  sameJudgement_of_records rfl rfl rfl ⟨rfl, rfl, rfl, rfl, rfl⟩
    (fun a => by
      rw [tick_peer]
      exact Peer.ticked_stated _)
    (tick_keys s) ⟨rfl, rfl⟩ (by simp [State.fresh, tick_latch]) ⟨rfl, rfl, rfl, rfl, rfl⟩ rfl fun _ => rfl

/-! ### Every step (O7) -/

theorem judged_finishBut (skip : Option (Fin 8)) (u old : State) : Judged (u.finishBut skip old) := by
  rw [judged_iff]
  intro hm
  have hu : u.rsq.mode ≠ .config := by simpa using hm
  exact (currentEnd_finishBut skip old hu).itemsJudged

theorem judged_of_config (h : s.rsq.mode = .config) : Judged s := fun hm => absurd h hm

/-- A request's effect that has no event's end leaves the inputs of the judgement as they are. -/
theorem judged_effect (r : Request) (h : Judged s) : Judged (s.effect r) := by
  cases r with
  | configWrite record items =>
    simp only [State.effect]
    split
    · exact h
    · exact judged_finishBut _ _ _
  | join | setDemand | setChannel | poleCommand => exact judged_finishBut _ _ _
  | reset => exact judged_of_config rfl
  | readStation | readAlarms | readPoles | readChannels => exact h
  | readPeer a =>
    refine Judged.same (s := s) (sameJudgement_of_records rfl rfl rfl ⟨rfl, rfl, rfl, rfl, rfl⟩ (fun b => ?_) rfl
      ⟨rfl, rfl⟩ ⟨rfl, rfl⟩ ⟨rfl, rfl, rfl, rfl, rfl⟩ rfl fun _ => rfl) h
    unfold State.effect State.clearRoleChanged State.withPeer State.peer
    rw [withPt_pt, cell_setCell]
    split
    next hb => exact hb ▸ ⟨rfl, rfl⟩
    next => exact ⟨rfl, rfl⟩
  | readIo | readChanges | setAttnMask =>
    exact h.same (SameInputsOfCurrent.sameJudgement ⟨rfl, rfl, rfl, rfl, rfl, rfl⟩ rfl rfl rfl)
  | setOutput o on =>
    refine h.same (SameInputsOfCurrent.sameJudgement ⟨rfl, rfl, rfl, rfl, rfl, rfl⟩ rfl rfl rfl)
  | sendNotice n =>
    simp only [State.effect]
    split
    · exact h
    · exact h.same (SameInputsOfCurrent.sameJudgement ⟨rfl, rfl, rfl, rfl, rfl, rfl⟩ rfl rfl rfl)

theorem kept_judged : Kept Judged where
  link s x h := h.same (SameInputsOfCurrent.sameJudgement ⟨rfl, rfl, rfl, rfl, rfl, rfl⟩ rfl rfl rfl)
  strap s high cts h := h.same (SameInputsOfCurrent.sameJudgement ⟨rfl, rfl, rfl, rfl, rfl, rfl⟩ rfl rfl rfl)
  sense s l h := by
    refine h.same (SameInputsOfCurrent.sameJudgement ⟨?_, stuck_sense s l, ?_, ?_, ?_, ?_⟩ (mode_sense s l) ?_ ?_) <;> simp
  brk s h := by
    refine h.same (SameInputsOfCurrent.sameJudgement ⟨?_, stuck_examineBreak s, ?_, ?_, ?_, ?_⟩ ?_ ?_ ?_) <;> simp
  effect s r h _ := judged_effect r h
  power _ _ _ := judged_of_config rfl
  pin _ _ _ := judged_of_config rfl
  sampleError s h := h.same (SameInputsOfCurrent.sameJudgement ⟨rfl, rfl, rfl, rfl, rfl, rfl⟩ rfl rfl rfl)

/-- Settles O7: an event's end judges the current of the state it leaves, and nothing without an event's end touches
what the judgement is of. -/
theorem stepKeepsJudgement : Obligations.StepKeepsJudgement := fun _ _ _ hs ht =>
  kept_judged.step (fun _ u _ _ _ => judged_finishBut none u _)
    (fun _ _ h => h.same (SameInputsOfCurrent.sameJudgement ⟨rfl, rfl, rfl, rfl, rfl, rfl⟩ rfl rfl rfl))
    (fun s h => h.same (sameJudgement_tick s)) ht hs

end Machine
end Sys2Proof

/-!
PROOFS. The line's own operations, field by field: what a level, a dominant run and a break leave of the Line Interface
and of the rounds.
-/

namespace Sys2Proof
namespace Machine

/-! ### A level and a run (R138, R142, R119) -/

@[simp] theorem lineTo_fields (s : State) (l : LineLevel) :
    (s.lineTo l).li.driver = s.li.driver ∧ (s.lineTo l).li.receiver = s.li.receiver ∧
      (s.lineTo l).li.reception = s.li.reception ∧ (s.lineTo l).li.expected = s.li.expected ∧
      (s.lineTo l).li.ownFrame = s.li.ownFrame ∧ (s.lineTo l).li.abortPending = s.li.abortPending ∧
      (s.lineTo l).li.stuck = s.li.stuck ∧ (s.lineTo l).li.rxErrors = s.li.rxErrors ∧
      (s.lineTo l).li.lastRxError = s.li.lastRxError ∧ (s.lineTo l).li.txErrors = s.li.txErrors := by
  cases l with
  | recessive => simp
  | dominant =>
    rw [lineTo_dominant_li]
    split <;> simp

/-- R119: a dominant level restarts the idle count and changes nothing else of the rounds. -/
theorem lineTo_rsq (s : State) (l : LineLevel) :
    (s.lineTo l).rsq =
      { s.rsq with
        idleCount := match l with | .recessive => s.rsq.idleCount | .dominant => s.rsq.idleCount.map fun _ => 0 } := by
  cases l <;> simp

@[simp] theorem lineTo_rounds (s : State) (l : LineLevel) :
    (s.lineTo l).rsq.mode = s.rsq.mode ∧ (s.lineTo l).rsq.muteCause = s.rsq.muteCause ∧
      (s.lineTo l).rsq.phase = s.rsq.phase ∧ (s.lineTo l).rsq.slotCounter = s.rsq.slotCounter ∧
      (s.lineTo l).rsq.roundCount = s.rsq.roundCount ∧ (s.lineTo l).rsq.resyncCount = s.rsq.resyncCount ∧
      (s.lineTo l).rsq.lastOwnSlot = s.rsq.lastOwnSlot ∧
      (s.lineTo l).rsq.statusSequence = s.rsq.statusSequence ∧ (s.lineTo l).rsq.statusSent = s.rsq.statusSent ∧
      (s.lineTo l).rsq.queue = s.rsq.queue ∧ (s.lineTo l).rsq.holding = s.rsq.holding ∧
      (s.lineTo l).rsq.windowPosition = s.rsq.windowPosition ∧ (s.lineTo l).rsq.muteTimer = s.rsq.muteTimer := by
  rw [lineTo_rsq]
  simp

theorem sense_cases (s : State) (l : LineLevel) :
    s.lineHeld = true ∧ s.sense l = s ∨ s.lineHeld = false ∧ s.sense l = s.lineTo l := by
  unfold State.sense
  cases s.lineHeld <;> simp

@[simp] theorem sense_fields (s : State) (l : LineLevel) :
    (s.sense l).li.driver = s.li.driver ∧ (s.sense l).li.receiver = s.li.receiver ∧
      (s.sense l).li.reception = s.li.reception ∧ (s.sense l).li.expected = s.li.expected ∧
      (s.sense l).li.ownFrame = s.li.ownFrame ∧ (s.sense l).li.abortPending = s.li.abortPending ∧
      (s.sense l).li.stuck = s.li.stuck ∧ (s.sense l).li.rxErrors = s.li.rxErrors ∧
      (s.sense l).li.lastRxError = s.li.lastRxError ∧ (s.sense l).li.txErrors = s.li.txErrors := by
  rcases sense_cases s l with ⟨-, h⟩ | ⟨-, h⟩ <;> simp [h]

@[simp] theorem sense_rounds (s : State) (l : LineLevel) :
    (s.sense l).rsq.mode = s.rsq.mode ∧ (s.sense l).rsq.muteCause = s.rsq.muteCause ∧
      (s.sense l).rsq.phase = s.rsq.phase ∧ (s.sense l).rsq.slotCounter = s.rsq.slotCounter ∧
      (s.sense l).rsq.roundCount = s.rsq.roundCount ∧ (s.sense l).rsq.resyncCount = s.rsq.resyncCount ∧
      (s.sense l).rsq.lastOwnSlot = s.rsq.lastOwnSlot ∧
      (s.sense l).rsq.statusSequence = s.rsq.statusSequence ∧ (s.sense l).rsq.statusSent = s.rsq.statusSent ∧
      (s.sense l).rsq.queue = s.rsq.queue ∧ (s.sense l).rsq.holding = s.rsq.holding ∧
      (s.sense l).rsq.windowPosition = s.rsq.windowPosition ∧ (s.sense l).rsq.muteTimer = s.rsq.muteTimer := by
  rcases sense_cases s l with ⟨-, h⟩ | ⟨-, h⟩ <;> simp [h]

@[simp] theorem restartIdle_rounds (s : State) :
    s.restartIdle.rsq.mode = s.rsq.mode ∧ s.restartIdle.rsq.muteCause = s.rsq.muteCause ∧
      s.restartIdle.rsq.phase = s.rsq.phase ∧ s.restartIdle.rsq.slotCounter = s.rsq.slotCounter ∧
      s.restartIdle.rsq.roundCount = s.rsq.roundCount ∧ s.restartIdle.rsq.resyncCount = s.rsq.resyncCount ∧
      s.restartIdle.rsq.lastOwnSlot = s.rsq.lastOwnSlot ∧
      s.restartIdle.rsq.statusSequence = s.rsq.statusSequence ∧ s.restartIdle.rsq.statusSent = s.rsq.statusSent ∧
      s.restartIdle.rsq.queue = s.rsq.queue ∧ s.restartIdle.rsq.holding = s.rsq.holding ∧
      s.restartIdle.rsq.windowPosition = s.rsq.windowPosition ∧ s.restartIdle.rsq.muteTimer = s.rsq.muteTimer := by
  simp [State.restartIdle]

@[simp] theorem dominantSeen_fields (s : State) (n : Nat) :
    (s.dominantSeen n).li.driver = s.li.driver ∧ (s.dominantSeen n).li.receiver = s.li.receiver ∧
      (s.dominantSeen n).li.reception = s.li.reception ∧ (s.dominantSeen n).li.expected = s.li.expected ∧
      (s.dominantSeen n).li.ownFrame = s.li.ownFrame ∧ (s.dominantSeen n).li.abortPending = s.li.abortPending ∧
      (s.dominantSeen n).li.stuck = s.li.stuck ∧ (s.dominantSeen n).li.rxErrors = s.li.rxErrors ∧
      (s.dominantSeen n).li.lastRxError = s.li.lastRxError ∧ (s.dominantSeen n).li.txErrors = s.li.txErrors := by
  unfold State.dominantSeen
  dsimp only
  split
  · simp
  · split
    · simp
    · split <;> simp

@[simp] theorem dominantSeen_rounds (s : State) (n : Nat) :
    (s.dominantSeen n).rsq.mode = s.rsq.mode ∧ (s.dominantSeen n).rsq.muteCause = s.rsq.muteCause ∧
      (s.dominantSeen n).rsq.phase = s.rsq.phase ∧ (s.dominantSeen n).rsq.slotCounter = s.rsq.slotCounter ∧
      (s.dominantSeen n).rsq.roundCount = s.rsq.roundCount ∧
      (s.dominantSeen n).rsq.resyncCount = s.rsq.resyncCount ∧
      (s.dominantSeen n).rsq.lastOwnSlot = s.rsq.lastOwnSlot ∧
      (s.dominantSeen n).rsq.statusSequence = s.rsq.statusSequence ∧
      (s.dominantSeen n).rsq.statusSent = s.rsq.statusSent ∧ (s.dominantSeen n).rsq.queue = s.rsq.queue ∧
      (s.dominantSeen n).rsq.holding = s.rsq.holding ∧
      (s.dominantSeen n).rsq.windowPosition = s.rsq.windowPosition ∧
      (s.dominantSeen n).rsq.muteTimer = s.rsq.muteTimer := by
  unfold State.dominantSeen
  dsimp only
  split
  · simp
  · split
    · simp
    · split <;> simp

@[simp] theorem lineAfter_fields (s : State) (chars : List Byte) (e : RunEnding) :
    (s.lineAfter chars e).li.driver = s.li.driver ∧ (s.lineAfter chars e).li.receiver = s.li.receiver ∧
      (s.lineAfter chars e).li.reception = s.li.reception ∧ (s.lineAfter chars e).li.expected = s.li.expected ∧
      (s.lineAfter chars e).li.ownFrame = s.li.ownFrame ∧
      (s.lineAfter chars e).li.abortPending = s.li.abortPending ∧ (s.lineAfter chars e).li.stuck = s.li.stuck ∧
      (s.lineAfter chars e).li.rxErrors = s.li.rxErrors ∧
      (s.lineAfter chars e).li.lastRxError = s.li.lastRxError ∧
      (s.lineAfter chars e).li.txErrors = s.li.txErrors := by
  unfold State.lineAfter
  split
  · split <;> simp
  · simp

@[simp] theorem lineAfter_rounds (s : State) (chars : List Byte) (e : RunEnding) :
    (s.lineAfter chars e).rsq.mode = s.rsq.mode ∧ (s.lineAfter chars e).rsq.muteCause = s.rsq.muteCause ∧
      (s.lineAfter chars e).rsq.phase = s.rsq.phase ∧
      (s.lineAfter chars e).rsq.slotCounter = s.rsq.slotCounter ∧
      (s.lineAfter chars e).rsq.roundCount = s.rsq.roundCount ∧
      (s.lineAfter chars e).rsq.resyncCount = s.rsq.resyncCount ∧
      (s.lineAfter chars e).rsq.lastOwnSlot = s.rsq.lastOwnSlot ∧
      (s.lineAfter chars e).rsq.statusSequence = s.rsq.statusSequence ∧
      (s.lineAfter chars e).rsq.statusSent = s.rsq.statusSent ∧ (s.lineAfter chars e).rsq.queue = s.rsq.queue ∧
      (s.lineAfter chars e).rsq.holding = s.rsq.holding ∧
      (s.lineAfter chars e).rsq.windowPosition = s.rsq.windowPosition ∧
      (s.lineAfter chars e).rsq.muteTimer = s.rsq.muteTimer := by
  unfold State.lineAfter
  split
  · split <;> simp
  · simp

/-! ### A break asserted (R44, R148, R149) -/

/-- What the assertion of a break leaves of the Line Interface. -/
@[simp] theorem examineBreak_fields (s : State) :
    s.examineBreak.li.abortPending = s.li.abortPending ∧ s.examineBreak.li.dominantRun = s.li.dominantRun ∧
      s.examineBreak.li.restarted = s.li.restarted ∧ s.examineBreak.li.stuck = s.li.stuck ∧
      s.examineBreak.li.rxErrors = s.li.rxErrors ∧ s.examineBreak.li.lastRxError = s.li.lastRxError ∧
      s.examineBreak.li.txErrors = s.li.txErrors := by
  unfold State.examineBreak State.assertBreak
  split
  · dsimp only
    split <;> simp [LineInterface.taking]
  · simp

theorem breakWanted_iff (s : State) :
    s.breakWanted = true ↔
      s.rsq.mode = .run ∧ s.ownPending = true ∧ s.rsq.phase ≠ .window ∧ s.pins.line = .recessive ∧
        s.li.driver ≠ .brk ∧ s.li.abortPending = false := by
  simp [State.breakWanted, and_assoc]

theorem examineBreak_of_wanted {s : State} (h : s.breakWanted = true) : s.examineBreak = s.assertBreak := if_pos h

theorem examineBreak_of_not {s : State} (h : s.breakWanted = false) : s.examineBreak = s := if_neg (by simp [h])

/-- The line at an event's end: as the event left it, or in a break that the station asserts. -/
theorem finishBut_line (skip : Option (Fin 8)) (u old : State) :
    (u.finishBut skip old).li = u.li ∧ (u.finishBut skip old).pins = u.pins ∨
      u.rsq.mode = .run ∧ u.rsq.phase ≠ .window ∧ u.pins.line = .recessive ∧ u.li.driver ≠ .brk ∧
        u.li.abortPending = false ∧ (u.reviewed old).ownPending = true ∧
        (u.finishBut skip old).li = u.assertBreak.li ∧ (u.finishBut skip old).pins = u.assertBreak.pins := by
  obtain ⟨hli, -, -, -, -, -, hpins⟩ := finishBut_blocks skip u old
  rw [hli, hpins]
  by_cases hm : u.rsq.mode = .config
  · rw [blocksEnd_of_config hm]
    exact .inl ⟨rfl, rfl⟩
  · rw [blocksEnd_of_joined hm]
    set v := (u.reviewed old).caSettle with hv
    have hvli : v.li = u.li := by simp [hv]
    have hvpins : v.pins = u.pins := by simp [hv]
    have hvmode : v.rsq.mode = u.rsq.mode ∧ v.rsq.phase = u.rsq.phase := by
      obtain ⟨h1, -, h3, -⟩ := (roundsKept_reviewed u old).items
      simp [hv, h1, h3]
    have hpend : v.ownPending = (u.reviewed old).ownPending := by
      simp [hv, State.ownPending, State.alarms, State.own, State.station]
    cases hb : v.breakWanted with
    | false =>
      rw [examineBreak_of_not hb]
      exact .inl ⟨hvli, hvpins⟩
    | true =>
      rw [examineBreak_of_wanted hb]
      rw [breakWanted_iff, hvmode.1, hvmode.2, hvpins, hvli, hpend] at hb
      obtain ⟨h1, h2, h3, h4, h5, h6⟩ := hb
      refine .inr ⟨h1, h3, h4, h5, h6, h2, ?_, ?_⟩
      · simp [State.assertBreak, hvli]
      · simp [State.assertBreak, hvpins]

theorem finish_line (u old : State) :
    (u.finish old).li = u.li ∧ (u.finish old).pins = u.pins ∨
      u.rsq.mode = .run ∧ u.rsq.phase ≠ .window ∧ u.pins.line = .recessive ∧ u.li.driver ≠ .brk ∧
        u.li.abortPending = false ∧ (u.reviewed old).ownPending = true ∧
        (u.finish old).li = u.assertBreak.li ∧ (u.finish old).pins = u.assertBreak.pins := finishBut_line none u old

/-- R148, R149: the Line Interface in which a break is asserted. -/
theorem assertBreak_li (s : State) :
    s.assertBreak.li =
      { (if s.li.driver = .frame then s.li.taking .discard [] else s.li) with driver := .brk, ownFrame := none } := rfl

@[simp] theorem finishBut_fields (skip : Option (Fin 8)) (u old : State) :
    (u.finishBut skip old).li.abortPending = u.li.abortPending ∧
      (u.finishBut skip old).li.dominantRun = u.li.dominantRun ∧
      (u.finishBut skip old).li.restarted = u.li.restarted ∧ (u.finishBut skip old).li.stuck = u.li.stuck ∧
      (u.finishBut skip old).li.rxErrors = u.li.rxErrors ∧
      (u.finishBut skip old).li.lastRxError = u.li.lastRxError ∧
      (u.finishBut skip old).li.txErrors = u.li.txErrors := by
  rcases finishBut_line skip u old with ⟨h, -⟩ | ⟨-, -, -, -, -, -, h, -⟩
  · simp [h]
  · rw [h, assertBreak_li]
    split <;> simp [LineInterface.taking]

@[simp] theorem finish_fields (u old : State) :
    (u.finish old).li.abortPending = u.li.abortPending ∧ (u.finish old).li.dominantRun = u.li.dominantRun ∧
      (u.finish old).li.restarted = u.li.restarted ∧ (u.finish old).li.stuck = u.li.stuck ∧
      (u.finish old).li.rxErrors = u.li.rxErrors ∧ (u.finish old).li.lastRxError = u.li.lastRxError ∧
      (u.finish old).li.txErrors = u.li.txErrors := finishBut_fields none u old

/-- Where the line is dominant, or the station is not in RUN, an event's end leaves the line as it is. -/
theorem finish_line_of_not {u : State} (old : State)
    (h : u.rsq.mode ≠ .run ∨ u.pins.line = .dominant ∨ u.rsq.phase = .window ∨ u.li.driver = .brk ∨
      u.li.abortPending = true) :
    (u.finish old).li = u.li ∧ (u.finish old).pins = u.pins := by
  rcases finish_line u old with h' | ⟨h1, h2, h3, h4, h5, -⟩
  · exact h'
  · simp [h1, h2, h3, h4, h5] at h

end Machine
end Sys2Proof

/-!
PROOFS. Changes and their topics (R193), the rise of the allowance (R64), the front of the queue, the state after reset
and the idle millisecond.
-/

namespace Sys2Proof
namespace Machine

/-! ### Topics follow changes (O15) -/

theorem changedTopics_congr (skip : Option (Fin 8)) (old : State) {s t : State} (hps : t.ps = s.ps) (halc : t.alc = s.alc)
    (hca : t.ca = s.ca) (hll : t.ll = s.ll) (hpt : t.pt = s.pt) (hrsq : t.rsq = s.rsq) :
    changedTopics skip old t = changedTopics skip old s := by
  simp only [changedTopics, channelsMoved, State.channel, State.pole, State.alarms, hps, halc, hca, hll, hpt, hrsq]

/-- The topics an event's end leaves set: those the event has set, and those of what has changed. -/
theorem finishBut_summary (skip : Option (Fin 8)) (u old : State) :
    (u.finishBut skip old).sl.summary = u.sl.summary.union (changedTopics skip old (u.finishBut skip old)) := by
  have h : changedTopics skip old (u.finishBut skip old) = changedTopics skip old (u.blocksEnd old).driveOutputs := by
    obtain ⟨-, hrsq, hps, halc, hca, hll, -⟩ := finishBut_blocks skip u old
    exact changedTopics_congr skip old (by simp [hps]) (by simp [halc]) (by simp [hca]) (by simp [hll]) (by simp)
      (by simp [hrsq])
  rw [h]
  simp [State.finishBut, setTopics_sl]

theorem finish_summary (u old : State) :
    (u.finish old).sl.summary = u.sl.summary.union (changedTopics none old (u.finish old)) :=
  finishBut_summary none u old

/-- Errors that an effect has counted have set LINE_ERRORS. -/
def ErrorsTold (s u : State) : Prop :=
  u.li.rxErrors ≤ s.li.rxErrors ∧ u.li.txErrors ≤ s.li.txErrors ∨ u.sl.summary.lineErrors = true

theorem ErrorsTold.of_li {s u : State} (h : u.li.rxErrors = s.li.rxErrors ∧ u.li.txErrors = s.li.txErrors) :
    ErrorsTold s u := .inl ⟨h.1.le, h.2.le⟩

@[simp] theorem startFrame_errors (s : State) (b : FrameBody) :
    (s.startFrame b).li.rxErrors = s.li.rxErrors ∧ (s.startFrame b).li.txErrors = s.li.txErrors := ⟨rfl, rfl⟩

@[simp] theorem presentClaim_errors (s : State) (p : Fin 16) :
    (s.presentClaim p).li.rxErrors = s.li.rxErrors ∧ (s.presentClaim p).li.txErrors = s.li.txErrors := by
  unfold State.presentClaim
  dsimp only
  split <;> exact ⟨rfl, rfl⟩

@[simp] theorem taking_errors (s : State) (r : ReceiverState) (l : List Byte) :
    (s.taking r l).li.rxErrors = s.li.rxErrors ∧ (s.taking r l).li.txErrors = s.li.txErrors := ⟨rfl, rfl⟩

@[simp] theorem receiverTo_errors (s : State) (r : ReceiverState) :
    (s.receiverTo r).li.rxErrors = s.li.rxErrors ∧ (s.receiverTo r).li.txErrors = s.li.txErrors := ⟨rfl, rfl⟩

theorem errorsTold_countRxError (s t : State) (k : RxErrorKind) : ErrorsTold s (t.countRxError k) := by
  right
  simp [State.countRxError, setTopics_sl, Topics.union]

theorem errorsTold_hearError (s : State) (chars : List Byte) (e : RunEnding) : ErrorsTold s (s.hearError chars e) := by
  unfold State.hearError
  dsimp only
  split
  · exact .of_li (by simp)
  · split
    · exact errorsTold_countRxError s _ _
    · exact .of_li (by simp)
    · split
      · exact .of_li (by simp)
      · exact .of_li (by simp)
    · exact .of_li ⟨rfl, rfl⟩

theorem errorsTold_detectBreak (s : State) (chars : List Byte) : ErrorsTold s (s.detectBreak chars) := by
  unfold State.detectBreak State.breakFound
  dsimp only
  split
  · exact .of_li (by simp [State.dominantFor])
  · split
    · exact errorsTold_countRxError s _ _
    · exact .of_li (by simp [State.dominantFor, LineInterface.taking])

theorem errorsTold_judgeAbort (s : State) : ErrorsTold s s.judgeAbort := by
  right
  unfold State.judgeAbort
  dsimp only
  split <;> simp [setTopics_sl, Topics.union]

theorem errorsTold_compareEcho (s : State) (i : Nat) (r : BitVec 10) : ErrorsTold s (s.compareEcho i r) := by
  unfold State.compareEcho
  split
  · exact .of_li ⟨rfl, rfl⟩
  · split
    · exact .of_li ⟨rfl, rfl⟩
    · dsimp only
      refine .of_li ?_
      split <;> simp [LineInterface.taking]

theorem errorsTold_frameDone (s : State) : ErrorsTold s s.frameDone :=
  .inl ⟨le_of_eq (by simp [State.frameDone, LineInterface.taking]), by simp [State.frameDone]⟩

/-- Where the Line Interface is that of a completed frame, so are its errors. -/
theorem ErrorsTold.of_frameDone {s u : State} (h : u.li = s.frameDone.li) : ErrorsTold s u := by
  rcases errorsTold_frameDone s with h' | h'
  · exact .inl (h ▸ h')
  · exact .inl (by rw [h]; simp [State.frameDone, LineInterface.taking])

theorem errorsTold_muteExpired (s : State) : ErrorsTold s s.muteExpired := by
  unfold State.muteExpired
  split
  · exact .inl (by simp)
  · exact .of_li ⟨rfl, rfl⟩

/-- R152: an event that counts an error sets LINE_ERRORS. -/
theorem body_errorsTold {c : Instr} (hc : isEvent c = true) {s u : State} (h : s.body c = some u) : ErrorsTold s u := by
  cases c with
  | receiveError chars ending =>
    simp only [State.body] at h
    split at h
    · cases h
      exact errorsTold_hearError s chars ending
    · split at h
      · cases h
        exact .of_li (by simp)
      · cases h
  | lineActivityEnd =>
    obtain ⟨-, rfl⟩ := some_of_ite h
    exact errorsTold_hearError s [] .idle
  | breakDetection chars =>
    obtain ⟨-, rfl⟩ := some_of_ite h
    exact errorsTold_detectBreak s chars
  | abortJudgedError =>
    obtain ⟨-, rfl⟩ := some_of_ite h
    exact errorsTold_judgeAbort s
  | echoMismatch i r =>
    obtain ⟨-, rfl⟩ := some_of_ite h
    exact errorsTold_compareEcho s i r
  | muteTimerExpiry =>
    obtain ⟨-, rfl⟩ := some_of_ite h
    exact errorsTold_muteExpired s
  | ownStatusComplete =>
    obtain ⟨-, rfl⟩ := some_of_ite h
    exact .of_frameDone (by simp [State.ownStatusSent])
  | ownNoticeComplete =>
    obtain ⟨-, rfl⟩ := some_of_ite h
    refine .of_frameDone ?_
    unfold State.ownNoticeSent
    dsimp only
    split <;> simp
  | ownAlarmComplete =>
    obtain ⟨-, rfl⟩ := some_of_ite h
    exact .of_frameDone (by simp [State.ownAlarmSent])
  | duplicateAddress b =>
    obtain ⟨-, rfl⟩ := some_of_ite h
    refine .of_li ?_
    unfold State.hearDuplicate
    dsimp only
    split <;> split <;> simp
  | noticeReceived a b =>
    obtain ⟨-, rfl⟩ := some_of_ite h
    refine .of_li ?_
    unfold State.hearNotice
    dsimp only
    split <;> simp
  | ownSlotStart l taken =>
    obtain ⟨-, rfl⟩ := some_of_ite h
    refine .of_li ?_
    unfold State.startOwnSlot
    split <;> simp
  | breakEnd =>
    obtain ⟨-, rfl⟩ := some_of_ite h
    refine .of_li ?_
    unfold State.endBreak State.beginWindow
    dsimp only
    split <;> simp
  | breakAssert =>
    cases h
    exact .of_li (by simp)
  | qualifyTimerExpiry | raiseMaxExpiry | confirmTimerExpiry | quietTimerExpiry | lowerWaitMaxExpiry
  | lowerMaxExpiry | gapTimerExpiry | restoreQualifyExpiry | unclaimedHoldExpiry | demandHoldExpiry
  | overdrawTimerExpiry | restoreTimerExpiry | peerStale | peerLost | idleCountExpiry | skipInterval | roundEnd
  | windowComplete | breakRelease | claimPositionStart =>
    obtain ⟨-, rfl⟩ := some_of_ite h
    exact .of_li (by simp)
  | statusReceived | alarmReceived =>
    obtain ⟨-, rfl⟩ := some_of_ite h
    exact .of_li (by simp [State.hearStatus, State.hearAlarm])
  | stuckLine =>
    obtain ⟨-, rfl⟩ := some_of_ite h
    exact .of_li (by simp [State.stickLine, State.dominantFor])
  | _ => cases hc

/-- R166: an event that sets a role-changed flag sets PEERS. -/
theorem body_roleChanged {c : Instr} {s u : State} (h : s.body c = some u) (a : Fin 16) :
    (u.peer a).roleChanged = (s.peer a).roleChanged ∨ u.sl.summary.peers = true := by
  by_cases ha : peerOf c = some a
  · cases c with
    | peerStale b | peerLost b =>
      obtain ⟨-, rfl⟩ := some_of_ite h
      cases ha
      exact .inl (by simp)
    | noticeReceived b body =>
      obtain ⟨-, rfl⟩ := some_of_ite h
      cases ha
      left
      have hp : ∀ t : State, t.pt = s.pt → ((t.refreshPeer a).peer a).roleChanged = (s.peer a).roleChanged := by
        intro t ht
        rw [State.refreshPeer, peer_withPeer_self, peer_congr ht]
        unfold Peer.refreshed
        split <;> rfl
      have happ (t : State) (n : Notice) : (t.applyNotice a n).peer a = t.peer a := peer_congr (by simp) a
      unfold State.hearNotice
      dsimp only
      split
      · rw [happ]
        exact hp _ (by simp)
      · exact hp _ (by simp)
    | statusReceived b body =>
      obtain ⟨-, rfl⟩ := some_of_ite h
      cases ha
      have hcmp (t : State) (m : Byte) :
          (t.compareCauses a m).peer a = t.peer a ∧ (t.compareCauses a m).sl = t.sl :=
        ⟨peer_congr (by simp) a, by simp⟩
      unfold State.hearStatus
      rw [(hcmp _ _).1, (hcmp _ _).2]
      have hpeer : ((s.followFrame a).receiverTo .idle).peer a = s.peer a := peer_congr (by simp) a
      unfold State.fileStatus
      dsimp only
      split
      · right
        simp [setTopics_sl, Topics.union]
      next hr =>
        left
        rw [peer_withPeer_self, hpeer] at *
        simp [Peer.filed, hr]
    | _ => cases ha
  · exact .inl (congrArg Peer.roleChanged (body_peer h ha))

/-- Settles O15: an event's end compares the state after it with the state before, and errors and role changes are told
where they are made. -/
theorem topicsFollowChanges : Obligations.TopicsFollowChanges := by
  intro c s t hc h
  have hends : endsEvent c = true := by cases c <;> first | rfl | cases hc
  rw [exec_event hends] at h
  cases h
  cases hb : s.body c with
  | none =>
    rw [afterEvent_none hb]
    simp [union_self]
  | some u =>
    rw [afterEvent_some hb]
    obtain ⟨-, -, hgrow, -⟩ := body_frame hc hb
    obtain ⟨-, hunion⟩ := hgrow.trans (topicsGrow_finish u s)
    have hsum := finish_summary u s
    have herr := body_errorsTold hc hb
    have hrole := body_roleChanged hb
    have hpeer : ∀ a, (u.finish s).peer a = u.peer a := fun a => peer_congr (by simp) a
    have hli : (u.finish s).li.rxErrors = u.li.rxErrors ∧ (u.finish s).li.txErrors = u.li.txErrors := by simp
    set t := u.finish s with ht
    refine ⟨hunion, fun hch => ?_, fun hch => ?_, fun hch => ?_, ?_, ?_, fun hch => ?_, fun hch => ?_⟩
    · have hshown : s.alarms.map AlarmEntry.shown = t.alarms.map AlarmEntry.shown →
          s.alarms.map (fun e => (e.source, e.cause, e.state, e.detail, e.repeats)) =
            t.alarms.map (fun e => (e.source, e.cause, e.state, e.detail, e.repeats)) := fun heq => by
        have := congrArg (List.map fun e : AlarmEntry => (e.source, e.cause, e.state, e.detail, e.repeats)) heq
        simpa [List.map_map, Function.comp_def, AlarmEntry.shown] using this
      rw [hsum]
      simp only [Topics.union, changedTopics, Bool.or_eq_true, bne_iff_ne]
      exact .inr (hch.imp_left (mt hshown))
    · rw [hsum]
      simp only [Topics.union, changedTopics, Bool.or_eq_true, bne_iff_ne, ne_eq, Prod.mk.injEq]
      refine .inr fun hall => ?_
      obtain ⟨h1, h2, h3, h4, h5, h6⟩ := hall
      rcases hch with ⟨x, hx⟩ | hx | hx
      · cases x <;> simp_all [State.pole, PoleSupervisor.pole]
      · exact hx h5
      · exact hx h6
    · rw [hsum]
      simp only [Topics.union, changedTopics, Bool.or_eq_true, bne_iff_ne]
      right
      tauto
    · rintro ⟨k, hk⟩
      rw [hsum]
      simp only [Topics.union, changedTopics, channelsMoved, Bool.or_eq_true]
      exact .inr (List.any_eq_true.2 ⟨k, mem_eight k, by simpa using hk⟩)
    · rintro ⟨a, ha | ha⟩
      · rw [hsum]
        simp only [Topics.union, changedTopics, Bool.or_eq_true]
        exact .inr (List.any_eq_true.2 ⟨a, mem_sixteen a, by simpa [State.peer] using ha⟩)
      · rcases hrole a with hr | hr
        · exact absurd (congrArg Peer.roleChanged (hpeer a) |>.trans hr).symm ha
        · rw [hsum]
          simp [Topics.union, hr]
    · rcases herr with ⟨h1, h2⟩ | hsumm
      · rw [hli.1, hli.2] at hch
        omega
      · rw [hsum]
        simp [Topics.union, hsumm]
    · rw [hsum]
      simp only [Topics.union, changedTopics, Bool.or_eq_true, bne_iff_ne]
      exact .inr (.inl hch)

end Machine
end Sys2Proof

/-!
PROOFS. The rise of the allowance (R63, R64), the front of the queue, the state after a reset, and the millisecond in
which no command waits.
-/

namespace Sys2Proof
namespace Machine

/-! ### The allowance (O14) -/

/-- R65: an event's end never raises the allowance. -/
theorem finishBut_allowance_le (skip : Option (Fin 8)) (u old : State) :
    (u.finishBut skip old).ca.allowance ≤ u.ca.allowance := by
  by_cases hm : u.rsq.mode = .config
  · obtain ⟨-, -, -, -, hca, -⟩ := finishBut_blocks skip u old
    rw [hca, blocksEnd_of_config hm]
  · rw [(currentEnd_finishBut skip old hm).allowance]
    split
    · exact Nat.min_le_left _ _
    · exact Nat.zero_le _

theorem effect_allowance_le (s : State) (r : Request) : (s.effect r).ca.allowance ≤ s.ca.allowance := by
  cases r with
  | configWrite record items =>
    simp only [State.effect]
    split
    · exact le_rfl
    · refine (finishBut_allowance_le _ _ _).trans (le_of_eq ?_)
      unfold State.writeConfig rewriteChannel
      dsimp only
      split <;> split <;> split <;> simp
  | join | setDemand | setChannel | poleCommand =>
    exact (finishBut_allowance_le _ _ _).trans (le_of_eq (by simp [State.takeDemand]))
  | reset => exact Nat.zero_le _
  | sendNotice n =>
    simp only [State.effect]
    split <;> simp
  | _ => simp [State.effect]

theorem kept_allowance_le (n : Nat) : Kept fun s => s.ca.allowance ≤ n where
  link _ _ h := h
  strap _ _ _ h := h
  sense s l h := by simpa using h
  brk s h := by simpa using h
  effect s r h _ := (effect_allowance_le s r).trans h
  power _ _ _ := Nat.zero_le _
  pin _ _ _ := Nat.zero_le _
  sampleError _ h := h

/-- The effect of an event other than a round end leaves the allowance. -/
theorem body_allowance {c : Instr} {s u : State} (h : s.body c = some u)
    (hc : c ≠ .roundEnd ∧ c ≠ .idleCountExpiry) : u.ca.allowance = s.ca.allowance := by
  rcases isEvent_or_isInput_of_body h with he | hi
  · cases c with
    | roundEnd => exact absurd rfl hc.1
    | idleCountExpiry => exact absurd rfl hc.2
    | receiveError chars ending =>
      simp only [State.body] at h
      split at h
      · cases h
        simp
      · split at h
        · cases h
          simp
        · cases h
    | breakAssert =>
      cases h
      simp
    | demandHoldExpiry =>
      obtain ⟨-, rfl⟩ := some_of_ite h
      unfold State.demandHoldExpired
      split <;> simp
    | overdrawTimerExpiry =>
      obtain ⟨-, rfl⟩ := some_of_ite h
      obtain ⟨-, -, -, -, hca⟩ := overdrawShed_onlySheds
        (s.withCa { s.ca with overdrawFlag := true, overdrawTimer := Timer.started })
      unfold State.overdrawExpired
      split
      · rw [hca]
        simp
      · rfl
    | qualifyTimerExpiry | raiseMaxExpiry | confirmTimerExpiry | quietTimerExpiry | lowerWaitMaxExpiry
    | lowerMaxExpiry | gapTimerExpiry | restoreQualifyExpiry | unclaimedHoldExpiry | restoreTimerExpiry | peerStale
    | peerLost | muteTimerExpiry | statusReceived | noticeReceived | alarmReceived | duplicateAddress
    | lineActivityEnd | ownSlotStart | skipInterval | ownStatusComplete | ownNoticeComplete | ownAlarmComplete
    | echoMismatch | abortJudgedError | breakRelease | breakDetection | breakEnd | claimPositionStart
    | windowComplete | stuckLine =>
      obtain ⟨-, rfl⟩ := some_of_ite h
      simp
    | _ => cases he
  · obtain ⟨-, -, -, hca⟩ := body_input_frame hi h
    rw [hca]

/-- R63, R64: a round end raises the allowance in RUN alone and by no more than ramp_step. -/
theorem takeRoundEnd_allowance (s : State) :
    s.takeRoundEnd.ca.allowance = 0 ∨
      s.rsq.mode = .run ∧ s.takeRoundEnd.ca.allowance ≤ s.ca.allowance + s.cfs.settings.apportion.rampStep := by
  unfold State.takeRoundEnd
  simp only [withAlc_ca, caRound_eq]
  set v := s.withRsq
    { s.rsq with slotCounter := 0, roundCount := (s.rsq.roundCount + 1) % 65536, phase := .slot } with hv
  obtain ⟨-, -, -, -, -, ha, -⟩ := computed_spec v
    (roundAllowance v.cfs.settings.apportion.rampStep v.ca.allowance
      (v.formShare v.formCharge (v.formBudget v.judgeLine v.sourceVoltage)))
  have hmode : v.rsq.mode = s.rsq.mode := rfl
  rw [ha, hmode]
  split
  next hm => exact .inr ⟨hm, (roundAllowance_le _ _ _).2⟩
  next => exact .inl rfl

theorem enterRun_mode (s : State) : s.enterRun.rsq.mode = .run := rfl

@[simp] theorem takeRoundEnd_mode (s : State) : s.takeRoundEnd.rsq.mode = s.rsq.mode := by
  simp [State.takeRoundEnd]

/-- Settles O14: a round computation alone raises the allowance, and an event's end lowers it at most. -/
theorem allowanceRises : Obligations.AllowanceRises := by
  intro c s t h
  by_cases hround : c = .roundEnd ∨ c = .idleCountExpiry
  · have hends : endsEvent c = true := by rcases hround with rfl | rfl <;> rfl
    rw [exec_event hends] at h
    cases h
    cases hb : s.body c with
    | none =>
      rw [afterEvent_none hb]
      exact .inl le_rfl
    | some u =>
      rw [afterEvent_some hb, (finish_rounds u s).1]
      have hle := finishBut_allowance_le none u s
      have hu : u.ca.allowance = 0 ∨
          u.rsq.mode = .run ∧ u.ca.allowance ≤ s.ca.allowance + s.cfs.settings.apportion.rampStep := by
        rcases hround with rfl | rfl
        · obtain ⟨-, rfl⟩ := some_of_ite hb
          have hmode : s.roundEnds.rsq.mode = s.rsq.mode ∧ s.roundEnds.ca = s.takeRoundEnd.ca := by
            unfold State.roundEnds
            dsimp only
            split <;> simp
          rw [hmode.1, hmode.2]
          exact takeRoundEnd_allowance s
        · obtain ⟨-, rfl⟩ := some_of_ite hb
          simpa using takeRoundEnd_allowance (s.receiverTo .idle).enterRun
      rcases hu with hzero | ⟨hrun, hramp⟩
      · exact .inl (hle.trans (hzero.le.trans (Nat.zero_le _)))
      · exact .inr ⟨hround, hrun, hle.trans hramp⟩
  · refine .inl ((kept_allowance_le s.ca.allowance).exec (fun u hb => ?_) h le_rfl)
    exact (finishBut_allowance_le none u s).trans (body_allowance hb (not_or.1 hround)).le

/-! ### The front of the queue (O1) -/

/-- Settles O1. -/
theorem stepRunsFront : Obligations.StepRunsFront := by
  intro c rest s h
  rw [step, h]

/-! ### The state after a power-on reset (O3) -/

theorem lawsHold_reset : LawsHold State.reset := by
  refine ⟨⟨fun _ => rfl, Nat.zero_le _, by decide⟩, fun h => absurd h (by decide), fun _ k => by revert k; decide,
    fun k => by revert k; unfold Channel.Agrees; decide, by unfold ListKept; decide,
    ⟨by decide, by decide, fun _ h => by cases h⟩, by unfold OwnAbsent; decide, by unfold OutputsShown; decide,
    by unfold AttnShown; decide, by unfold FifosKept; decide, by unfold ModeKept; decide, ?_, fun _ => ?_⟩
  · exact ⟨by decide, by decide, by decide, by decide, by decide, by decide, by decide, rfl, by decide,
      fun _ h => by cases h⟩
  · exact ⟨rfl, rfl, rfl, rfl, by decide, rfl, rfl, rfl, rfl, rfl, rfl, by decide⟩

theorem polesKept_reset : PolesKept State.reset := by
  have hpole : ∀ x, State.reset.pole x = {} := fun x => by cases x <;> rfl
  refine ⟨fun x => ?_, fun h => absurd h (by decide), by decide, by decide, by decide, fun x => by cases x <;> decide, by decide,
    fun _ => rfl, fun _ => ⟨rfl, fun c _ => by cases c <;> decide⟩⟩
  simp [hpole]

theorem countsKept_reset : CountsKept State.reset := by
  refine ⟨fun x => by cases x <;> decide, by decide, by decide, by decide, by decide, by decide, by decide, by decide,
    by decide, by decide, by decide⟩

/-- Settles O3: each law of the literal state. -/
theorem resetMeetsLaws : Obligations.ResetMeetsLaws :=
  ⟨lawsHold_reset, judged_of_config rfl, polesKept_reset, countsKept_reset, settingsKept_default⟩

/-! ### The idle millisecond (O2) -/

theorem mem_dueIf (b : Bool) (c d : Instr) : c ∈ dueIf b d ↔ b = true ∧ c = d := by
  cases b <;> simp [dueIf]

theorem mem_tick_pending (s : State) (c : Instr) (h : s.pending = []) :
    c ∈ s.tick.pending ↔ c ∈ s.aged.due ∨ c ∈ s.breakDue := by
  have haged : s.aged.pending = [] := h
  simp [State.tick, haged]

/-- A command is due at a millisecond's end under its own condition. -/
theorem mem_due (s : State) (c : Instr) :
    c ∈ s.due ↔
      (s.latchesDue != 0) = true ∧ c = .latchStale s.latchesDue s.pins.line ∨ (∃ i, c ∈ s.inputDue i) ∨
        c ∈ s.poleDue .p ∨ c ∈ s.poleDue .n ∨ s.gapDue = true ∧ c = .gapTimerExpiry s.pins.line ∨
        s.restoreQualifyDue = true ∧ c = .restoreQualifyExpiry ∨ s.unclaimedDue = true ∧ c = .unclaimedHoldExpiry ∨
        s.demandHoldDue = true ∧ c = .demandHoldExpiry ∨ s.overdrawDue = true ∧ c = .overdrawTimerExpiry ∨
        s.restoreDue = true ∧ c = .restoreTimerExpiry ∨ (∃ a, c ∈ s.peerDue a) ∨
        (s.li.abortPending && s.hears && s.pins.line == .recessive) = true ∧ c = .abortJudgedError ∨
        s.muteDue = true ∧ c = .muteTimerExpiry ∨ s.idleCountDue = true ∧ c = .idleCountExpiry ∨
        s.linkIdleDue = true ∧ c = .idleTimerExpiry := by
  have hall : ∀ i : Fin 16, i ∈ sixteen := mem_sixteen
  simp [State.due, mem_dueIf, List.mem_flatMap, hall]

theorem debouncedChange_mem_due (s : State) (i : Fin 16) (a : Bool) (l : LineLevel) :
    .debouncedChange i a l ∈ s.due ↔
      s.iou.settling.getLsbD i.val = true ∧ a = (cell s.iou.inputs i).lastRaw ∧ l = s.pins.line := by
  rw [mem_due]
  simp only [State.inputDue, State.poleDue, State.peerDue, List.mem_append, mem_dueIf]
  simp

theorem peerStale_mem_due (s : State) (a : Fin 16) : .peerStale a ∈ s.due ↔ s.staleDue a = true := by
  rw [mem_due]
  simp [State.inputDue, State.poleDue, State.peerDue, List.mem_append, mem_dueIf]

theorem restoreTimerExpiry_mem_due (s : State) : .restoreTimerExpiry ∈ s.due ↔ s.restoreDue = true := by
  rw [mem_due]
  simp [State.inputDue, State.poleDue, State.peerDue, List.mem_append, mem_dueIf]

/-- What a break brings is due of a break alone. -/
theorem break_mem_due (s : State) :
    Instr.breakDetection [] ∉ s.due ∧ Instr.breakRelease ∉ s.due ∧ Instr.stuckLine ∉ s.due := by
  refine ⟨?_, ?_, ?_⟩ <;>
  · rw [mem_due]
    simp [State.inputDue, State.poleDue, State.peerDue, List.mem_append, mem_dueIf]

theorem mem_breakDue (s : State) (c : Instr) :
    c ∈ s.breakDue ↔
      (s.li.dominantRun < 20 ∧ s.li.stuck = false ∧
          (s.li.driver = .brk ∨ s.li.restarted = true ∧ s.rsq.mode ≠ .config ∧ s.pins.line = .dominant)) ∧
          c = .breakDetection [] ∨
        s.li.driver = .brk ∧ c = .breakRelease ∨
        (s.runCounts = true ∧ s.li.driver ≠ .brk ∧ s.li.stuck = false ∧
          257 ≤ s.li.dominantRun + s.station.bitRate.bitsPerMs) ∧ c = .stuckLine := by
  simp [State.breakDue, mem_dueIf, and_assoc]
  rfl

theorem runCounts_iff (s : State) :
    s.runCounts = true ↔
      s.pins.line = .dominant ∧
        (20 ≤ s.li.dominantRun ∨ s.li.restarted = true ∧ (s.li.stuck = true ∨ s.rsq.mode = .config)) := by
  simp only [State.runCounts, Bool.and_eq_true, Bool.or_eq_true, beq_iff_eq, decide_eq_true_eq]
  rfl

theorem pole_tick (s : State) (x : PoleId) : s.tick.pole x = (s.pole x).ticked := by
  cases x <;> rfl

theorem input_tick (s : State) (i : Fin 16) : cell s.tick.iou.inputs i = s.inputTicked i := by
  simp [State.tick, State.aged]

theorem settling_tick (s : State) (i : Fin 16) :
    s.tick.iou.settling.getLsbD i.val =
      (!s.iou.sampled.getLsbD i.val && (s.inputTicked i).settles s.cfs.settings.inputs.debounce) :=
  getLsbD_sixteen _ i

/-- An input that the millisecond samples has its contact as its last raw sample. -/
theorem inputTicked_lastRaw (s : State) (i : Fin 16) (h : s.iou.sampled.getLsbD i.val = false) :
    (s.inputTicked i).lastRaw = s.pins.contacts.getLsbD i.val := by
  unfold State.inputTicked Input.sampled
  rw [h]
  simp only [Bool.false_eq_true, if_false]
  split
  · assumption
  · rfl

theorem tick_li (s : State) : s.tick.li = { s.li with receiver := s.receiverTicked, dominantRun := s.runTicked } := rfl

theorem receiverTicked_eq (s : State) :
    s.receiverTicked =
      if s.li.receiver = .discard ∧ s.hears = true ∧ s.pins.line = .recessive then .idle else s.li.receiver := by
  have hdiscard : s.assembles = false ↔ s.li.receiver = .discard := by
    rw [← Bool.not_eq_true, assembles_iff]
    exact not_not
  unfold State.receiverTicked
  simp only [Bool.and_eq_true, Bool.not_eq_true', beq_iff_eq, hdiscard]
  exact ite_congr (propext (by tauto)) (fun _ => rfl) (fun _ => rfl)

theorem runTicked_eq (s : State) :
    s.runTicked =
      if s.pins.line = .dominant ∧
          (20 ≤ s.li.dominantRun ∨ s.li.restarted = true ∧ (s.li.stuck = true ∨ s.rsq.mode = .config)) then
        min (if s.li.stuck = true then 257 else 256) (s.li.dominantRun + s.station.bitRate.bitsPerMs)
      else s.li.dominantRun := by
  unfold State.runTicked
  simp only [runCounts_iff]
  rfl

/-- Settles O2: the state a millisecond leaves, read off field by field, and the commands due at its end. -/
theorem idleStepAges : Obligations.IdleStepAges := by
  intro s hq
  have hpend (c : Instr) : c ∈ s.tick.pending ↔ c ∈ s.aged.due ∨ c ∈ s.breakDue := mem_tick_pending s c hq
  obtain ⟨hdet, hrel, hstuck⟩ := break_mem_due s.aged
  refine ⟨s.tick, ?_, rfl, rfl, ?_, fun a => ?_, fun c => tick_latch s c, fun i => ?_, fun i => ?_, rfl, rfl, rfl, rfl, rfl,
    ?_, rfl, fun x => pole_tick s x, rfl, fun i a => ?_, ?_, ?_, ?_, fun a => ?_, ?_⟩
  · rw [step, hq]
  · rw [tick_li, receiverTicked_eq, runTicked_eq]
  · rw [tick_peer]
    rfl
  · rw [input_tick]
    unfold State.inputTicked Input.sampled
    split
    · rfl
    · split <;> simp_all [satInc]
  · rw [settling_tick, input_tick]
    cases hs : s.iou.sampled.getLsbD i.val with
    | true => simp
    | false =>
      rw [← inputTicked_lastRaw s i hs]
      simp [Input.settles]
  · show s.idleTicked = _
    unfold State.idleTicked
    simp [Figures.idleBits]
  · rw [hpend, debouncedChange_mem_due]
    have hbreak : Instr.debouncedChange i a s.pins.line ∉ s.breakDue := by simp [mem_breakDue]
    simp only [hbreak, or_false]
    show s.tick.iou.settling.getLsbD i.val = true ∧ a = (cell s.tick.iou.inputs i).lastRaw ∧ _ ↔ _
    rw [input_tick]
    refine and_congr_right fun hset => ?_
    rw [settling_tick, Bool.and_eq_true, Bool.not_eq_true'] at hset
    rw [inputTicked_lastRaw s i hset.1]
    exact and_iff_left rfl
  · rw [hpend, mem_breakDue]
    simp [hdet]
  · rw [hpend, mem_breakDue]
    simp [hrel]
  · rw [hpend, mem_breakDue, runCounts_iff]
    simp only [hstuck, false_or, reduceCtorEq, and_false, and_true, false_or]
    constructor
    · rintro ⟨⟨hl, hr⟩, hd, hs, hn⟩
      exact ⟨hd, hs, hl, by simpa [hs] using hr, hn⟩
    · rintro ⟨hd, hs, hl, hr, hn⟩
      exact ⟨⟨hl, by simpa [hs] using hr⟩, hd, hs, hn⟩
  · rw [hpend, peerStale_mem_due]
    have hbreak : Instr.peerStale a ∉ s.breakDue := by simp [mem_breakDue]
    simp only [hbreak, or_false]
    exact staleDue_iff s.aged a
  · rw [hpend, restoreTimerExpiry_mem_due]
    have hbreak : Instr.restoreTimerExpiry ∉ s.breakDue := by simp [mem_breakDue]
    simp only [hbreak, or_false]
    exact due_iff _ _

end Machine
end Sys2Proof

/-!
PROOFS. The ladder agrees with its flags, and the alarm list and the notice queue keep their bounds, through every
event, request and step (R29, R74, R75, R82, R128).
-/

namespace Sys2Proof
namespace Machine

/-! ### The ladder (R74, R75) -/

section Ladder

variable {s : State}

theorem ladderAgrees_request (h : LadderAgrees s) (k : Fin 8) : LadderAgrees (s.onChannel k Channel.request) :=
  ladderAgrees_onChannel h k _ (agrees_request (h k).1) (unused_iff _).1

theorem ladderAgrees_release (h : LadderAgrees s) (k : Fin 8) : LadderAgrees (s.onChannel k Channel.release) :=
  ladderAgrees_onChannel h k _ (agrees_release (h k).1) (unused_iff _).2.1

theorem ladderAgrees_inputRequest {k : Fin 8} {f : Channel → Channel} (h : LadderAgrees (s.onChannel k f)) :
    LadderAgrees (s.inputRequest k f) := by
  unfold State.inputRequest
  dsimp only
  split
  · exact h
  · exact (ladderAgrees_congr (by simp) (by simp)).2 h

theorem ladderAgrees_channelInput (h : LadderAgrees s) (k : Fin 8) (rising : Bool) :
    LadderAgrees (s.channelInput k rising) := by
  unfold State.channelInput
  split
  · exact h
  · refine ladderAgrees_inputRequest ?_
    split
    · exact ladderAgrees_request h k
    · exact ladderAgrees_release h k
  · split
    · exact ladderAgrees_inputRequest (ladderAgrees_request h k)
    · exact h

theorem ladderAgrees_channelAction (h : LadderAgrees s) (k : Fin 8) (a : ChannelAction) :
    LadderAgrees (s.channelAction k a) := by
  obtain ⟨-, -, hmask, hunmask, hshed⟩ := unused_iff (s.channel k)
  cases a with
  | request =>
    unfold State.channelAction State.requestChannel
    dsimp only
    split
    · exact h
    · exact ladderAgrees_request h k
  | release =>
    unfold State.channelAction State.releaseChannel
    dsimp only
    split
    · exact h
    · exact ladderAgrees_release h k
  | mask => exact ladderAgrees_onChannel h k _ (agrees_mask (h k).1) hmask
  | unmask => exact ladderAgrees_onChannel h k _ (agrees_unmask (h k).1) hunmask
  | shed => exact ladderAgrees_onChannel h k _ (agrees_shedOnRequest (h k).1) hshed
  | setLowest => exact (ladderAgrees_congr rfl rfl).2 h

theorem ladderAgrees_requestLevels (h : LadderAgrees s) : LadderAgrees s.requestLevels := by
  refine foldl_keeps LadderAgrees _ (fun t k ht => ?_) _ _ h
  split
  · exact ladderAgrees_inputRequest (ladderAgrees_request ht k)
  · exact ht

theorem ladderAgrees_restoreOne (h : LadderAgrees s) : LadderAgrees s.restoreOne := by
  unfold State.restoreOne
  split
  · rename_i k hk
    have hr : s.restorable k = true := List.find?_some hk
    have hstate : (s.channel k).state = .waiting ∨ (s.channel k).state = .shed := by
      simp only [State.restorable, Bool.and_eq_true, Bool.or_eq_true, beq_iff_eq] at hr
      exact hr.1.1.1
    have hon : LadderAgrees (s.onChannel k Channel.restored) :=
      ladderAgrees_onChannel h k _ (agrees_restored (h k).1 hstate) (by rcases hstate with e | e <;> simp [Channel.restored, e])
    dsimp only
    split
    · exact (ladderAgrees_congr rfl rfl).2 hon
    · exact hon
  · exact h

theorem caRound_sheds (v : State) (k : Fin 8) : Shedding (v.channel k) (v.caRound.channel k) := by
  rw [caRound_eq]
  have h := (follow_spec (v.compute.setAllowance (roundAllowance v.cfs.settings.apportion.rampStep v.ca.allowance
    (v.formShare v.formCharge (v.formBudget v.judgeLine v.sourceVoltage))))).1 k
  simpa [State.channel] using h

/-- Channels that are at most shed, over the same configuration, agree as before. -/
theorem ladderAgrees_of_sheds {t : State} (hcfs : t.cfs = s.cfs) (hsheds : ∀ k, Shedding (s.channel k) (t.channel k))
    (h : LadderAgrees s) : LadderAgrees t := by
  intro k
  obtain ⟨ha, hu⟩ := (hsheds k).agrees (h k).1
  exact ⟨ha, hu.trans (by rw [rating_congr hcfs k]; exact (h k).2)⟩

theorem ladderAgrees_takeRoundEnd (h : LadderAgrees s) : LadderAgrees s.takeRoundEnd :=
  ladderAgrees_of_sheds (by simp) (fun k => by
    have := caRound_sheds (s.withRsq
      { s.rsq with slotCounter := 0, roundCount := (s.rsq.roundCount + 1) % 65536, phase := .slot }) k
    simpa [State.takeRoundEnd, State.channel] using this) h

theorem ladderAgrees_finishBut {u : State} (skip : Option (Fin 8)) (old : State) (h : LadderAgrees u) :
    LadderAgrees (u.finishBut skip old) := by
  by_cases hm : u.rsq.mode = .config
  · obtain ⟨-, -, -, -, -, hll, -⟩ := finishBut_blocks skip u old
    rw [blocksEnd_of_config hm] at hll
    exact (ladderAgrees_congr (by rw [hll]) (by simp)).2 h
  · exact ladderAgrees_of_sheds (by simp) (currentEnd_finishBut skip old hm).sheds h

theorem ladderAgrees_deliver (h : LadderAgrees s) (i : Fin 16) (before : Debounced) (active : Bool) (n : Nat) :
    LadderAgrees (s.deliver i before active n) := by
  have hcongr {t : State} (hll : t.ll = s.ll) (hcfs : t.cfs = s.cfs) : LadderAgrees t :=
    (ladderAgrees_congr (by rw [hll]) hcfs).2 h
  unfold State.deliver
  dsimp only
  split
  · exact h
  · split
    · exact hcongr (by simp) (by simp)
    · exact h
  · split
    · exact hcongr (by simp) (by simp)
    · exact h
  · split
    · exact hcongr (by simp) (by simp)
    · exact h
  · split
    · exact hcongr (by simp) (by simp)
    · exact h
  · split
    · exact hcongr (by simp) (by simp)
    · exact h
  · exact ladderAgrees_channelInput h _ _

theorem ladderAgrees_changeInput (h : LadderAgrees s) (i : Fin 16) (active : Bool) : LadderAgrees (s.changeInput i active) := by
  unfold State.changeInput
  dsimp only
  have ht : ∀ x y, LadderAgrees (((s.withInput i x).withIou y).setTopics { inputs := true }) := fun x y =>
    (ladderAgrees_congr (by simp) (by simp)).2 h
  split
  · exact ht _ _
  · exact ladderAgrees_deliver (ht _ _) _ _ _ _

theorem ladderAgrees_sampleInput (h : LadderAgrees s) (i : Fin 16) (active : Bool) : LadderAgrees (s.sampleInput i active) := by
  unfold State.sampleInput State.takeSample
  dsimp only
  split
  · exact (ladderAgrees_congr (by simp) (by simp)).2 h
  · split
    · exact ladderAgrees_changeInput ((ladderAgrees_congr (by simp) (by simp)).2 h) _ _
    · exact (ladderAgrees_congr (by simp) (by simp)).2 h

theorem body_ladderAgrees {c : Instr} {u : State} (hb : s.body c = some u) (h : LadderAgrees s) : LadderAgrees u := by
  have hcongr {t : State} (hll : t.ll = s.ll) (hcfs : t.cfs = s.cfs) : LadderAgrees t :=
    (ladderAgrees_congr (by rw [hll]) hcfs).2 h
  cases c with
  | debouncedChange i a l =>
    obtain ⟨-, rfl⟩ := some_of_ite hb
    exact ladderAgrees_changeInput (hcongr (by simp) (by simp)) i a
  | inputSample i a =>
    cases hb
    exact ladderAgrees_sampleInput h i a
  | overdrawTimerExpiry =>
    obtain ⟨-, rfl⟩ := some_of_ite hb
    unfold State.overdrawExpired
    split
    · exact (overdrawShed_onlySheds _).ladderAgrees (hcongr rfl rfl)
    · exact h
  | restoreTimerExpiry =>
    obtain ⟨-, rfl⟩ := some_of_ite hb
    unfold State.restoreExpired
    split
    · exact ladderAgrees_restoreOne ((ladderAgrees_congr rfl rfl).2 h)
    · exact h
  | idleCountExpiry =>
    obtain ⟨-, rfl⟩ := some_of_ite hb
    exact ladderAgrees_takeRoundEnd (hcongr (by simp) (by simp))
  | roundEnd =>
    obtain ⟨-, rfl⟩ := some_of_ite hb
    unfold State.roundEnds
    dsimp only
    split
    · exact (ladderAgrees_congr (s := s.takeRoundEnd) (by simp) (by simp)).2 (ladderAgrees_takeRoundEnd h)
    · exact ladderAgrees_takeRoundEnd h
  | latchStale m l =>
    cases hb
    refine latchFold_keeps LadderAgrees m (fun t c ht => ?_) _ (hcongr (by simp) (by simp))
    exact (ladderAgrees_congr (by simp) (by simp)).2 ht
  | sampleWord | breakAssert =>
    cases hb
    exact hcongr (by simp) (by simp)
  | receiveError chars ending =>
    simp only [State.body] at hb
    split at hb
    · cases hb
      exact hcongr (by simp) (by simp)
    · split at hb
      · cases hb
        exact hcongr (by simp) (by simp)
      · cases hb
  | qualifyTimerExpiry | raiseMaxExpiry | confirmTimerExpiry | quietTimerExpiry | lowerWaitMaxExpiry | lowerMaxExpiry
  | gapTimerExpiry | restoreQualifyExpiry | unclaimedHoldExpiry | demandHoldExpiry | peerStale | peerLost
  | muteTimerExpiry | statusReceived | noticeReceived | alarmReceived | duplicateAddress | lineActivityEnd
  | ownSlotStart | skipInterval | ownStatusComplete | ownNoticeComplete | ownAlarmComplete | echoMismatch
  | abortJudgedError | breakRelease | breakDetection | breakEnd | claimPositionStart | windowComplete | stuckLine =>
    obtain ⟨-, rfl⟩ := some_of_ite hb
    exact hcongr (by simp) (by simp)
  | _ => cases hb

theorem ladderAgrees_restarted (c : ConfigStore) (high : Bool) (s : State) : LadderAgrees (s.restarted c high) := by
  intro k
  have hk : (s.restarted c high).channel k = freshChannel (cell c.settings.channels k).rating := by
    simp [State.channel, State.restarted]
  rw [hk]
  refine ⟨agrees_freshChannel _, ?_⟩
  show (freshChannel _).state = .unused ↔ (cell c.settings.channels k).rating = 0
  unfold freshChannel
  dsimp only
  split <;> simp_all

end Ladder

end Machine
end Sys2Proof

/-!
PROOFS. The alarm list and the notice queue keep their bounds through every event, request and step (R29, R128 to R130).
-/

namespace Sys2Proof
namespace Machine

/-! ### The notices an operation of the rounds leaves as they are -/

section Notices

variable (s : State)

@[simp] theorem passSlot_notices (a : Nat) :
    (s.passSlot a).rsq.queue = s.rsq.queue ∧ (s.passSlot a).rsq.holding = s.rsq.holding := ⟨rfl, rfl⟩

@[simp] theorem countResync_notices (a : Nat) :
    (s.countResync a).rsq.queue = s.rsq.queue ∧ (s.countResync a).rsq.holding = s.rsq.holding := by
  unfold State.countResync
  split <;> exact ⟨rfl, rfl⟩

@[simp] theorem enterRun_notices : s.enterRun.rsq.queue = s.rsq.queue ∧ s.enterRun.rsq.holding = s.rsq.holding := ⟨rfl, rfl⟩

@[simp] theorem followFrame_notices (a : Fin 16) :
    (s.followFrame a).rsq.queue = s.rsq.queue ∧ (s.followFrame a).rsq.holding = s.rsq.holding := by
  unfold State.followFrame
  split
  · exact ⟨rfl, rfl⟩
  · split <;> exact ⟨rfl, rfl⟩
  · split <;> simp
  · split <;> simp

@[simp] theorem followDuplicate_notices (b : FrameBody) (was : Mode) :
    (s.followDuplicate b was).rsq.queue = s.rsq.queue ∧ (s.followDuplicate b was).rsq.holding = s.rsq.holding := by
  unfold State.followDuplicate
  dsimp only
  by_cases hw : s.rsq.phase = .window
  · rw [if_pos hw]
    exact ⟨rfl, rfl⟩
  · rw [if_neg hw]
    cases b with
    | alarm =>
      simp only [Bool.false_eq_true, if_false]
      split <;> exact ⟨rfl, rfl⟩
    | status | notice =>
      simp only [if_true]
      split <;> simp

@[simp] theorem claimHeard_alarms : s.claimHeard.alarms = s.alarms := by
  unfold State.claimHeard
  split <;> rfl

@[simp] theorem receiverTo_notices (r : ReceiverState) :
    (s.receiverTo r).rsq.queue = s.rsq.queue ∧ (s.receiverTo r).rsq.holding = s.rsq.holding := ⟨rfl, rfl⟩

@[simp] theorem frameDone_notices : s.frameDone.rsq.queue = s.rsq.queue ∧ s.frameDone.rsq.holding = s.rsq.holding := ⟨rfl, rfl⟩

@[simp] theorem hearError_notices (chars : List Byte) (ending : RunEnding) :
    (s.hearError chars ending).rsq.queue = s.rsq.queue ∧ (s.hearError chars ending).rsq.holding = s.rsq.holding := by
  unfold State.hearError
  dsimp only
  split
  · simp
  · split
    · simp
    · simp
    · split <;> simp
    · exact ⟨rfl, rfl⟩

@[simp] theorem hearDuplicate_notices (b : FrameBody) :
    (s.hearDuplicate b).rsq.queue = s.rsq.queue ∧ (s.hearDuplicate b).rsq.holding = s.rsq.holding := by
  unfold State.hearDuplicate
  dsimp only
  have hu : ∀ t : State, t.rsq.queue = s.rsq.queue ∧ t.rsq.holding = s.rsq.holding →
      (t.receiverTo .idle).claimHeard.rsq.queue = s.rsq.queue ∧
        (t.receiverTo .idle).claimHeard.rsq.holding = s.rsq.holding := fun t ht => by simpa using ht
  have ht : (if s.rsq.muteCause = .duplicate then s else s.muteDuplicate.followDuplicate b s.rsq.mode).rsq.queue =
        s.rsq.queue ∧
      (if s.rsq.muteCause = .duplicate then s else s.muteDuplicate.followDuplicate b s.rsq.mode).rsq.holding =
        s.rsq.holding := by
    split
    · exact ⟨rfl, rfl⟩
    · simp [State.muteDuplicate]
  cases b with
  | alarm => exact hu _ ht
  | status | notice => simpa using ht

@[simp] theorem takeRoundEnd_notices :
    s.takeRoundEnd.rsq.queue = s.rsq.queue ∧ s.takeRoundEnd.rsq.holding = s.rsq.holding := by
  simp [State.takeRoundEnd]

@[simp] theorem takeRoundEnd_alarms : s.takeRoundEnd.alarms = s.alarms := by
  simp [State.takeRoundEnd, State.alarms]

@[simp] theorem roundEnds_alarms : s.roundEnds.alarms = s.alarms := by
  have h := takeRoundEnd_alarms s
  unfold State.roundEnds
  dsimp only
  split
  · simpa only [State.alarms, withRsq_alc] using h
  · exact h

@[simp] theorem roundEnds_notices : s.roundEnds.rsq.queue = s.rsq.queue ∧ s.roundEnds.rsq.holding = s.rsq.holding := by
  unfold State.roundEnds
  dsimp only
  split <;> simp

@[simp] theorem judgeAbort_notices : s.judgeAbort.rsq.queue = s.rsq.queue ∧ s.judgeAbort.rsq.holding = s.rsq.holding := by
  unfold State.judgeAbort
  dsimp only
  split <;> simp [State.muteTxErrors]

@[simp] theorem muteExpired_notices : s.muteExpired.rsq.queue = s.rsq.queue ∧ s.muteExpired.rsq.holding = s.rsq.holding := by
  unfold State.muteExpired
  dsimp only
  split <;> exact ⟨rfl, rfl⟩

@[simp] theorem compareEcho_notices (i : Nat) (r : BitVec 10) :
    (s.compareEcho i r).rsq.queue = s.rsq.queue ∧ (s.compareEcho i r).rsq.holding = s.rsq.holding := by
  unfold State.compareEcho
  split
  · exact ⟨rfl, rfl⟩
  · split <;> simp

@[simp] theorem dominantFor_notices (n : Nat) :
    (s.dominantFor n).rsq.queue = s.rsq.queue ∧ (s.dominantFor n).rsq.holding = s.rsq.holding := by
  simp [State.dominantFor]

@[simp] theorem detectBreak_notices (chars : List Byte) :
    (s.detectBreak chars).rsq.queue = s.rsq.queue ∧ (s.detectBreak chars).rsq.holding = s.rsq.holding := by
  unfold State.detectBreak State.breakFound
  dsimp only
  split
  · simp
  · split <;> simp

@[simp] theorem presentClaim_notices (p : Fin 16) :
    (s.presentClaim p).rsq.queue = s.rsq.queue ∧ (s.presentClaim p).rsq.holding = s.rsq.holding := by
  unfold State.presentClaim
  dsimp only
  split <;> exact ⟨rfl, rfl⟩

@[simp] theorem endBreak_notices : s.endBreak.rsq.queue = s.rsq.queue ∧ s.endBreak.rsq.holding = s.rsq.holding := by
  unfold State.endBreak State.beginWindow
  dsimp only
  split <;> simp

@[simp] theorem endWindow_notices : s.endWindow.rsq.queue = s.rsq.queue ∧ s.endWindow.rsq.holding = s.rsq.holding := by
  unfold State.endWindow
  dsimp only
  split <;> simp

@[simp] theorem stickLine_notices : s.stickLine.rsq.queue = s.rsq.queue ∧ s.stickLine.rsq.holding = s.rsq.holding := by
  simp [State.stickLine]

@[simp] theorem ownStatusSent_notices :
    s.ownStatusSent.rsq.queue = s.rsq.queue ∧ s.ownStatusSent.rsq.holding = s.rsq.holding := ⟨rfl, rfl⟩

@[simp] theorem ownAlarmSent_notices :
    s.ownAlarmSent.rsq.queue = s.rsq.queue ∧ s.ownAlarmSent.rsq.holding = s.rsq.holding := by
  simp [State.ownAlarmSent]

end Notices

/-! ### The two bounds together -/

/-- The alarm list and the notice queue are within their bounds. -/
def BoundsKept (s : State) : Prop := ListKept s ∧ QueueKept s

section Bounds

variable {s t : State}

theorem listKept_of_alarms (h : t.alarms = s.alarms) (hs : ListKept s) : ListKept t := by
  rw [listKept_iff, h]
  exact hs

theorem queueKept_of_notices (h : t.rsq.queue = s.rsq.queue ∧ t.rsq.holding = s.rsq.holding) (hs : QueueKept s) :
    QueueKept t := by
  unfold QueueKept
  rw [h.1, h.2]
  exact hs

theorem queueKept_of_rsq (h : t.rsq = s.rsq) (hs : QueueKept s) : QueueKept t := queueKept_of_notices (by simp [h]) hs

theorem BoundsKept.same (h : BoundsKept s) (ha : t.alarms = s.alarms)
    (hn : t.rsq.queue = s.rsq.queue ∧ t.rsq.holding = s.rsq.holding) : BoundsKept t :=
  ⟨listKept_of_alarms ha h.1, queueKept_of_notices hn h.2⟩

theorem alarms_congr (h : t.alc = s.alc) : t.alarms = s.alarms := congrArg AlarmController.entries h

theorem notices_congr (h : t.rsq = s.rsq) : t.rsq.queue = s.rsq.queue ∧ t.rsq.holding = s.rsq.holding := by simp [h]

/-- The list changed within its bound, the notices left. -/
theorem BoundsKept.list (h : BoundsKept s) (hl : ListKept t) (hn : t.rsq = s.rsq) : BoundsKept t :=
  ⟨hl, queueKept_of_rsq hn h.2⟩

theorem boundsKept_raiseOwn (h : BoundsKept s) (c : Cause) (d : Option SensorDetail) : BoundsKept (s.raiseOwn c d) :=
  h.list (listKept_raiseOwn h.1 c d) (by simp)

theorem boundsKept_placeInternal (h : BoundsKept s) (n : Notice) : BoundsKept (s.placeInternal n) :=
  ⟨listKept_of_alarms (alarms_congr (by simp)) h.1, queueKept_placeInternal h.2 n⟩

theorem boundsKept_clearOwn (h : BoundsKept s) (c : Cause) : BoundsKept (s.clearOwn c) :=
  boundsKept_placeInternal (h.list (listKept_filter h.1 _) rfl) _

theorem boundsKept_drop (h : BoundsKept s) (x : PoleId) : BoundsKept (s.drop x) :=
  boundsKept_raiseOwn (s := (s.withPole x { s.pole x with drops := satInc 255 (s.pole x).drops }).lower x)
    (h.same rfl ⟨rfl, rfl⟩) _ _

theorem boundsKept_judgeElevation (h : BoundsKept s) (x : PoleId) (e : Nat) : BoundsKept (s.judgeElevation x e) := by
  have hsame {t : State} (halc : t.alc = s.alc) (hrsq : t.rsq = s.rsq) : BoundsKept t :=
    h.same (alarms_congr halc) (notices_congr hrsq)
  unfold State.judgeElevation
  dsimp only
  split
  · split
    · split <;> exact hsame (by simp) (by simp)
    · exact h
  · exact h
  · exact hsame (by simp) (by simp)
  · split
    · exact boundsKept_drop h x
    · split <;> exact hsame (by simp) (by simp)
  · split
    · exact boundsKept_drop h x
    · split
      · exact hsame (by simp) (by simp)
      · split <;> exact hsame (by simp) (by simp)
  · split
    · exact boundsKept_drop h x
    · split
      · split <;> exact hsame (by simp) (by simp)
      · split <;> exact hsame (by simp) (by simp)
  · exact h
  · exact h

theorem boundsKept_elevArrival (h : BoundsKept s) (x : PoleId) (e : Nat) : BoundsKept (s.elevArrival x e) := by
  have hsettle : BoundsKept (s.settle x) := h.same (alarms_congr (by simp)) (notices_congr (by simp))
  have hjudge := boundsKept_judgeElevation hsettle x e
  exact hjudge.same rfl ⟨rfl, rfl⟩

theorem boundsKept_poleArrival (h : BoundsKept s) (c : Fin 8) : BoundsKept (s.poleArrival c) := by
  have hsame {t : State} (halc : t.alc = s.alc) (hrsq : t.rsq = s.rsq) : BoundsKept t :=
    h.same (alarms_congr halc) (notices_congr hrsq)
  unfold State.poleArrival
  dsimp only
  split
  · exact h
  · split
    · exact hsame (by simp) (by simp)
    · split
      · exact boundsKept_elevArrival h _ _
      · exact h
    · split
      · exact boundsKept_elevArrival h _ _
      · exact h
    · split <;> exact hsame (by simp) (by simp)
    · split <;> exact hsame (by simp) (by simp)
    · exact h

theorem boundsKept_applyNotice (h : BoundsKept s) (a : Fin 16) (n : Notice) : BoundsKept (s.applyNotice a n) := by
  cases n with
  | ack src c => exact h.list (listKept_ackOne h.1 src c) rfl
  | ackAll => exact h.list (listKept_ackAll h.1) rfl
  | clear c => exact h.list (listKept_clearFrom h.1 a c) (by simp [State.applyNotice])
  | clearLost => exact h.list (listKept_clearLost h.1) rfl
  | command act ps => exact h.same (alarms_congr (by simp [State.applyNotice])) (notices_congr (by simp [State.applyNotice]))

theorem boundsKept_deliver (h : BoundsKept s) (i : Fin 16) (before : Debounced) (active : Bool) (n : Nat) :
    BoundsKept (s.deliver i before active n) := by
  have hsame {v t : State} (hv : BoundsKept v) (halc : t.alc = v.alc) (hrsq : t.rsq = v.rsq) : BoundsKept t :=
    hv.same (alarms_congr halc) (notices_congr hrsq)
  unfold State.deliver
  dsimp only
  split
  · exact h
  · split
    · exact hsame h (by simp) (by simp)
    · exact h
  · split
    · exact boundsKept_placeInternal h _
    · exact h
  · split
    · exact boundsKept_raiseOwn h _ _
    · exact h
  · split
    · exact hsame (boundsKept_placeInternal h (.command .raise .both)) (by simp) (by simp)
    · exact h
  · split
    · exact hsame (boundsKept_placeInternal h (.command .lower .both)) (by simp) (by simp)
    · exact h
  · exact hsame h (by simp) (by simp)

theorem boundsKept_changeInput (h : BoundsKept s) (i : Fin 16) (active : Bool) : BoundsKept (s.changeInput i active) := by
  unfold State.changeInput
  dsimp only
  have ht : ∀ x y, BoundsKept (((s.withInput i x).withIou y).setTopics { inputs := true }) := fun x y =>
    h.same (alarms_congr (by simp)) (notices_congr (by simp))
  split
  · exact ht _ _
  · exact boundsKept_deliver (ht _ _) _ _ _ _

theorem boundsKept_sampleInput (h : BoundsKept s) (i : Fin 16) (active : Bool) : BoundsKept (s.sampleInput i active) := by
  unfold State.sampleInput State.takeSample
  dsimp only
  split
  · exact h.same (alarms_congr (by simp)) (notices_congr (by simp))
  · split
    · exact boundsKept_changeInput (h.same (alarms_congr (by simp)) (notices_congr (by simp))) _ _
    · exact h.same (alarms_congr (by simp)) (notices_congr (by simp))

theorem boundsKept_retireHead (h : BoundsKept s) : BoundsKept s.retireHead := by
  refine ⟨listKept_of_alarms rfl h.1, ?_⟩
  by_cases hq : s.rsq.queue = []
  · refine ⟨?_, ?_, by simp [State.retireHead]⟩
    · cases hh : s.rsq.holding <;> simp [State.retireHead, hq, hh, Figures.queueCapacity]
    · cases hh : s.rsq.holding <;> simp [State.retireHead, hq, hh]
  · exact queueKept_retireHead h.2 (.inl hq)

/-! ### The end of an event -/

theorem boundsKept_iteClearOwn {p : Prop} [Decidable p] (h : BoundsKept s) (c : Cause) :
    BoundsKept (if p then s.clearOwn c else s) := by
  split
  · exact boundsKept_clearOwn h c
  · exact h

theorem boundsKept_polesEnd (h : BoundsKept s) (old : State) : BoundsKept (s.polesEnd old) := by
  by_cases hp : s.role = .pole ∧ s.ps.supervising = true
  · rw [polesEnd_of_supervising hp.1 hp.2]
    have hplaced : BoundsKept (s.polesPlaced old) := h.same (alarms_congr (by simp)) (notices_congr (by simp))
    have hlisted : BoundsKept ((s.polesPlaced old).polesListed old) :=
      polesListed_keeps (P := BoundsKept) (fun _ _ _ ht => boundsKept_raiseOwn ht _ _) (fun _ _ ht => boundsKept_clearOwn ht _) hplaced old
    exact hlisted.same (alarms_congr (by simp)) (notices_congr (by simp))
  · rw [polesEnd_of_not hp]
    exact h

theorem boundsKept_reviewed (h : BoundsKept s) (old : State) : BoundsKept (s.reviewed old) := by
  exact boundsKept_iteClearOwn (boundsKept_polesEnd h old) _

theorem boundsKept_finishBut (skip : Option (Fin 8)) (h : BoundsKept s) (old : State) : BoundsKept (s.finishBut skip old) := by
  obtain ⟨-, hrsq, -, halc, -⟩ := finishBut_blocks skip s old
  by_cases hm : s.rsq.mode = .config
  · rw [blocksEnd_of_config hm] at hrsq halc
    exact h.same (alarms_congr halc) (notices_congr hrsq)
  · rw [blocksEnd_of_joined hm] at hrsq halc
    exact (boundsKept_reviewed h old).same (alarms_congr (by rw [halc]; simp)) (notices_congr (by rw [hrsq]; simp))

/-! ### Events, requests and steps -/

theorem body_boundsKept {c : Instr} {u : State} (hb : s.body c = some u) (h : BoundsKept s) : BoundsKept u := by
  have hsame {t : State} (halc : t.alc = s.alc) (hn : t.rsq.queue = s.rsq.queue ∧ t.rsq.holding = s.rsq.holding) :
      BoundsKept t := h.same (alarms_congr halc) hn
  cases c with
  | debouncedChange i a l =>
    obtain ⟨-, rfl⟩ := some_of_ite hb
    exact boundsKept_changeInput (hsame (by simp) (by simp)) i a
  | inputSample i a =>
    cases hb
    exact boundsKept_sampleInput h i a
  | sampleWord w l =>
    cases hb
    exact boundsKept_poleArrival (hsame (by simp) (by simp)) _
  | latchStale m l =>
    cases hb
    exact latchFold_keeps BoundsKept m (fun t c ht => ht.same (alarms_congr (by simp)) (notices_congr (by simp))) _
      (hsame (by simp) (by simp))
  | breakAssert =>
    cases hb
    exact hsame (by simp) (by simp)
  | confirmTimerExpiry x l =>
    obtain ⟨-, rfl⟩ := some_of_ite hb
    have hl : BoundsKept (s.sense l) := hsame (by simp) (by simp)
    unfold State.confirmExpired
    dsimp only
    split
    · exact boundsKept_drop hl x
    · exact hl
  | gapTimerExpiry l =>
    obtain ⟨-, rfl⟩ := some_of_ite hb
    have hl : BoundsKept (s.sense l) := hsame (by simp) (by simp)
    unfold State.gapExpired
    split
    · refine boundsKept_raiseOwn ?_ _ _
      exact hl.same rfl ⟨rfl, rfl⟩
    · exact hl
  | restoreQualifyExpiry =>
    obtain ⟨-, rfl⟩ := some_of_ite hb
    unfold State.restoreQualifyExpired
    dsimp only
    split
    · split
      · refine boundsKept_clearOwn ?_ _
        exact hsame rfl ⟨rfl, rfl⟩
      · exact hsame rfl ⟨rfl, rfl⟩
    · exact h
  | unclaimedHoldExpiry =>
    obtain ⟨-, rfl⟩ := some_of_ite hb
    exact (h.list (listKept_filter h.1 _) rfl).same rfl ⟨rfl, rfl⟩
  | statusReceived a b =>
    obtain ⟨-, rfl⟩ := some_of_ite hb
    have hf : BoundsKept (((s.followFrame a).receiverTo .idle).fileStatus a b) := hsame (by simp) (by simp)
    exact hf.list (listKept_compareCauses hf.1 a b.causes) (by simp [State.hearStatus])
  | noticeReceived a b =>
    obtain ⟨-, rfl⟩ := some_of_ite hb
    have hf : BoundsKept (((s.followFrame a).receiverTo .idle).refreshPeer a) := hsame (by simp) (by simp)
    unfold State.hearNotice
    dsimp only
    split
    · exact boundsKept_applyNotice hf a _
    · exact hf
  | alarmReceived a b =>
    obtain ⟨-, rfl⟩ := some_of_ite hb
    have hf : BoundsKept ((s.receiverTo .idle).restartIdle.claimHeard) :=
      h.same ((claimHeard_alarms _).trans (alarms_congr (by simp))) (by simp)
    exact hf.list (listKept_learnAlarms hf.1 a _ _) (by simp [State.hearAlarm])
  | duplicateAddress b =>
    obtain ⟨-, rfl⟩ := some_of_ite hb
    refine h.same ?_ (hearDuplicate_notices s b)
    have ht : (if s.rsq.muteCause = .duplicate then s else s.muteDuplicate.followDuplicate b s.rsq.mode).alarms = s.alarms := by
      split
      · rfl
      · exact alarms_congr (by simp)
    have hu : ∀ t : State, t.alarms = s.alarms → (t.receiverTo .idle).alarms = s.alarms :=
      fun t h => (alarms_congr (by simp)).trans h
    unfold State.hearDuplicate
    dsimp only
    split
    · exact (claimHeard_alarms _).trans (hu _ ht)
    · exact hu _ ht
  | ownNoticeComplete =>
    obtain ⟨-, rfl⟩ := some_of_ite hb
    have hretired : BoundsKept s.frameDone.retireHead := boundsKept_retireHead (hsame (by simp) (by simp))
    have hpassed : BoundsKept
        ((s.frameDone.retireHead.withRsq { s.frameDone.retireHead.rsq with lastOwnSlot := .notice }).passSlot s.own.val) :=
      hretired.same rfl ⟨rfl, rfl⟩
    unfold State.ownNoticeSent
    dsimp only
    split
    · exact boundsKept_applyNotice hpassed _ _
    · exact hpassed
  | ownAlarmComplete =>
    obtain ⟨-, rfl⟩ := some_of_ite hb
    have hdone : BoundsKept s.frameDone := hsame (by simp) (by simp)
    unfold State.ownAlarmSent
    dsimp only
    refine ⟨listKept_of_alarms (claimHeard_alarms _) (listKept_announce hdone.1 _), queueKept_of_rsq ?_ hdone.2⟩
    simp
  | breakDetection chars =>
    obtain ⟨-, rfl⟩ := some_of_ite hb
    refine h.same ?_ (by simp)
    unfold State.detectBreak State.breakFound
    dsimp only
    split
    · exact alarms_congr (by simp)
    · split <;> simp [State.alarms]
  | breakEnd =>
    obtain ⟨-, rfl⟩ := some_of_ite hb
    refine h.same ?_ (by simp)
    unfold State.endBreak State.beginWindow
    dsimp only
    split
    · exact alarms_congr (by simp)
    · simp [State.alarms]
  | windowComplete =>
    obtain ⟨-, rfl⟩ := some_of_ite hb
    refine ⟨?_, queueKept_of_notices (by simp) h.2⟩
    unfold State.endWindow
    dsimp only
    split
    · exact listKept_of_alarms rfl h.1
    · exact listKept_of_alarms rfl (listKept_unclaimedWindow (listKept_of_alarms rfl h.1))
  | idleCountExpiry =>
    obtain ⟨-, rfl⟩ := some_of_ite hb
    exact h.same ((takeRoundEnd_alarms _).trans (alarms_congr (by simp))) (by simp)
  | roundEnd =>
    obtain ⟨-, rfl⟩ := some_of_ite hb
    exact h.same (roundEnds_alarms s) (by simp)
  | receiveError chars ending =>
    simp only [State.body] at hb
    split at hb
    · cases hb
      exact hsame (by simp) (by simp)
    · split at hb
      · cases hb
        exact hsame (by simp) (by simp)
      · cases hb
  | qualifyTimerExpiry | raiseMaxExpiry | quietTimerExpiry | lowerWaitMaxExpiry | lowerMaxExpiry | demandHoldExpiry
  | overdrawTimerExpiry | restoreTimerExpiry | peerStale | peerLost | muteTimerExpiry | lineActivityEnd | ownSlotStart
  | skipInterval | ownStatusComplete | echoMismatch | abortJudgedError | breakRelease | claimPositionStart | stuckLine =>
    obtain ⟨-, rfl⟩ := some_of_ite hb
    exact hsame (by simp) (by simp)
  | _ => cases hb

@[simp] theorem writeConfig_frame (record : Nat) (vs : List Nat) (s : State) :
    (s.writeConfig record vs).pending = s.pending ∧ (s.writeConfig record vs).rsq = s.rsq ∧
      (s.writeConfig record vs).pt = s.pt ∧ (s.writeConfig record vs).ps = s.ps ∧
      (s.writeConfig record vs).alc = s.alc ∧ (s.writeConfig record vs).ca = s.ca ∧
      (s.writeConfig record vs).sl = s.sl ∧ (s.writeConfig record vs).pins = s.pins := by
  unfold State.writeConfig rewriteChannel
  dsimp only
  split <;> split <;> split <;> simp

theorem boundsKept_requestLevels (h : BoundsKept s) : BoundsKept s.requestLevels :=
  h.same (alarms_congr (by simp)) (notices_congr (by simp))

/-- A JOIN before its stop entry, its channels and its restore timer: the mode, the count and the receiver. -/
def State.joinBegun (s : State) : State :=
  let a := s.withCfs { s.cfs with valid := true }
  let b := a.withRsq { a.rsq with mode := .listen, idleCount := some 0 }
  b.withLi (b.li.taking .discard [])

/-- A JOIN with its stop entry listed. -/
def State.joinListed (s : State) : State :=
  if s.joinBegun.activeStops = 0 then s.joinBegun else s.joinBegun.raiseOwn .deskStop none

/-- The restore timer started. -/
def State.restoreStarted (s : State) : State := s.withLl { s.ll with restoreTimer := Timer.started }

@[simp] theorem restoreStarted_frame (s : State) :
    s.restoreStarted.pending = s.pending ∧ s.restoreStarted.cfs = s.cfs ∧ s.restoreStarted.li = s.li ∧
      s.restoreStarted.rsq = s.rsq ∧ s.restoreStarted.pt = s.pt ∧ s.restoreStarted.ps = s.ps ∧
      s.restoreStarted.alc = s.alc ∧ s.restoreStarted.ca = s.ca ∧ s.restoreStarted.iou = s.iou ∧
      s.restoreStarted.sl = s.sl ∧ s.restoreStarted.pins = s.pins := by
  simp [State.restoreStarted]

/-- What a JOIN has left before its channels: the configuration valid, the mode, the receiver and at most a stop entry. -/
@[simp] theorem joinListed_frame (s : State) :
    s.joinListed.pending = s.pending ∧ s.joinListed.cfs = { s.cfs with valid := true } ∧
      s.joinListed.li = s.li.taking .discard [] ∧
      s.joinListed.rsq = { s.rsq with mode := .listen, idleCount := some 0 } ∧ s.joinListed.pt = s.pt ∧
      s.joinListed.ps = s.ps ∧ s.joinListed.ca = s.ca ∧ s.joinListed.ll = s.ll ∧ s.joinListed.iou = s.iou ∧
      s.joinListed.sl = s.sl ∧ s.joinListed.pins = s.pins := by
  unfold State.joinListed
  split <;> simp [State.joinBegun]

theorem join_eq (s : State) : s.join = s.joinListed.requestLevels.restoreStarted := by
  delta State.join State.joinListed State.joinBegun State.restoreStarted
  with_reducible rfl

theorem boundsKept_join (h : BoundsKept s) : BoundsKept s.join := by
  have hbegun : BoundsKept s.joinBegun := h.same rfl ⟨rfl, rfl⟩
  have hlisted : BoundsKept s.joinListed := by
    unfold State.joinListed
    split
    · exact hbegun
    · exact boundsKept_raiseOwn hbegun _ _
  rw [join_eq]
  exact (boundsKept_requestLevels hlisted).same (alarms_congr (by simp)) (notices_congr (by simp))

theorem boundsKept_restarted (c : ConfigStore) (high : Bool) (s : State) : BoundsKept (s.restarted c high) :=
  ⟨⟨Nat.zero_le _, List.nodup_nil⟩, Nat.zero_le _, List.nodup_nil, fun _ h => by cases h⟩

theorem boundsKept_effect {r : Request} (h : BoundsKept s) (hj : s.judge r = none) : BoundsKept (s.effect r) := by
  have hsame {t : State} (halc : t.alc = s.alc) (hrsq : t.rsq = s.rsq) : BoundsKept t :=
    h.same (alarms_congr halc) (notices_congr hrsq)
  cases r with
  | configWrite record items =>
    simp only [State.effect]
    split
    · exact h
    · exact boundsKept_finishBut none (hsame (by simp) (by simp)) s
  | join => exact boundsKept_finishBut none (boundsKept_join h) s
  | setDemand | setChannel | poleCommand => exact boundsKept_finishBut _ (hsame (by simp) (by simp)) s
  | reset => exact boundsKept_restarted _ _ s
  | readStation | readAlarms | readPoles | readChannels => exact h
  | readPeer | readIo | readChanges | setAttnMask | setOutput => exact hsame (by simp [State.effect]) (by simp [State.effect])
  | sendNotice n =>
    simp only [State.effect]
    split
    · exact h
    · rename_i hn
      obtain ⟨-, -, -, -, hobs⟩ := (judge_eq_none_iff _ _).1 hj
      refine ⟨listKept_of_alarms rfl h.1, queueKept_enqueueNotice h.2 (by simpa using hn) ?_⟩
      simpa [State.obstacle, hn] using hobs

theorem kept_bounds : Kept BoundsKept where
  link s x h := h.same rfl ⟨rfl, rfl⟩
  strap s high cts h := h.same rfl ⟨rfl, rfl⟩
  sense s l h := h.same (alarms_congr (by simp)) (by simp)
  brk s h := h.same (alarms_congr (by simp)) (notices_congr (by simp))
  effect s r h hj := boundsKept_effect h hj
  power s high _ := boundsKept_restarted _ _ s
  pin s high _ := boundsKept_restarted _ _ s
  sampleError s h := h.same rfl ⟨rfl, rfl⟩

theorem boundsKept_tick (h : BoundsKept s) : BoundsKept s.tick :=
  ⟨KeysKept.of_keys h.1 (tick_keys s), queueKept_of_notices ⟨rfl, rfl⟩ h.2⟩

theorem boundsKept_step (h : BoundsKept s) (ht : step s = .next t) : BoundsKept t :=
  kept_bounds.step (fun _ _ _ hs hb => boundsKept_finishBut none (body_boundsKept hb hs) _)
    (fun _ _ hs => hs.same rfl ⟨rfl, rfl⟩) (fun _ hs => boundsKept_tick hs) ht h

end Bounds

end Machine
end Sys2Proof

/-!
PROOFS. The outputs show their conditions, the FIFOs keep their places and ATTN shows the masked topics, through every
step (R174, R182, R188, R195).
-/

namespace Sys2Proof
namespace Machine

/-! ### Outputs (R174) -/

section Outputs

variable {s t : State}

/-- An output's condition is read from these items alone. -/
theorem outputCondition_congr (hg : t.iou.general = s.iou.general) (hcfs : t.cfs = s.cfs)
    (hk : ∀ k, (t.channel k).state = (s.channel k).state) (hp : ∀ x, (t.pole x).state = (s.pole x).state)
    (hm : t.rsq.mode = s.rsq.mode) (ha : t.alarms.map AlarmEntry.shown = s.alarms.map AlarmEntry.shown)
    (hu : t.alc.unlisted = s.alc.unlisted) (hgrant : t.ca.grant = s.ca.grant)
    (hline : t.ca.lineCondition = s.ca.lineCondition) (o : Fin 16) : t.outputCondition o = s.outputCondition o := by
  have hany (p : AlarmEntry → Bool) (hpe : ∀ e, p e.shown = p e) : t.alarms.any p = s.alarms.any p := by
    have := congrArg (fun l => List.any l p) ha
    simpa [List.any_map, Function.comp_def, hpe] using this
  have hstop : t.stopEffect = s.stopEffect := hany _ fun _ => rfl
  have hbuzz : t.buzzing = s.buzzing := hany _ fun _ => rfl
  have hempty : t.alarms.isEmpty = s.alarms.isEmpty := by
    have := congrArg List.isEmpty ha
    simpa using this
  have hfn : t.outputFn o = s.outputFn o := by simp [State.outputFn, hcfs]
  have hon (k : Fin 8) : t.isOn k = s.isOn k := by simp [State.isOn, hk]
  have hgr : t.grantEnabled = s.grantEnabled := by simp [State.grantEnabled, hm, hstop, hcfs, hgrant]
  unfold State.outputCondition
  rw [hfn, hg, role_congr hcfs, hgr, hempty, hu, hbuzz, hline]
  cases s.outputFn o <;> simp only [hon, hp]

theorem outputsShown_congr (hiou : t.iou.outputs = s.iou.outputs ∧ t.iou.general = s.iou.general) (hcfs : t.cfs = s.cfs)
    (hk : ∀ k, (t.channel k).state = (s.channel k).state) (hp : ∀ x, (t.pole x).state = (s.pole x).state)
    (hm : t.rsq.mode = s.rsq.mode) (ha : t.alarms.map AlarmEntry.shown = s.alarms.map AlarmEntry.shown)
    (hu : t.alc.unlisted = s.alc.unlisted) (hca : t.ca.grant = s.ca.grant ∧ t.ca.lineCondition = s.ca.lineCondition)
    (h : OutputsShown s) : OutputsShown t := by
  intro o
  rw [hiou.1, h o, outputCondition_congr hiou.2 hcfs hk hp hm ha hu hca.1 hca.2]

/-- What leaves the blocks behind the outputs alone leaves every output showing its condition. -/
theorem OutputsShown.same (h : OutputsShown s) (hiou : t.iou = s.iou) (hcfs : t.cfs = s.cfs) (hll : t.ll = s.ll)
    (hps : t.ps = s.ps) (hm : t.rsq.mode = s.rsq.mode) (halc : t.alc = s.alc) (hca : t.ca = s.ca) : OutputsShown t :=
  outputsShown_congr (by simp [hiou]) hcfs (by simp [State.channel, hll]) (by simp [State.pole, hps]) hm
    (by simp [State.alarms, halc]) (by simp [halc]) (by simp [hca]) h

theorem outputsShown_restarted (c : ConfigStore) (high : Bool) (s : State) : OutputsShown (s.restarted c high) := by
  intro o
  have hon (k : Fin 8) : (s.restarted c high).isOn k = false := by
    have hk : (s.restarted c high).channel k = freshChannel (cell c.settings.channels k).rating := by
      simp [State.channel, State.restarted]
    rw [State.isOn, hk]
    unfold freshChannel
    dsimp only
    split <;> rfl
  have hp (x : PoleId) : (s.restarted c high).pole x = {} := by cases x <;> rfl
  have hcond : (s.restarted c high).outputCondition o = false := by
    unfold State.outputCondition
    cases (s.restarted c high).outputFn o with
    | channel k => exact hon k
    | general => exact BitVec.getLsbD_zero
    | raisePole | lowerPole => simp [hp]
    | grantEnable => exact Bool.and_false _
    | alarmLamp | buzzer | lineLamp => rfl
  rw [hcond]
  exact BitVec.getLsbD_zero

theorem outputsShown_effect (r : Request) (h : OutputsShown s) : OutputsShown (s.effect r) := by
  cases r with
  | configWrite record items =>
    simp only [State.effect]
    split
    · exact h
    · exact (finishBut_shows none _ s).1
  | join | setDemand | setChannel | poleCommand => exact (finishBut_shows _ _ s).1
  | reset => exact outputsShown_restarted _ _ s
  | readStation | readAlarms | readPoles | readChannels => exact h
  | readPeer | readChanges | setAttnMask => apply h.same <;> simp [State.effect]
  | readIo => exact outputsShown_congr ⟨rfl, rfl⟩ rfl (fun _ => rfl) (fun _ => rfl) rfl rfl rfl ⟨rfl, rfl⟩ h
  | setOutput o on => exact outputsShown_driveOutputs _
  | sendNotice n =>
    simp only [State.effect]
    split
    · exact h
    · exact h.same rfl rfl rfl rfl rfl rfl rfl

theorem kept_outputsShown : Kept OutputsShown where
  link s x h := h.same rfl rfl rfl rfl rfl rfl rfl
  strap s high cts h := h.same rfl rfl rfl rfl rfl rfl rfl
  sense s l h := by apply h.same <;> simp
  brk s h := by apply h.same <;> simp
  effect s r h _ := outputsShown_effect r h
  power s high _ := outputsShown_restarted _ _ s
  pin s high _ := outputsShown_restarted _ _ s
  sampleError s h := outputsShown_congr ⟨rfl, rfl⟩ rfl (fun _ => rfl) (fun _ => rfl) rfl rfl rfl ⟨rfl, rfl⟩ h

theorem outputsShown_tick (h : OutputsShown s) : OutputsShown s.tick :=
  outputsShown_congr (s := s) ⟨rfl, rfl⟩ rfl (fun _ => rfl) (fun x => by rw [pole_tick]; rfl) rfl
    (by simp [tick_alarms, AlarmEntry.shown]) rfl ⟨rfl, rfl⟩ h

theorem outputsShown_step (h : OutputsShown s) (ht : step s = .next t) : OutputsShown t :=
  kept_outputsShown.step (fun _ _ _ _ _ => (finishBut_shows none _ _).1)
    (fun _ _ hs => hs.same rfl rfl rfl rfl rfl rfl rfl) (fun _ hs => outputsShown_tick hs) ht h

/-- R19: a pole is not RAISING and LOWERING at once, so its two outputs are not on together. -/
theorem raise_lower_exclusive (h : OutputsShown s) {o p : Fin 16} {x : PoleId} (ho : s.outputFn o = .raisePole x)
    (hp : s.outputFn p = .lowerPole x) :
    ¬(s.iou.outputs.getLsbD o.val = true ∧ s.iou.outputs.getLsbD p.val = true) := by
  rw [h o, h p, State.outputCondition, State.outputCondition, ho, hp]
  simp only [Bool.and_eq_true, beq_iff_eq]
  rintro ⟨⟨-, hraising⟩, -, hlowering⟩
  exact absurd (hraising.symm.trans hlowering) (by decide)

end Outputs

/-! ### Answers (R188) -/

@[simp] theorem length_twoBytes (n : Nat) : (twoBytes n).length = 2 := rfl

@[simp] theorem length_halfBytes (h : Half) : (halfBytes h).length = 2 := rfl

theorem length_flatten_twoBytes (l : List Nat) : ((l.map twoBytes).flatten).length = 2 * l.length := by
  induction l with
  | nil => rfl
  | cons n l ih => simp only [List.map_cons, List.flatten_cons, List.length_append, length_twoBytes, ih, List.length_cons]; omega

@[simp] theorem length_linkMessage (type : Byte) (payload : List Byte) :
    (linkMessage type payload).length = payload.length + 4 := by
  simp [linkMessage]

theorem length_stationRecord (s : State) : (stationRecord s).length = 35 := by
  unfold stationRecord
  cases s.ca.poleVoltage <;> simp

theorem length_alarmPage_le (i : Nat) (l : List AlarmEntry) : (alarmPage i l).length ≤ 8 := by
  simp [alarmPage, Figures.readAlarmsMax]

@[simp] theorem length_alarmRecord (e : AlarmEntry) : (alarmRecord e).length = 5 := by
  simp [alarmRecord]

theorem length_flatten_alarmRecord (l : List AlarmEntry) : ((l.map alarmRecord).flatten).length = 5 * l.length := by
  induction l with
  | nil => rfl
  | cons e l ih =>
    simp only [List.map_cons, List.flatten_cons, List.length_append, length_alarmRecord, ih, List.length_cons]
    omega

theorem length_alarmsRecord (i : Nat) (s : State) :
    (alarmsRecord i s).length = 3 + 5 * (alarmPage i s.alarms).length := by
  simp [alarmsRecord, ← length_flatten_alarmRecord]
  omega

theorem length_polesRecord (s : State) : (polesRecord s).length = 18 := by
  simp [polesRecord, poleRecord]

theorem length_channelRecord (k : Fin 8) (s : State) : (channelRecord k s).length = 3 := rfl

theorem length_channelsRecord (s : State) : (channelsRecord s).length = 25 := rfl

theorem length_ioRecord (s : State) : (ioRecord s).length = 42 := rfl

theorem length_statusBytes (b : StatusBody) : (bodyBytes (.status b)).length = 14 := by
  simp [bodyBytes]

theorem length_peerRecord (a : Fin 16) (r : Peer) : (peerRecord a r).length = 20 := by
  unfold peerRecord
  split <;> simp [length_statusBytes]

theorem length_recordItems_le (record : Nat) (c : Settings) : (recordItems record c).length ≤ 17 := by
  unfold recordItems
  split <;> simp

theorem length_configRecord_le (record : Byte) (s : State) : (configRecord record s).length ≤ 35 := by
  have := length_recordItems_le record.toNat s.cfs.settings
  simp only [configRecord, List.length_cons, length_flatten_twoBytes]
  omega

/-- R188: an answer fits the room asked for it. -/
theorem length_replyData_le (r : Request) (before after : State) : (replyData r before after).length ≤ 47 := by
  cases r with
  | configWrite => exact (length_configRecord_le _ _).trans (by decide)
  | readStation => exact (length_stationRecord before).le.trans (by decide)
  | readPeer => exact (length_peerRecord _ _).le.trans (by decide)
  | readAlarms i =>
    have := length_alarmPage_le i.toNat before.alarms
    simp only [replyData, length_alarmsRecord]
    omega
  | readPoles => exact (length_polesRecord before).le.trans (by decide)
  | readChannels => exact (length_channelsRecord before).le.trans (by decide)
  | readIo => exact (length_ioRecord before).le.trans (by decide)
  | _ => simp [replyData, length_channelRecord]

theorem length_replyMessage_le (r : Request) (before after : State) :
    (replyMessage (requestType r) (replyData r before after)).length ≤ Figures.answerRoom := by
  have := length_replyData_le r before after
  simp only [replyMessage, length_linkMessage, List.length_cons]
  show _ ≤ 52
  omega

theorem length_refusedMessage_le (code : RefusalCode) (type : Option Byte) (n : Nat) :
    (refusedMessage code type n).length ≤ Figures.answerRoom := by
  simp [refusedMessage, Figures.answerRoom]

end Machine
end Sys2Proof

/-!
PROOFS. What the Station Link keeps through every step: its FIFOs within their places, and ATTN at the masked topics
(R182, R183, R188, R195).
-/

namespace Sys2Proof
namespace Machine

/-- The FIFOs and the assembler: the items of the link that only bytes, answers and resets move. -/
def SameFifos (s t : State) : Prop := t.sl.rx = s.sl.rx ∧ t.sl.tx = s.sl.tx

theorem SameFifos.of_link {s t : State} (h : SameLink s t) : SameFifos s t := by
  unfold SameLink at h
  unfold SameFifos
  rw [h]
  exact ⟨rfl, rfl⟩

/-- The effect of an event leaves the link but for its topics. -/
theorem body_topicsGrow {c : Instr} {s u : State} (hb : s.body c = some u) : TopicsGrow s u := by
  rcases isEvent_or_isInput_of_body hb with he | hi
  · obtain ⟨-, -, hgrow, -⟩ := body_frame he hb
    exact hgrow
  · cases c with
    | debouncedChange i a l =>
      obtain ⟨-, rfl⟩ := some_of_ite hb
      exact (topicsGrow_changeInput _ _ _).after (by simp)
    | inputSample i a =>
      cases hb
      exact topicsGrow_sampleInput s i a
    | sampleWord w l =>
      cases hb
      exact .of_sl (by simp)
    | latchStale m l =>
      cases hb
      exact .of_sl (latchFold_keeps (fun v => v.sl = s.sl) m (fun v c hv => by simpa using hv) _ (by simp))
    | sampleWordDiscarded => cases hb
    | _ => cases hi

theorem finish_topicsGrow {c : Instr} {s u : State} (hb : s.body c = some u) (old : State) : TopicsGrow s (u.finish old) :=
  (body_topicsGrow hb).trans (topicsGrow_finish u old)

/-- JOIN sets topics alone of the link. -/
theorem topicsGrow_join (s : State) : TopicsGrow s s.join := by
  rw [join_eq]
  have hlevels : TopicsGrow s.joinListed s.joinListed.requestLevels := by
    refine foldl_keeps (TopicsGrow s.joinListed) _ (fun v k hv => ?_) _ _ (.of_sl rfl)
    split
    · exact hv.trans (topicsGrow_inputRequest v k _)
    · exact hv
  exact (hlevels.after (by simp)).then (by simp)

/-- The effect of a request that is no RESET leaves the link but for its topics, its mask and ATTN. -/
theorem effect_link {r : Request} (hr : r ≠ .reset) (s : State) :
    (s.effect r).sl =
      { s.sl with
        summary := (s.effect r).sl.summary, mask := (s.effect r).sl.mask, attn := (s.effect r).sl.attn } := by
  have hof {t : State} (h : TopicsGrow s t) :
      t.sl = { s.sl with summary := t.sl.summary, mask := t.sl.mask, attn := t.sl.attn } := by
    obtain ⟨hlink, -⟩ := h
    unfold SameLink at hlink
    rw [hlink]
  have hfinish {skip : Option (Fin 8)} {t : State} (h : TopicsGrow s t) : TopicsGrow s (t.finishBut skip s) :=
    h.trans (topicsGrow_finishBut skip t s)
  cases r with
  | configWrite record items =>
    simp only [State.effect]
    split
    · rfl
    · exact hof (hfinish (.of_sl (by simp)))
  | join => exact hof (hfinish (topicsGrow_join s))
  | reset => exact absurd rfl hr
  | setDemand | setChannel => exact hof (hfinish (.of_sl (by simp)))
  | poleCommand a ps => exact hof (hfinish (topicsGrow_commandPoles s a ps))
  | readPeer | readIo | setOutput => exact hof (.of_sl (by simp [State.effect]))
  | readStation | readAlarms | readPoles | readChannels | readChanges | setAttnMask => rfl
  | sendNotice n =>
    simp only [State.effect]
    split <;> exact hof (.of_sl (by simp))

theorem effect_fifos {r : Request} (hr : r ≠ .reset) (s : State) : SameFifos s (s.effect r) := by
  have h := effect_link hr s
  unfold SameFifos
  rw [h]
  exact ⟨rfl, rfl⟩

/-! ### Properties of the link -/

/-- A property of the Station Link that the operations keep of which every command is made. -/
structure LinkKept (Q : StationLink → Prop) : Prop where
  topics : ∀ s t : State, TopicsGrow s t → AttnShown t → Q s.sl → Q t.sl
  effect : ∀ (s : State) (r : Request), Q s.sl → Q (s.effect r).sl
  assemble : ∀ (l : StationLink) (i : RxItem) (rest : List RxItem), l.rx = i :: rest → Q l → Q (l.assemble i rest)
  answer : ∀ (s : State) (m : List Byte), s.answerRoom = true → m.length ≤ Figures.answerRoom → Q s.sl → Q (s.answer m).sl
  mark : ∀ (l : StationLink) (m : RxItem), m = .gapMark ∨ m = .lossMark → Q l → Q { l with rx := l.rx ++ [m] }
  store : ∀ (s : State) (b : Byte) (rts : Bool), rxBytes s.sl.rx < Figures.rxCapacity → Q s.sl →
    Q { s.sl with rx := s.sl.rx ++ [.byte b], rts := rts }
  timer : ∀ (l : StationLink) (x : Timer), Q l → Q { l with idleTimer := x }
  send : ∀ (l : StationLink) (b : Byte) (rest : List Byte), l.tx = b :: rest → Q l → Q { l with stx := some b, tx := rest }
  sent : ∀ l : StationLink, Q l → Q { l with stx := none }
  restarted : ∀ (c : ConfigStore) (high : Bool) (s : State), Q (s.restarted c high).sl

section LinkKept

variable {Q : StationLink → Prop} (K : LinkKept Q) {s t : State}
include K

theorem LinkKept.reply (h : Q s.sl) {r : Request} (hr : r ≠ .reset) (hroom : s.answerRoom = true) :
    Q ((s.effect r).answer (replyMessage (requestType r) (replyData r s (s.effect r)))).sl := by
  refine K.answer _ _ ?_ (length_replyMessage_le r s _) (K.effect s r h)
  simpa [State.answerRoom, (effect_fifos hr s).2] using hroom

theorem LinkKept.takeRequest (h : Q s.sl) (r : Request) (hroom : s.answerRoom = true) : Q (s.takeRequest r).sl := by
  rcases takeRequest_cases r s with ⟨code, n, -, e⟩ | ⟨-, -, e⟩ | ⟨-, hr, e⟩ <;> rw [e]
  · exact K.answer _ _ hroom (length_refusedMessage_le _ _ _) h
  · exact K.restarted _ _ s
  · exact K.reply h hr hroom

theorem LinkKept.linkRun (r : LinkRun s t) (h : Q s.sl) : Q t.sl := by
  induction r with
  | start => exact h
  | assembled _ _ hrx ih => exact K.assemble _ _ _ hrx ih
  | refused _ _ _ _ _ hroom ih => exact K.answer _ _ hroom (length_refusedMessage_le _ _ _) ih
  | taken _ _ hroom _ hr ih => exact K.reply ih hr hroom
  | reset _ _ _ => exact K.restarted _ _ _

theorem LinkKept.runLink (h : Q s.sl) : Q s.runLink.sl := K.linkRun (linkRun_runLink s) h

theorem LinkKept.placeMark (h : Q s.sl) {m : RxItem} (hm : m = .gapMark ∨ m = .lossMark) : Q (s.placeMark m).sl := by
  unfold State.placeMark
  split
  · exact h
  · exact K.mark _ _ hm h

theorem LinkKept.storeByte (h : Q s.sl) (b : Byte) (stopOk : Bool) : Q (s.storeByte b stopOk).sl := by
  unfold State.storeByte
  dsimp only
  split
  next hb =>
    rw [Bool.and_eq_true, decide_eq_true_eq] at hb
    exact K.store (s.withSl { s.sl with idleTimer := Timer.started }) b _ hb.2 (K.timer _ _ h)
  next => exact K.placeMark (s := s.withSl { s.sl with idleTimer := Timer.started }) (K.timer _ _ h) (.inr rfl)

theorem LinkKept.linkByte (h : Q s.sl) (b : Byte) (stopOk : Bool) : Q (s.linkByte b stopOk).sl :=
  K.runLink (K.storeByte h b stopOk)

theorem LinkKept.linkBytes (h : Q s.sl) (l : List Byte) : Q (s.linkBytes l).sl :=
  foldl_keeps (fun t => Q t.sl) _ (fun _ b ht => K.linkByte ht b true) l s h

theorem LinkKept.deliverRequest (h : Q s.sl) (r : Request) : Q (s.deliverRequest r).sl := by
  unfold State.deliverRequest
  split
  next hready =>
    simp only [State.linkReady, Bool.and_eq_true] at hready
    exact K.takeRequest (s := s.byteSeen) (K.timer _ _ h) r hready.1.2
  next => exact K.linkBytes h _

theorem LinkKept.startByte (h : Q s.sl) : Q s.startByte.sl := by
  unfold State.startByte
  split
  next b rest _ htx =>
    have hsend : Q (s.withSl { s.sl with stx := some b, tx := rest }).sl := K.send _ b rest htx h
    exact K.runLink hsend
  next => exact h

/-- A property of the link that the operations keep is kept by every command. -/
theorem LinkKept.exec {c : Instr} (ht : exec c s = .next t) (h : Q s.sl) : Q t.sl := by
  have hsense (l : LineLevel) : Q (s.sense l).sl := by simpa using h
  have hbreak {v : State} (hv : Q v.sl) : Q v.examineBreak.sl := by simpa using hv
  cases c with
  | powerOnReset high =>
    cases ht
    exact K.restarted _ _ s
  | pinReset high inPowerOn =>
    cases ht
    cases inPowerOn <;> exact K.restarted _ _ s
  | linkByteReceived b stopOk levels =>
    cases ht
    exact hbreak (K.linkByte (s := (s.sense levels.line).strapped levels.lrateHigh) (hsense _) b stopOk)
  | idleTimerExpiry =>
    cases ht
    split
    · exact K.runLink (K.placeMark (s := s.withSl { s.sl with idleTimer := none }) (K.timer _ _ h) (.inl rfl))
    · exact h
  | transmitByteStart cts levels =>
    cases ht
    refine hbreak ?_
    split
    · exact K.startByte (hsense levels.line)
    · exact hsense levels.line
  | badMessage m =>
    cases ht
    split
    · exact K.linkByte (K.linkBytes h _) _ _
    · exact K.linkBytes h _
  | poleCommand action poles line =>
    cases ht
    exact hbreak (K.deliverRequest (hsense line) _)
  | stxByteEnd =>
    cases ht
    exact K.sent _ h
  | sampleWordDiscarded bits =>
    cases ht
    split
    · exact h
    · exact h
  | reset | configWrite | join | readStation | readPeer | readAlarms | readPoles | readChannels | readIo | readChanges
  | setAttnMask | setOutput | setDemand | setChannelRequest | setChannelRelease | setChannelMask | setChannelUnmask
  | setChannelShed | setLowest | sendNotice =>
    cases ht
    exact K.deliverRequest h _
  | _ =>
    rw [exec_event rfl] at ht
    cases ht
    exact afterEvent_keeps (P := fun t => Q t.sl)
      (fun u hu => K.topics s _ (finish_topicsGrow hu s) (finishBut_shows none u s).2 h) h

theorem LinkKept.step (ht : step s = .next t) (h : Q s.sl) : Q t.sl := by
  unfold Machine.step at ht
  split at ht
  · cases ht
    exact K.timer s.sl _ h
  · exact K.exec (s := { s with pending := _ }) ht h

end LinkKept

/-! ### The FIFOs (R182) -/

theorem rxBytes_append (l m : List RxItem) : rxBytes (l ++ m) = rxBytes l + rxBytes m := by
  simp [rxBytes]

theorem rxBytes_tail_le (i : RxItem) (l : List RxItem) : rxBytes l ≤ rxBytes (i :: l) := by
  have := rxBytes_append [i] l
  simp only [List.singleton_append] at this
  omega

/-- An item taken leaves the receive FIFO as its rest and the transmit FIFO as it was. -/
theorem assemble_fifos (l : StationLink) (i : RxItem) (rest : List RxItem) :
    (l.assemble i rest).rx = rest ∧ (l.assemble i rest).tx = l.tx ∧ (l.assemble i rest).stx = l.stx := by
  cases i with
  | byte b =>
    unfold StationLink.assemble StationLink.takeByte
    dsimp only
    split
    · split <;> exact ⟨rfl, rfl, rfl⟩
    · split <;> exact ⟨rfl, rfl, rfl⟩
    · split <;> exact ⟨rfl, rfl, rfl⟩
    · exact ⟨rfl, rfl, rfl⟩
  | gapMark | lossMark =>
    unfold StationLink.assemble StationLink.takeGap StationLink.takeLoss
    dsimp only
    split <;> exact ⟨rfl, rfl, rfl⟩

/-- The FIFOs of a link are within their places. -/
def FifosFit (l : StationLink) : Prop := rxBytes l.rx ≤ 32 ∧ l.tx.length ≤ 64

theorem linkKept_fifos : LinkKept FifosFit where
  topics s t hgrow _ h := by
    obtain ⟨hrx, htx⟩ := SameFifos.of_link hgrow.1
    unfold FifosFit
    rw [hrx, htx]
    exact h
  effect s r h := by
    by_cases hr : r = .reset
    · subst hr
      exact ⟨Nat.zero_le _, Nat.zero_le _⟩
    · obtain ⟨hrx, htx⟩ := effect_fifos hr s
      unfold FifosFit
      rw [hrx, htx]
      exact h
  assemble l i rest hrx h := by
    obtain ⟨hrest, htx, -⟩ := assemble_fifos l i rest
    unfold FifosFit
    rw [hrest, htx]
    exact ⟨(rxBytes_tail_le i rest).trans (hrx ▸ h.1), h.2⟩
  answer s m hroom hm h := by
    refine ⟨h.1, ?_⟩
    have hr : s.sl.tx.length + 52 ≤ 64 := of_decide_eq_true hroom
    have hl : m.length ≤ 52 := hm
    show (s.sl.tx ++ m).length ≤ 64
    rw [List.length_append]
    omega
  mark l m hm h := by
    refine ⟨?_, h.2⟩
    rw [rxBytes_append]
    rcases hm with rfl | rfl <;> exact h.1
  store s b rts hb h := by
    refine ⟨?_, h.2⟩
    rw [rxBytes_append]
    exact hb
  timer l x h := h
  send l b rest htx h := by
    refine ⟨h.1, ?_⟩
    have := h.2
    rw [htx, List.length_cons] at this
    show rest.length ≤ 64
    omega
  sent l h := h
  restarted _ _ _ := ⟨Nat.zero_le _, Nat.zero_le _⟩

/-! ### ATTN (R195) -/

/-- ATTN is asserted exactly while a topic is both set and in the mask. -/
def AttnFollows (l : StationLink) : Prop := l.attn = (l.summary.inter l.mask).nonempty

theorem attnFollows_effect (r : Request) {s : State} (h : AttnFollows s.sl) : AttnFollows (s.effect r).sl := by
  cases r with
  | configWrite record items =>
    simp only [State.effect]
    split
    · exact h
    · exact (finishBut_shows none _ s).2
  | join | setDemand | setChannel | poleCommand => exact (finishBut_shows _ _ s).2
  | reset | readChanges | setAttnMask => rfl
  | readStation | readAlarms | readPoles | readChannels => exact h
  | readPeer | readIo | setOutput => simpa [State.effect] using h
  | sendNotice n =>
    simp only [State.effect]
    split <;> exact h

theorem assemble_attn (l : StationLink) (i : RxItem) (rest : List RxItem) :
    (l.assemble i rest).summary = l.summary ∧ (l.assemble i rest).mask = l.mask ∧ (l.assemble i rest).attn = l.attn := by
  cases i with
  | byte b =>
    unfold StationLink.assemble StationLink.takeByte
    dsimp only
    split
    · split <;> exact ⟨rfl, rfl, rfl⟩
    · split <;> exact ⟨rfl, rfl, rfl⟩
    · split <;> exact ⟨rfl, rfl, rfl⟩
    · exact ⟨rfl, rfl, rfl⟩
  | gapMark | lossMark =>
    unfold StationLink.assemble StationLink.takeGap StationLink.takeLoss
    dsimp only
    split <;> exact ⟨rfl, rfl, rfl⟩

theorem linkKept_attn : LinkKept AttnFollows where
  topics _ _ _ hshown _ := hshown
  effect _ r h := attnFollows_effect r h
  assemble l i rest _ h := by
    obtain ⟨hsum, hmask, hattn⟩ := assemble_attn l i rest
    unfold AttnFollows
    rw [hsum, hmask, hattn]
    exact h
  answer _ _ _ _ h := h
  mark _ _ _ h := h
  store _ _ _ _ h := h
  timer _ _ h := h
  send _ _ _ _ h := h
  sent _ h := h
  restarted _ _ _ := rfl

theorem attnShown_step {s t : State} (h : AttnShown s) (ht : step s = .next t) : AttnShown t := linkKept_attn.step ht h

theorem fifosKept_step {s t : State} (h : FifosKept s) (ht : step s = .next t) : FifosKept t := linkKept_fifos.step ht h

/-- Settles O5: the link keeps its FIFOs, an event's end drives every output from its condition, and a pole is not
RAISING and LOWERING at once. -/
theorem stepKeepsPins : Obligations.StepKeepsPins := fun _ _ ht =>
  ⟨fun h => fifosKept_step h ht, fun h =>
    ⟨outputsShown_step h ht, fun _ _ _ ho hp => raise_lower_exclusive (outputsShown_step h ht) ho hp⟩⟩

end Machine
end Sys2Proof

/-!
PROOFS. Counts, ages and values stay within their ranges through every step (Conventions, Counts; R1, R30, R51, R114,
R136, R154, R168): one block at a time.
-/

namespace Sys2Proof
namespace Machine

theorem satInc_le (m n : Nat) : satInc m n ≤ m := Nat.min_le_left _ _

/-! ### The poles (R1) -/

/-- The counts of a pole record within their ranges. -/
def PoleCounted (r : Pole) : Prop := r.elevation ≤ 900 ∧ r.bounces ≤ 255 ∧ r.drops ≤ 255

/-- The counts of both poles and the line voltage within their ranges. -/
def PolesCounted (s : State) : Prop := (∀ x, PoleCounted (s.pole x)) ∧ s.ps.lineVoltage ≤ 1023

section Poles

variable {s t : State}

theorem PolesCounted.of_ps (h : PolesCounted s) (hps : t.ps = s.ps) : PolesCounted t := by
  unfold PolesCounted State.pole
  rw [hps]
  exact h

theorem lineVoltage_withPole (s : State) (x : PoleId) (r : Pole) : (s.withPole x r).ps.lineVoltage = s.ps.lineVoltage := by
  cases x <;> rfl

theorem polesCounted_withPole (h : PolesCounted s) (x : PoleId) {r : Pole} (hr : PoleCounted r) :
    PolesCounted (s.withPole x r) := by
  refine ⟨fun y => ?_, (lineVoltage_withPole s x r).le.trans h.2⟩
  cases x <;> cases y
  · exact hr
  · exact h.1 .n
  · exact h.1 .p
  · exact hr

theorem polesCounted_lower (h : PolesCounted s) (x : PoleId) : PolesCounted (s.lower x) := polesCounted_withPole h x (h.1 x)

theorem polesCounted_putOnWire (h : PolesCounted s) (x : PoleId) : PolesCounted (s.putOnWire x) :=
  polesCounted_withPole h x (h.1 x)

theorem polesCounted_setOutcome (h : PolesCounted s) (x : PoleId) (o : CommandOutcome) : PolesCounted (s.setOutcome x o) :=
  (polesCounted_withPole (r := { s.pole x with outcome := o }) h x (h.1 x)).of_ps (by simp [State.setOutcome])

theorem polesCounted_drop (h : PolesCounted s) (x : PoleId) : PolesCounted (s.drop x) := by
  obtain ⟨he, hb, -⟩ := h.1 x
  have hcount : PolesCounted (s.withPole x { s.pole x with drops := satInc 255 (s.pole x).drops }) :=
    polesCounted_withPole h x ⟨he, hb, satInc_le _ _⟩
  exact (polesCounted_lower hcount x).of_ps (by simp [State.drop])

theorem polesCounted_settle (h : PolesCounted s) (x : PoleId) : PolesCounted (s.settle x) := by
  unfold State.settle
  dsimp only
  split
  · split
    · exact polesCounted_withPole h x (h.1 x)
    · split
      · exact polesCounted_withPole h x (h.1 x)
      · exact polesCounted_lower h x
  · exact h

theorem polesCounted_examineQualify (h : PolesCounted s) (x : PoleId) : PolesCounted (s.examineQualify x) := by
  unfold State.examineQualify
  dsimp only
  split
  · exact h
  · split
    · split
      · exact h
      · exact polesCounted_withPole h x (h.1 x)
    · exact polesCounted_withPole h x (h.1 x)

theorem polesCounted_examineQuiet (h : PolesCounted s) (x : PoleId) : PolesCounted (s.examineQuiet x) := by
  unfold State.examineQuiet
  dsimp only
  split
  · split
    · split
      · exact h
      · exact polesCounted_withPole h x (h.1 x)
    · exact polesCounted_withPole h x (h.1 x)
  · exact h

theorem polesCounted_judgeElevation (h : PolesCounted s) (x : PoleId) (e : Nat) : PolesCounted (s.judgeElevation x e) := by
  obtain ⟨he, -, hd⟩ := h.1 x
  have hbounce {r : Pole} (hr : r.elevation = (s.pole x).elevation ∧ r.drops = (s.pole x).drops ∧
      r.bounces = satInc 255 (s.pole x).bounces) : PolesCounted (s.withPole x r) :=
    polesCounted_withPole h x ⟨hr.1.le.trans he, hr.2.2.le.trans (satInc_le _ _), hr.2.1.le.trans hd⟩
  unfold State.judgeElevation
  dsimp only
  split
  · split
    · split
      · exact polesCounted_examineQualify h x
      · exact polesCounted_lower h x
    · exact h
  · exact h
  · exact polesCounted_examineQualify h x
  · split
    · exact polesCounted_drop h x
    · split
      · exact h
      · exact polesCounted_withPole h x (h.1 x)
  · split
    · exact polesCounted_drop h x
    · split
      · exact hbounce ⟨rfl, rfl, rfl⟩
      · split
        · exact h
        · exact polesCounted_withPole h x (h.1 x)
  · split
    · exact polesCounted_drop h x
    · split
      · split
        · exact hbounce ⟨rfl, rfl, rfl⟩
        · exact h
      · split
        · exact h
        · exact polesCounted_withPole h x (h.1 x)
  · exact h
  · exact h

theorem polesCounted_elevArrival (h : PolesCounted s) (x : PoleId) {e : Nat} (he : e ≤ 900) :
    PolesCounted (s.elevArrival x e) := by
  have hj := polesCounted_judgeElevation (polesCounted_settle h x) x e
  obtain ⟨-, hb, hd⟩ := hj.1 x
  exact polesCounted_withPole hj x ⟨he, hb, hd⟩

theorem polesCounted_lineArrival (h : PolesCounted s) {v : Nat} (hv : v ≤ 1023) : PolesCounted (s.lineArrival v) := by
  have ht : PolesCounted (s.withPs { s.ps with lineVoltage := v, band := nextBand s.poleCfg s.ps.band v }) :=
    ⟨fun x => by cases x; exacts [h.1 .p, h.1 .n], hv⟩
  unfold State.lineArrival
  dsimp only
  split
  · exact ht
  · exact polesCounted_examineQualify (polesCounted_examineQualify ht _) _

theorem polesCounted_raiseOne (h : PolesCounted s) (x : PoleId) : PolesCounted (s.raiseOne x) := by
  unfold State.raiseOne
  dsimp only
  split
  · exact polesCounted_withPole h x (h.1 x)
  · split
    · exact h
    · split
      · exact polesCounted_setOutcome h x _
      · split
        · exact polesCounted_setOutcome h x _
        · refine polesCounted_setOutcome ?_ x _
          exact polesCounted_withPole h x (h.1 x)

theorem polesCounted_lowerOne (h : PolesCounted s) (x : PoleId) : PolesCounted (s.lowerOne x) := by
  have hwait : PolesCounted (s.withPole x { s.pole x with state := .lowerWait, stateTimer := Timer.started }) :=
    polesCounted_withPole h x (h.1 x)
  unfold State.lowerOne
  dsimp only
  split
  · exact polesCounted_withPole h x (h.1 x)
  · split
    · exact polesCounted_setOutcome (polesCounted_lower h x) x _
    · exact polesCounted_setOutcome (polesCounted_lower h x) x _
    · exact polesCounted_setOutcome h x _
    · exact polesCounted_setOutcome h x _
    · exact polesCounted_setOutcome (polesCounted_examineQuiet hwait x) x _
    · exact polesCounted_setOutcome (polesCounted_examineQuiet hwait x) x _
    · exact h
    · exact h

theorem polesCounted_commandOne (h : PolesCounted s) (a : PoleAction) (x : PoleId) : PolesCounted (s.commandOne a x) := by
  cases a
  · exact polesCounted_raiseOne h x
  · exact polesCounted_lowerOne h x

theorem polesCounted_commandPoles (h : PolesCounted s) (a : PoleAction) (ps : PoleSel) : PolesCounted (s.commandPoles a ps) := by
  unfold State.commandPoles
  split
  · cases ps
    · exact polesCounted_commandOne h a .p
    · exact polesCounted_commandOne h a .n
    · exact polesCounted_commandOne (polesCounted_commandOne h a .p) a .n
  · exact h

theorem polesCounted_applyNotice (h : PolesCounted s) (a : Fin 16) (n : Notice) : PolesCounted (s.applyNotice a n) := by
  cases n with
  | command act ps => exact polesCounted_commandPoles h act ps
  | _ => exact h.of_ps (by simp [State.applyNotice])

theorem polesCounted_stowedChange (h : PolesCounted s) (x : PoleId) (before after : Debounced) :
    PolesCounted (s.stowedChange x before after) := by
  unfold State.stowedChange
  dsimp only
  split
  · split
    · exact polesCounted_withPole h x (h.1 x)
    · exact h
  · split
    · exact polesCounted_lower h x
    · exact h
  · exact h

theorem polesCounted_poleStale (h : PolesCounted s) (c : Fin 8) : PolesCounted (s.poleStale c) := by
  have helev (x : PoleId) : PolesCounted ((s.examineQualify x).withPole x
      { (s.examineQualify x).pole x with confirmTimer := none }) :=
    polesCounted_withPole (polesCounted_examineQualify h x) x ((polesCounted_examineQualify h x).1 x)
  have hquiet := polesCounted_examineQuiet (polesCounted_examineQuiet h .p) .n
  unfold State.poleStale
  dsimp only
  split
  · exact helev .p
  · exact helev .n
  · exact hquiet
  · exact hquiet
  · exact h

theorem polesCounted_deliver (h : PolesCounted s) (i : Fin 16) (before : Debounced) (active : Bool) (n : Nat) :
    PolesCounted (s.deliver i before active n) := by
  unfold State.deliver
  dsimp only
  split
  · exact h
  · split
    · exact polesCounted_stowedChange h _ _ _
    · exact h
  · split
    · exact h.of_ps (by simp)
    · exact h
  · split
    · exact h.of_ps (by simp)
    · exact h
  · split
    · exact polesCounted_commandPoles (h.of_ps (by simp)) _ _
    · exact h
  · split
    · exact polesCounted_commandPoles (h.of_ps (by simp)) _ _
    · exact h
  · exact h.of_ps (by simp)

theorem polesCounted_changeInput (h : PolesCounted s) (i : Fin 16) (active : Bool) : PolesCounted (s.changeInput i active) := by
  unfold State.changeInput
  dsimp only
  split
  · exact h.of_ps (by simp)
  · exact polesCounted_deliver (h.of_ps (by simp)) _ _ _ _

theorem polesCounted_sampleInput (h : PolesCounted s) (i : Fin 16) (active : Bool) : PolesCounted (s.sampleInput i active) := by
  unfold State.sampleInput State.takeSample
  dsimp only
  split
  · exact h.of_ps (by simp)
  · split
    · exact polesCounted_changeInput (h.of_ps (by simp)) _ _
    · exact h.of_ps (by simp)

theorem polesCounted_takeWord (h : PolesCounted s) (w : Half) : PolesCounted (s.takeWord w) := by
  have hl : PolesCounted (s.latchArrival (wordChannel w) (wordValue w)) := h.of_ps (by simp)
  have hv : ((s.latchArrival (wordChannel w) (wordValue w)).latch (wordChannel w)).value ≤ channelMax (wordChannel w) := by
    simp [State.latchArrival]
  unfold State.takeWord State.poleArrival
  dsimp only
  split
  · exact hl
  · generalize wordChannel w = c at hl hv
    split
    · exact polesCounted_lineArrival hl hv
    · split
      · exact polesCounted_elevArrival hl _ hv
      · exact hl
    · split
      · exact polesCounted_elevArrival hl _ hv
      · exact hl
    · split
      · exact polesCounted_examineQuiet (polesCounted_examineQuiet hl _) _
      · exact hl
    · split
      · exact polesCounted_examineQuiet (polesCounted_examineQuiet hl _) _
      · exact hl
    · exact hl

theorem polesCounted_latchExpires (h : PolesCounted s) (c : Fin 8) : PolesCounted (s.latchExpires c) := by
  have ht : PolesCounted (s.withLatch c { s.latch c with stale := true }) := h.of_ps (by simp)
  unfold State.latchExpires
  dsimp only
  split
  · split
    · exact polesCounted_poleStale ht c
    · exact ht
  · exact h

theorem gapRule_counts (ps : PoleSupervisor) :
    ps.gapRule.poleP = ps.poleP ∧ ps.gapRule.poleN = ps.poleN ∧ ps.gapRule.lineVoltage = ps.lineVoltage := by
  unfold PoleSupervisor.gapRule
  split
  · split <;> exact ⟨rfl, rfl, rfl⟩
  · split <;> exact ⟨rfl, rfl, rfl⟩

/-- A supervisor with the same pole records and voltage. -/
theorem PolesCounted.of_records (h : PolesCounted s) (hp : t.ps.poleP = s.ps.poleP) (hn : t.ps.poleN = s.ps.poleN)
    (hv : t.ps.lineVoltage = s.ps.lineVoltage) : PolesCounted t := by
  refine ⟨fun x => ?_, hv.le.trans h.2⟩
  cases x
  · exact (congrArg PoleCounted hp).mpr (h.1 .p)
  · exact (congrArg PoleCounted hn).mpr (h.1 .n)

theorem polesCounted_gapRule (h : PolesCounted s) : PolesCounted (s.withPs s.ps.gapRule) := by
  obtain ⟨hp, hn, hv⟩ := gapRule_counts s.ps
  exact h.of_records hp hn hv

theorem polesCounted_restoreQualifyRule (h : PolesCounted s) : PolesCounted s.restoreQualifyRule := h.of_records rfl rfl rfl

theorem polesCounted_polesEnd (h : PolesCounted s) (old : State) : PolesCounted (s.polesEnd old) := by
  have habandon {v : State} (hv : PolesCounted v) (x : PoleId) : PolesCounted (v.abandonRaise old x) := by
    unfold State.abandonRaise
    split
    · exact polesCounted_lower hv x
    · exact hv
  have hwait {v : State} (hv : PolesCounted v) (x : PoleId) : PolesCounted (v.endWait x) := by
    unfold State.endWait
    split
    · exact polesCounted_putOnWire hv x
    · exact hv
  by_cases hp : s.role = .pole ∧ s.ps.supervising = true
  · rw [polesEnd_of_supervising hp.1 hp.2]
    have hplaced : PolesCounted (s.polesPlaced old) :=
      polesCounted_gapRule (hwait (hwait (polesCounted_settle (polesCounted_settle (habandon (habandon h .p) .n) .p) .n) .p) .n)
    have hlisted : PolesCounted ((s.polesPlaced old).polesListed old) := hplaced.of_ps (by simp [State.polesListed])
    exact polesCounted_restoreQualifyRule hlisted
  · rw [polesEnd_of_not hp]
    exact h

theorem polesCounted_finishBut (skip : Option (Fin 8)) (h : PolesCounted s) (old : State) : PolesCounted (s.finishBut skip old) := by
  obtain ⟨-, -, hps, -⟩ := finishBut_blocks skip s old
  by_cases hm : s.rsq.mode = .config
  · rw [blocksEnd_of_config hm] at hps
    exact h.of_ps hps
  · rw [blocksEnd_of_joined hm] at hps
    exact (polesCounted_polesEnd h old).of_ps (by rw [hps]; simp [State.reviewed])

theorem polesCounted_enterRun (h : PolesCounted s) : PolesCounted s.enterRun :=
  ⟨fun x => by cases x; exacts [h.1 .p, h.1 .n], h.2⟩

theorem polesCounted_followFrame (h : PolesCounted s) (a : Fin 16) : PolesCounted (s.followFrame a) := by
  unfold State.followFrame
  split
  · exact h
  · split
    · exact polesCounted_enterRun h
    · exact (polesCounted_enterRun h).of_ps (by simp)
  · exact h.of_ps (by split <;> simp)
  · exact h.of_ps (by split <;> simp)

theorem body_polesCounted {c : Instr} {u : State} (hb : s.body c = some u) (h : PolesCounted s) : PolesCounted u := by
  have hsame {t : State} (hps : t.ps = s.ps) : PolesCounted t := h.of_ps hps
  cases c with
  | debouncedChange i a l =>
    obtain ⟨-, rfl⟩ := some_of_ite hb
    exact polesCounted_changeInput (hsame (by simp)) i a
  | inputSample i a =>
    cases hb
    exact polesCounted_sampleInput h i a
  | sampleWord w l =>
    cases hb
    exact polesCounted_takeWord (hsame (by simp)) w
  | latchStale m l =>
    cases hb
    exact latchFold_keeps PolesCounted m (fun t c ht => polesCounted_latchExpires ht c) _ (hsame (by simp))
  | qualifyTimerExpiry x =>
    obtain ⟨-, rfl⟩ := some_of_ite hb
    unfold State.qualifyExpired
    dsimp only
    split
    · split
      · exact polesCounted_putOnWire h x
      · split
        · exact polesCounted_putOnWire (polesCounted_putOnWire h x) _
        · exact polesCounted_withPole h x (h.1 x)
    · exact h
  | raiseMaxExpiry x =>
    obtain ⟨-, rfl⟩ := some_of_ite hb
    unfold State.raiseMaxExpired
    dsimp only
    split
    · refine polesCounted_lower ?_ x
      exact polesCounted_withPole h x (h.1 x)
    · exact h
  | confirmTimerExpiry x l =>
    obtain ⟨-, rfl⟩ := some_of_ite hb
    unfold State.confirmExpired
    dsimp only
    split
    · exact polesCounted_drop (hsame (by simp)) x
    · exact hsame (by simp)
  | quietTimerExpiry x =>
    obtain ⟨-, rfl⟩ := some_of_ite hb
    unfold State.quietExpired
    dsimp only
    split
    · exact polesCounted_lower h x
    · exact h
  | lowerWaitMaxExpiry x =>
    obtain ⟨-, rfl⟩ := some_of_ite hb
    unfold State.lowerWaitExpired
    dsimp only
    split
    · exact polesCounted_lower h x
    · exact h
  | lowerMaxExpiry x =>
    obtain ⟨-, rfl⟩ := some_of_ite hb
    unfold State.lowerMaxExpired
    dsimp only
    split
    · exact polesCounted_withPole h x (h.1 x)
    · exact h
  | gapTimerExpiry l =>
    obtain ⟨-, rfl⟩ := some_of_ite hb
    have hl : PolesCounted (s.sense l) := hsame (by simp)
    have hstop : PolesCounted ((s.sense l).withPs { (s.sense l).ps with gapTimer := none }) :=
      ⟨fun x => by cases x; exacts [hl.1 .p, hl.1 .n], hl.2⟩
    unfold State.gapExpired
    split
    · exact hstop.of_ps (by simp)
    · exact hl
  | restoreQualifyExpiry =>
    obtain ⟨-, rfl⟩ := some_of_ite hb
    have hstop : PolesCounted (s.withPs { s.ps with restoreQualifyTimer := none }) :=
      ⟨fun x => by cases x; exacts [h.1 .p, h.1 .n], h.2⟩
    unfold State.restoreQualifyExpired
    dsimp only
    split
    · split
      · exact hstop.of_ps (by simp)
      · exact hstop
    · exact h
  | statusReceived a b =>
    obtain ⟨-, rfl⟩ := some_of_ite hb
    exact (polesCounted_followFrame h a).of_ps (by simp [State.hearStatus])
  | noticeReceived a b =>
    obtain ⟨-, rfl⟩ := some_of_ite hb
    have hf : PolesCounted (((s.followFrame a).receiverTo .idle).refreshPeer a) :=
      (polesCounted_followFrame h a).of_ps (by simp)
    unfold State.hearNotice
    dsimp only
    split
    · exact polesCounted_applyNotice hf a _
    · exact hf
  | ownNoticeComplete =>
    obtain ⟨-, rfl⟩ := some_of_ite hb
    unfold State.ownNoticeSent
    dsimp only
    split
    · exact polesCounted_applyNotice (hsame (by simp)) _ _
    · exact hsame (by simp)
  | idleCountExpiry =>
    obtain ⟨-, rfl⟩ := some_of_ite hb
    have hr : PolesCounted (s.receiverTo .idle) := hsame (by simp)
    exact (polesCounted_enterRun hr).of_ps (by simp)
  | receiveError chars ending =>
    simp only [State.body] at hb
    split at hb
    · cases hb
      exact hsame (by simp)
    · split at hb
      · cases hb
        exact hsame (by simp)
      · cases hb
  | breakAssert =>
    cases hb
    exact hsame (by simp)
  | unclaimedHoldExpiry | alarmReceived | duplicateAddress | ownAlarmComplete | breakDetection | breakEnd | windowComplete
  | roundEnd | demandHoldExpiry | overdrawTimerExpiry | restoreTimerExpiry | peerStale | peerLost | muteTimerExpiry
  | lineActivityEnd | ownSlotStart | skipInterval | ownStatusComplete | echoMismatch | abortJudgedError | breakRelease
  | claimPositionStart | stuckLine =>
    obtain ⟨-, rfl⟩ := some_of_ite hb
    exact hsame (by simp)
  | _ => cases hb

theorem polesCounted_reset (c : ConfigStore) (high : Bool) (s : State) : PolesCounted (s.restarted c high) :=
  ⟨fun x => by cases x <;> exact ⟨Nat.zero_le _, Nat.zero_le _, Nat.zero_le _⟩, Nat.zero_le _⟩

theorem polesCounted_effect (r : Request) (h : PolesCounted s) : PolesCounted (s.effect r) := by
  cases r with
  | configWrite record items =>
    simp only [State.effect]
    split
    · exact h
    · exact polesCounted_finishBut none (h.of_ps (by simp)) s
  | join | setDemand | setChannel => exact polesCounted_finishBut _ (h.of_ps (by simp)) s
  | poleCommand a ps => exact polesCounted_finishBut none (polesCounted_commandPoles h a ps) s
  | reset => exact polesCounted_reset _ _ s
  | readStation | readAlarms | readPoles | readChannels => exact h
  | readPeer | readIo | readChanges | setAttnMask | setOutput => exact h.of_ps (by simp [State.effect])
  | sendNotice n =>
    simp only [State.effect]
    split <;> exact h.of_ps (by simp)

theorem kept_polesCounted : Kept PolesCounted where
  link s x h := h
  strap s high cts h := h
  sense s l h := h.of_ps (by simp)
  brk s h := h.of_ps (by simp)
  effect s r h _ := polesCounted_effect r h
  power s high _ := polesCounted_reset _ _ s
  pin s high _ := polesCounted_reset _ _ s
  sampleError s h := h

theorem polesCounted_step (h : PolesCounted s) (ht : step s = .next t) : PolesCounted t :=
  kept_polesCounted.step (fun _ _ _ hs hb => polesCounted_finishBut none (body_polesCounted hb hs) _)
    (fun _ _ hs => hs) (fun s hs => ⟨fun x => by rw [pole_tick]; exact hs.1 x, hs.2⟩) ht h

end Poles

end Machine
end Sys2Proof

/-!
PROOFS. The ages and repeats of the alarm entries stay within their ranges through every step (R30).
-/

namespace Sys2Proof
namespace Machine

/-- An entry's age and repeats within their ranges. -/
def EntryCounted (e : AlarmEntry) : Prop := e.age ≤ 65535 ∧ e.repeats ≤ 255

/-- Every entry's age and repeats within their ranges. -/
def EntriesCounted (s : State) : Prop := ∀ e ∈ s.alarms, EntryCounted e

section Entries

variable {s t : State}

theorem EntriesCounted.of_alarms (h : EntriesCounted s) (ha : t.alarms = s.alarms) : EntriesCounted t := by
  unfold EntriesCounted
  rw [ha]
  exact h

theorem EntriesCounted.of_alc (h : EntriesCounted s) (ha : t.alc = s.alc) : EntriesCounted t := h.of_alarms (alarms_congr ha)

theorem entryCounted_repeated (st : AlarmState) (d : Option SensorDetail) (e : AlarmEntry) : EntryCounted (e.repeated st d) :=
  ⟨Nat.zero_le _, satInc_le _ _⟩

theorem entryCounted_newEntry (src : Source) (c : Cause) (st : AlarmState) (by' : LearnedBy) (d : Option SensorDetail) :
    EntryCounted (newEntry src c st by' d) := ⟨Nat.zero_le _, Nat.zero_le _⟩

theorem entryCounted_acknowledge {e : AlarmEntry} (h : EntryCounted e) : EntryCounted e.acknowledge := by
  unfold AlarmEntry.acknowledge
  split <;> exact h

theorem entries_map (h : EntriesCounted s) {f : AlarmEntry → AlarmEntry} (hf : ∀ e, EntryCounted e → EntryCounted (f e)) :
    ∀ e ∈ s.alarms.map f, EntryCounted e := by
  intro e he
  obtain ⟨e', he', rfl⟩ := List.mem_map.1 he
  exact hf e' (h e' he')

theorem entries_update (h : EntriesCounted s) (src : Source) (c : Cause) {f : AlarmEntry → AlarmEntry}
    (hf : ∀ e, EntryCounted e → EntryCounted (f e)) : EntriesCounted (s.withAlarms (updateEntry src c f s.alarms)) :=
  entries_map h fun e he => by
    split
    · exact hf e he
    · exact he

theorem entries_filter (h : EntriesCounted s) (p : AlarmEntry → Bool) : EntriesCounted (s.withAlarms (s.alarms.filter p)) :=
  fun e he => h e (List.mem_of_mem_filter he)

theorem entries_append {l : List AlarmEntry} {e : AlarmEntry} (hl : ∀ x ∈ l, EntryCounted x) (he : EntryCounted e) :
    ∀ x ∈ l ++ [e], EntryCounted x := by
  intro x hx
  rcases List.mem_append.1 hx with hx | hx
  · exact hl x hx
  · exact List.mem_singleton.1 hx ▸ he

theorem entriesCounted_placeEntry (h : EntriesCounted s) {e : AlarmEntry} (he : EntryCounted e) :
    EntriesCounted (s.placeEntry e) := by
  unfold State.placeEntry
  split
  · exact entries_append h he
  · exact h

theorem entriesCounted_raiseOwn (h : EntriesCounted s) (c : Cause) (d : Option SensorDetail) :
    EntriesCounted (s.raiseOwn c d) := by
  unfold State.raiseOwn
  dsimp only
  split
  · exact entries_update h _ _ fun e _ => entryCounted_repeated _ _ e
  · split
    · exact entries_append h (entryCounted_newEntry _ _ _ _ _)
    · split
      · exact entries_append (fun x hx => h x (List.mem_of_mem_eraseP hx)) (entryCounted_newEntry _ _ _ _ _)
      · exact h

theorem entriesCounted_learnAlarm (h : EntriesCounted s) (a : Fin 16) (d : Option SensorDetail) (c : Cause) :
    EntriesCounted (s.learnAlarm a d c) := by
  unfold State.learnAlarm
  dsimp only
  split
  · exact entries_update h _ _ fun e _ => entryCounted_repeated _ _ e
  · exact entriesCounted_placeEntry h (entryCounted_newEntry _ _ _ _ _)

theorem entriesCounted_learnAlarms (h : EntriesCounted s) (a : Fin 16) (m : Byte) (d : Option SensorDetail) :
    EntriesCounted (s.learnAlarms a m d) := by
  refine foldl_keeps EntriesCounted _ (fun t c ht => ?_) _ _ h
  split
  · exact entriesCounted_learnAlarm ht a d c
  · exact ht

theorem entriesCounted_compareCauses (h : EntriesCounted s) (a : Fin 16) (m : Byte) : EntriesCounted (s.compareCauses a m) := by
  refine foldl_keeps EntriesCounted _ (fun t c ht => ?_) _ _ (entries_filter h _)
  split
  · exact entriesCounted_placeEntry ht (entryCounted_newEntry _ _ _ _ _)
  · exact ht

theorem entriesCounted_unclaimedWindow (h : EntriesCounted s) : EntriesCounted s.unclaimedWindow := by
  have hplaced := entriesCounted_placeEntry h (entryCounted_newEntry .unknown .unclaimed .announced .localRaise none)
  unfold State.unclaimedWindow
  dsimp only
  split
  · exact entries_update h .unknown .unclaimed fun e _ => entryCounted_repeated _ _ e
  · exact hplaced

theorem entriesCounted_clearOwn (h : EntriesCounted s) (c : Cause) : EntriesCounted (s.clearOwn c) :=
  (entries_filter h fun e => !e.hasKey (.station s.own) c).of_alc (by simp [State.clearOwn, removeEntry])

theorem entriesCounted_applyNotice (h : EntriesCounted s) (a : Fin 16) (n : Notice) : EntriesCounted (s.applyNotice a n) := by
  cases n with
  | ack src c => exact entries_update h src c fun _ he => entryCounted_acknowledge he
  | ackAll => exact entries_map h fun _ he => entryCounted_acknowledge he
  | clear c =>
    unfold State.applyNotice State.clearFrom
    dsimp only
    split
    · exact h
    · exact entries_filter h _
  | clearLost => exact entries_filter h _
  | command act ps => exact h.of_alc (by simp [State.applyNotice])

theorem entriesCounted_drop (h : EntriesCounted s) (x : PoleId) : EntriesCounted (s.drop x) := by
  refine entriesCounted_raiseOwn ?_ _ _
  exact h

theorem entriesCounted_judgeElevation (h : EntriesCounted s) (x : PoleId) (e : Nat) :
    EntriesCounted (s.judgeElevation x e) := by
  unfold State.judgeElevation
  dsimp only
  split
  · split
    · split <;> exact h.of_alc (by simp)
    · exact h
  · exact h
  · exact h.of_alc (by simp)
  · split
    · exact entriesCounted_drop h x
    · split <;> exact h.of_alc (by simp)
  · split
    · exact entriesCounted_drop h x
    · split
      · exact h.of_alc (by simp)
      · split <;> exact h.of_alc (by simp)
  · split
    · exact entriesCounted_drop h x
    · split
      · split <;> exact h.of_alc (by simp)
      · split <;> exact h.of_alc (by simp)
  · exact h
  · exact h

theorem entriesCounted_poleArrival (h : EntriesCounted s) (c : Fin 8) : EntriesCounted (s.poleArrival c) := by
  have helev (x : PoleId) (e : Nat) : EntriesCounted (s.elevArrival x e) :=
    (entriesCounted_judgeElevation (h.of_alc (t := s.settle x) (by simp)) x e).of_alc rfl
  unfold State.poleArrival
  dsimp only
  split
  · exact h
  · split
    · exact h.of_alc (by simp)
    · split
      · exact helev _ _
      · exact h
    · split
      · exact helev _ _
      · exact h
    · split <;> exact h.of_alc (by simp)
    · split <;> exact h.of_alc (by simp)
    · exact h

theorem entriesCounted_deliver (h : EntriesCounted s) (i : Fin 16) (before : Debounced) (active : Bool) (n : Nat) :
    EntriesCounted (s.deliver i before active n) := by
  unfold State.deliver
  dsimp only
  split
  · exact h
  · split <;> exact h.of_alc (by simp)
  · split <;> exact h.of_alc (by simp)
  · split
    · exact entriesCounted_raiseOwn h _ _
    · exact h
  · split <;> exact h.of_alc (by simp)
  · split <;> exact h.of_alc (by simp)
  · exact h.of_alc (by simp)

theorem entriesCounted_changeInput (h : EntriesCounted s) (i : Fin 16) (active : Bool) : EntriesCounted (s.changeInput i active) := by
  unfold State.changeInput
  dsimp only
  split
  · exact h.of_alc (by simp)
  · exact entriesCounted_deliver (h.of_alc (by simp)) _ _ _ _

theorem entriesCounted_sampleInput (h : EntriesCounted s) (i : Fin 16) (active : Bool) : EntriesCounted (s.sampleInput i active) := by
  unfold State.sampleInput State.takeSample
  dsimp only
  split
  · exact h.of_alc (by simp)
  · split
    · exact entriesCounted_changeInput (h.of_alc (by simp)) _ _
    · exact h.of_alc (by simp)

theorem entriesCounted_iteClearOwn {p : Prop} [Decidable p] (h : EntriesCounted s) (c : Cause) :
    EntriesCounted (if p then s.clearOwn c else s) := by
  split
  · exact entriesCounted_clearOwn h c
  · exact h

theorem entriesCounted_reviewed (h : EntriesCounted s) (old : State) : EntriesCounted (s.reviewed old) := by
  refine entriesCounted_iteClearOwn ?_ _
  by_cases hp : s.role = .pole ∧ s.ps.supervising = true
  · rw [polesEnd_of_supervising hp.1 hp.2]
    have hplaced : EntriesCounted (s.polesPlaced old) := h.of_alc (by simp)
    have hlisted : EntriesCounted ((s.polesPlaced old).polesListed old) :=
      polesListed_keeps (P := EntriesCounted) (fun _ _ _ ht => entriesCounted_raiseOwn ht _ _) (fun _ _ ht => entriesCounted_clearOwn ht _) hplaced old
    exact hlisted.of_alc (by simp)
  · rw [polesEnd_of_not hp]
    exact h

theorem entriesCounted_finishBut (skip : Option (Fin 8)) (h : EntriesCounted s) (old : State) :
    EntriesCounted (s.finishBut skip old) := by
  obtain ⟨-, -, -, halc, -⟩ := finishBut_blocks skip s old
  by_cases hm : s.rsq.mode = .config
  · rw [blocksEnd_of_config hm] at halc
    exact h.of_alc halc
  · rw [blocksEnd_of_joined hm] at halc
    exact (entriesCounted_reviewed h old).of_alc (by rw [halc]; simp)

theorem body_entriesCounted {c : Instr} {u : State} (hb : s.body c = some u) (h : EntriesCounted s) : EntriesCounted u := by
  have hsame {t : State} (halc : t.alc = s.alc) : EntriesCounted t := h.of_alc halc
  cases c with
  | debouncedChange i a l =>
    obtain ⟨-, rfl⟩ := some_of_ite hb
    exact entriesCounted_changeInput (hsame (by simp)) i a
  | inputSample i a =>
    cases hb
    exact entriesCounted_sampleInput h i a
  | sampleWord w l =>
    cases hb
    exact entriesCounted_poleArrival (hsame (by simp)) _
  | latchStale m l =>
    cases hb
    exact latchFold_keeps EntriesCounted m (fun t c ht => ht.of_alc (by simp)) _ (hsame (by simp))
  | breakAssert =>
    cases hb
    exact hsame (by simp)
  | confirmTimerExpiry x l =>
    obtain ⟨-, rfl⟩ := some_of_ite hb
    unfold State.confirmExpired
    dsimp only
    split
    · exact entriesCounted_drop (hsame (by simp)) x
    · exact hsame (by simp)
  | gapTimerExpiry l =>
    obtain ⟨-, rfl⟩ := some_of_ite hb
    unfold State.gapExpired
    split
    · exact entriesCounted_raiseOwn (hsame (by simp)) _ _
    · exact hsame (by simp)
  | restoreQualifyExpiry =>
    obtain ⟨-, rfl⟩ := some_of_ite hb
    unfold State.restoreQualifyExpired
    dsimp only
    split
    · split
      · refine entriesCounted_clearOwn ?_ _
        exact h
      · exact h
    · exact h
  | unclaimedHoldExpiry =>
    obtain ⟨-, rfl⟩ := some_of_ite hb
    exact entries_filter h _
  | statusReceived a b =>
    obtain ⟨-, rfl⟩ := some_of_ite hb
    exact entriesCounted_compareCauses (hsame (by simp)) a b.causes
  | noticeReceived a b =>
    obtain ⟨-, rfl⟩ := some_of_ite hb
    have hf : EntriesCounted (((s.followFrame a).receiverTo .idle).refreshPeer a) := hsame (by simp)
    unfold State.hearNotice
    dsimp only
    split
    · exact entriesCounted_applyNotice hf a _
    · exact hf
  | alarmReceived a b =>
    obtain ⟨-, rfl⟩ := some_of_ite hb
    have hl : EntriesCounted (s.receiverTo .idle).restartIdle := hsame (by simp)
    exact entriesCounted_learnAlarms (hl.of_alarms (claimHeard_alarms _)) a _ _
  | duplicateAddress b =>
    obtain ⟨-, rfl⟩ := some_of_ite hb
    have hu : EntriesCounted ((if s.rsq.muteCause = .duplicate then s else
        s.muteDuplicate.followDuplicate b s.rsq.mode).receiverTo .idle) := by
      refine hsame ?_
      split <;> simp
    unfold State.hearDuplicate
    dsimp only
    split
    · exact hu.of_alarms (claimHeard_alarms _)
    · exact hu
  | ownNoticeComplete =>
    obtain ⟨-, rfl⟩ := some_of_ite hb
    unfold State.ownNoticeSent
    dsimp only
    split
    · exact entriesCounted_applyNotice (hsame (by simp)) _ _
    · exact hsame (by simp)
  | ownAlarmComplete =>
    obtain ⟨-, rfl⟩ := some_of_ite hb
    have hann (m : Byte) : EntriesCounted (s.frameDone.announce m) := by
      have hdone : EntriesCounted s.frameDone := hsame (by simp)
      refine entries_map hdone fun e he => ?_
      split <;> exact he
    exact (hann _).of_alarms (claimHeard_alarms _)
  | breakDetection chars =>
    obtain ⟨-, rfl⟩ := some_of_ite hb
    refine h.of_alarms ?_
    unfold State.detectBreak State.breakFound
    dsimp only
    split
    · exact alarms_congr (by simp)
    · split <;> simp [State.alarms]
  | breakEnd =>
    obtain ⟨-, rfl⟩ := some_of_ite hb
    refine h.of_alarms ?_
    unfold State.endBreak State.beginWindow
    dsimp only
    split
    · exact alarms_congr (by simp)
    · simp [State.alarms]
  | windowComplete =>
    obtain ⟨-, rfl⟩ := some_of_ite hb
    unfold State.endWindow
    dsimp only
    split
    · exact h
    · refine EntriesCounted.of_alarms (entriesCounted_unclaimedWindow ?_) rfl
      exact h
  | idleCountExpiry =>
    obtain ⟨-, rfl⟩ := some_of_ite hb
    exact h.of_alarms ((takeRoundEnd_alarms _).trans (alarms_congr (by simp)))
  | roundEnd =>
    obtain ⟨-, rfl⟩ := some_of_ite hb
    exact h.of_alarms (roundEnds_alarms s)
  | receiveError chars ending =>
    simp only [State.body] at hb
    split at hb
    · cases hb
      exact hsame (by simp)
    · split at hb
      · cases hb
        exact hsame (by simp)
      · cases hb
  | qualifyTimerExpiry | raiseMaxExpiry | quietTimerExpiry | lowerWaitMaxExpiry | lowerMaxExpiry | demandHoldExpiry
  | overdrawTimerExpiry | restoreTimerExpiry | peerStale | peerLost | muteTimerExpiry | lineActivityEnd | ownSlotStart
  | skipInterval | ownStatusComplete | echoMismatch | abortJudgedError | breakRelease | claimPositionStart | stuckLine =>
    obtain ⟨-, rfl⟩ := some_of_ite hb
    exact hsame (by simp)
  | _ => cases hb

theorem entriesCounted_restarted (c : ConfigStore) (high : Bool) (s : State) : EntriesCounted (s.restarted c high) :=
  fun _ he => by cases he

theorem entriesCounted_join (h : EntriesCounted s) : EntriesCounted s.join := by
  have hlisted : EntriesCounted s.joinListed := by
    unfold State.joinListed
    split
    · exact h
    · refine entriesCounted_raiseOwn ?_ _ _
      exact h
  rw [join_eq]
  exact hlisted.of_alc (by simp)

theorem entriesCounted_effect (r : Request) (h : EntriesCounted s) : EntriesCounted (s.effect r) := by
  cases r with
  | configWrite record items =>
    simp only [State.effect]
    split
    · exact h
    · exact entriesCounted_finishBut none (h.of_alc (by simp)) s
  | join => exact entriesCounted_finishBut none (entriesCounted_join h) s
  | setDemand | setChannel | poleCommand => exact entriesCounted_finishBut _ (h.of_alc (by simp)) s
  | reset => exact entriesCounted_restarted _ _ s
  | readStation | readAlarms | readPoles | readChannels => exact h
  | readPeer | readIo | readChanges | setAttnMask | setOutput => exact h.of_alc (by simp [State.effect])
  | sendNotice n =>
    simp only [State.effect]
    split <;> exact h.of_alc (by simp)

theorem kept_entriesCounted : Kept EntriesCounted where
  link s x h := h
  strap s high cts h := h
  sense s l h := h.of_alc (by simp)
  brk s h := h.of_alc (by simp)
  effect s r h _ := entriesCounted_effect r h
  power s high _ := entriesCounted_restarted _ _ s
  pin s high _ := entriesCounted_restarted _ _ s
  sampleError s h := h

theorem entriesCounted_tick (h : EntriesCounted s) : EntriesCounted s.tick := by
  intro e he
  rw [tick_alarms] at he
  exact entries_map h (f := fun e => { e with age := olderBy1 e.age }) (fun e he => ⟨satInc_le _ _, he.2⟩) e he

theorem entriesCounted_step (h : EntriesCounted s) (ht : step s = .next t) : EntriesCounted t :=
  kept_entriesCounted.step (fun _ _ _ hs hb => entriesCounted_finishBut none (body_entriesCounted hb hs) _)
    (fun _ _ hs => hs) (fun _ hs => entriesCounted_tick hs) ht h

end Entries

end Machine
end Sys2Proof

/-!
PROOFS. The counts of the current, the rounds, the line, the peer records and the inputs stay within their ranges
through every step (R51, R114, R136, R154, R168).
-/

namespace Sys2Proof
namespace Machine

/-! ### The current (R51) -/

/-- The demand, the own charge and the budget within their range. -/
def CurrentCounted (s : State) : Prop := s.ca.demand ≤ 2047 ∧ s.ca.ownCharge ≤ 2047 ∧ s.ca.budget ≤ 2047

/-- The state in which a round end makes its round computation (R123). -/
def State.roundStarted (s : State) : State :=
  s.withRsq { s.rsq with slotCounter := 0, roundCount := (s.rsq.roundCount + 1) % 65536, phase := .slot }

theorem takeRoundEnd_eq (s : State) :
    s.takeRoundEnd = s.roundStarted.caRound.withAlc { s.roundStarted.caRound.alc with breakHold := false } := rfl

section Current

variable {s t : State}

theorem CurrentCounted.of_ca (h : CurrentCounted s) (hca : t.ca = s.ca) : CurrentCounted t := by
  unfold CurrentCounted
  rw [hca]
  exact h

theorem formCharge_le (s : State) : s.formCharge ≤ 2047 := Nat.min_le_left _ _

theorem batteryOffer_le (s : State) : s.batteryOffer ≤ 2047 := Nat.min_le_left _ _

theorem formBudget_le (s : State) (lc : LineCondition) (v : Option Nat) : s.formBudget lc v ≤ 2047 := by
  unfold State.formBudget
  split
  · exact Nat.zero_le _
  · split
    · exact Nat.min_le_left _ _
    · exact batteryOffer_le s

theorem currentCounted_finishBut (skip : Option (Fin 8)) (h : CurrentCounted s) (old : State) :
    CurrentCounted (s.finishBut skip old) := by
  by_cases hm : s.rsq.mode = .config
  · obtain ⟨-, -, -, -, hca, -⟩ := finishBut_blocks skip s old
    rw [blocksEnd_of_config hm] at hca
    exact h.of_ca hca
  · have hend := currentEnd_finishBut skip old hm
    exact ⟨hend.demand.le.trans h.1, hend.charge.le.trans (formCharge_le _), hend.budget.le.trans (formBudget_le _ _ _)⟩

theorem currentCounted_caRound (h : CurrentCounted s) : CurrentCounted s.caRound := by
  rw [caRound_eq]
  obtain ⟨hcharge, -, -, hbudget, -, -, hdemand, -⟩ := computed_spec s
    (roundAllowance s.cfs.settings.apportion.rampStep s.ca.allowance
      (s.formShare s.formCharge (s.formBudget s.judgeLine s.sourceVoltage)))
  exact ⟨hdemand.le.trans h.1, hcharge.le.trans (formCharge_le s), hbudget.le.trans (formBudget_le s _ _)⟩

theorem currentCounted_takeRoundEnd (h : CurrentCounted s) : CurrentCounted s.takeRoundEnd := by
  have hround : CurrentCounted s.roundStarted := h
  rw [takeRoundEnd_eq]
  exact (currentCounted_caRound hround).of_ca (by simp)

theorem body_currentCounted {c : Instr} {u : State} (hb : s.body c = some u) (h : CurrentCounted s) : CurrentCounted u := by
  have hsame {t : State} (hca : t.ca = s.ca) : CurrentCounted t := h.of_ca hca
  cases c with
  | demandHoldExpiry =>
    obtain ⟨-, rfl⟩ := some_of_ite hb
    unfold State.demandHoldExpired
    split
    · refine CurrentCounted.of_ca (s := s.withCa { s.ca with demand := 0, demandHoldTimer := none }) ?_ (by simp)
      exact ⟨Nat.zero_le _, h.2⟩
    · exact h
  | overdrawTimerExpiry =>
    obtain ⟨-, rfl⟩ := some_of_ite hb
    unfold State.overdrawExpired
    split
    · refine CurrentCounted.of_ca (s := s.withCa { s.ca with overdrawFlag := true, overdrawTimer := Timer.started }) h ?_
      simp
    · exact h
  | idleCountExpiry =>
    obtain ⟨-, rfl⟩ := some_of_ite hb
    exact currentCounted_takeRoundEnd (hsame (by simp))
  | roundEnd =>
    obtain ⟨-, rfl⟩ := some_of_ite hb
    unfold State.roundEnds
    dsimp only
    split
    · exact (currentCounted_takeRoundEnd h).of_ca (by simp)
    · exact currentCounted_takeRoundEnd h
  | debouncedChange | sampleWord | latchStale | inputSample | sampleWordDiscarded =>
    obtain ⟨-, -, -, hca⟩ := body_input_frame rfl hb
    exact hsame hca
  | breakAssert =>
    cases hb
    exact hsame (by simp)
  | receiveError chars ending =>
    simp only [State.body] at hb
    split at hb
    · cases hb
      exact hsame (by simp)
    · split at hb
      · cases hb
        exact hsame (by simp)
      · cases hb
  | qualifyTimerExpiry | raiseMaxExpiry | confirmTimerExpiry | quietTimerExpiry | lowerWaitMaxExpiry | lowerMaxExpiry
  | gapTimerExpiry | restoreQualifyExpiry | unclaimedHoldExpiry | restoreTimerExpiry | peerStale | peerLost
  | muteTimerExpiry | statusReceived | noticeReceived | alarmReceived | duplicateAddress | lineActivityEnd
  | ownSlotStart | skipInterval | ownStatusComplete | ownNoticeComplete | ownAlarmComplete | echoMismatch
  | abortJudgedError | breakRelease | breakDetection | breakEnd | claimPositionStart | windowComplete | stuckLine =>
    obtain ⟨-, rfl⟩ := some_of_ite hb
    exact hsame (by simp)
  | _ => cases hb

theorem currentCounted_restarted (c : ConfigStore) (high : Bool) (s : State) : CurrentCounted (s.restarted c high) :=
  ⟨Nat.zero_le _, Nat.zero_le _, Nat.zero_le _⟩

theorem currentCounted_effect (r : Request) (h : CurrentCounted s) : CurrentCounted (s.effect r) := by
  cases r with
  | configWrite record items =>
    simp only [State.effect]
    split
    · exact h
    · exact currentCounted_finishBut none (h.of_ca (by simp)) s
  | setDemand a =>
    refine currentCounted_finishBut none ?_ s
    exact ⟨Nat.min_le_left _ _, h.2⟩
  | join | setChannel | poleCommand => exact currentCounted_finishBut _ (h.of_ca (by simp)) s
  | reset => exact currentCounted_restarted _ _ s
  | readStation | readAlarms | readPoles | readChannels => exact h
  | readPeer | readIo | readChanges | setAttnMask | setOutput => exact h.of_ca (by simp [State.effect])
  | sendNotice n =>
    simp only [State.effect]
    split <;> exact h.of_ca (by simp)

theorem kept_currentCounted : Kept CurrentCounted where
  link s x h := h
  strap s high cts h := h
  sense s l h := h.of_ca (by simp)
  brk s h := h.of_ca (by simp)
  effect s r h _ := currentCounted_effect r h
  power s high _ := currentCounted_restarted _ _ s
  pin s high _ := currentCounted_restarted _ _ s
  sampleError s h := h

theorem currentCounted_step (h : CurrentCounted s) (ht : step s = .next t) : CurrentCounted t :=
  kept_currentCounted.step (fun _ _ _ hs hb => currentCounted_finishBut none (body_currentCounted hb hs) _)
    (fun _ _ hs => hs) (fun _ hs => hs) ht h

end Current

/-! ### Rounds that an operation leaves steady -/

/-- An operation leaves the rounds but for the notices, the last own-slot kind, the window position and how far an idle
count has come. -/
structure RoundsSteady (s t : State) : Prop where
  mode : t.rsq.mode = s.rsq.mode
  cause : t.rsq.muteCause = s.rsq.muteCause
  phase : t.rsq.phase = s.rsq.phase
  slot : t.rsq.slotCounter = s.rsq.slotCounter
  round : t.rsq.roundCount = s.rsq.roundCount
  resync : t.rsq.resyncCount = s.rsq.resyncCount
  sequence : t.rsq.statusSequence = s.rsq.statusSequence
  sent : t.rsq.statusSent = s.rsq.statusSent
  timer : t.rsq.muteTimer = s.rsq.muteTimer
  idle : t.rsq.idleCount.isSome = s.rsq.idleCount.isSome

section Steady

variable {s t u : State}

theorem RoundsSteady.of_rsq (h : t.rsq = s.rsq) : RoundsSteady s t := by
  constructor <;> rw [h]

theorem RoundsSteady.trans (h : RoundsSteady s t) (g : RoundsSteady t u) : RoundsSteady s u :=
  ⟨g.mode.trans h.mode, g.cause.trans h.cause, g.phase.trans h.phase, g.slot.trans h.slot, g.round.trans h.round,
    g.resync.trans h.resync, g.sequence.trans h.sequence, g.sent.trans h.sent, g.timer.trans h.timer, g.idle.trans h.idle⟩

theorem RoundsSteady.then (h : RoundsSteady s t) (g : u.rsq = t.rsq) : RoundsSteady s u := h.trans (.of_rsq g)

theorem RoundsKept.steady (h : RoundsKept s t) : RoundsSteady s t := by
  unfold RoundsKept SameRounds at h
  constructor <;> rw [h]

theorem roundsSteady_lineTo (s : State) (l : LineLevel) : RoundsSteady s (s.lineTo l) := by
  cases l <;> constructor <;> simp

theorem roundsSteady_sense (s : State) (l : LineLevel) : RoundsSteady s (s.sense l) := by
  rcases sense_cases s l with ⟨-, e⟩ | ⟨-, e⟩ <;> rw [e]
  · exact .of_rsq rfl
  · exact roundsSteady_lineTo s l

theorem roundsSteady_restartIdle (s : State) : RoundsSteady s s.restartIdle := by
  constructor <;> simp [State.restartIdle]

theorem roundsSteady_dominantSeen (s : State) (n : Nat) : RoundsSteady s (s.dominantSeen n) := by
  have hrun (x : LineInterface) (l : LineLevel) : RoundsSteady s ((s.withLi x).lineTo l) :=
    (RoundsSteady.of_rsq (s := s) (t := s.withLi x) rfl).trans (roundsSteady_lineTo _ l)
  unfold State.dominantSeen
  dsimp only
  split
  · exact .of_rsq rfl
  · split
    · exact hrun _ _
    · split
      · exact roundsSteady_lineTo s _
      · exact hrun _ _

theorem roundsSteady_lineAfter (s : State) (chars : List Byte) (ending : RunEnding) :
    RoundsSteady s (s.lineAfter chars ending) := by
  unfold State.lineAfter
  split
  · split
    · exact roundsSteady_dominantSeen s _
    · exact (roundsSteady_restartIdle s).trans (roundsSteady_dominantSeen _ _)
  · exact (roundsSteady_lineTo s _).trans (roundsSteady_restartIdle _)

theorem roundsSteady_hearError (s : State) (chars : List Byte) (ending : RunEnding) :
    RoundsSteady s (s.hearError chars ending) := by
  have hline := roundsSteady_lineAfter s chars ending
  unfold State.hearError
  dsimp only
  split
  · exact hline.then (by simp)
  · split
    · exact hline.then (by simp)
    · exact hline.then (by simp)
    · split
      · exact hline
      · have hseen (l : List Byte) : RoundsSteady s (s.startSeen.taking .frame l) := .of_rsq (by simp)
        exact (hseen _).trans (roundsSteady_lineAfter _ _ _)
    · exact .of_rsq rfl

theorem roundsSteady_receiverTo (s : State) (r : ReceiverState) : RoundsSteady s (s.receiverTo r) := .of_rsq rfl

theorem roundsSteady_frameDone (s : State) : RoundsSteady s s.frameDone := .of_rsq rfl

theorem roundsSteady_compareEcho (s : State) (i : Nat) (r : BitVec 10) : RoundsSteady s (s.compareEcho i r) := by
  have hrun (x : LineInterface) (n : Nat) : RoundsSteady s ((s.withLi x).dominantSeen n) :=
    (RoundsSteady.of_rsq (s := s) (t := s.withLi x) rfl).trans (roundsSteady_dominantSeen _ n)
  unfold State.compareEcho
  split
  · exact .of_rsq rfl
  · split
    · exact .of_rsq rfl
    · exact hrun _ _

theorem roundsSteady_dominantFor (s : State) (n : Nat) : RoundsSteady s (s.dominantFor n) :=
  (RoundsSteady.of_rsq (s := s) (t := s.withLi { s.li with dominantRun := n }) rfl).trans (roundsSteady_lineTo _ _)

theorem roundsSteady_stickLine (s : State) : RoundsSteady s s.stickLine := (roundsSteady_dominantFor s _).then rfl

theorem roundsSteady_presentClaim (s : State) (p : Fin 16) : RoundsSteady s (s.presentClaim p) := by
  unfold State.presentClaim
  dsimp only
  split <;> constructor <;> rfl

theorem roundsSteady_retireHead (s : State) : RoundsSteady s s.retireHead := by
  constructor <;> rfl

theorem roundsKept_deliver (s : State) (i : Fin 16) (before : Debounced) (active : Bool) (n : Nat) :
    RoundsKept s (s.deliver i before active n) := by
  unfold State.deliver
  dsimp only
  split
  · exact .of_rsq rfl
  · split <;> exact .of_rsq (by simp)
  · split
    · exact roundsKept_placeInternal s _
    · exact .of_rsq rfl
  · split <;> exact .of_rsq (by simp)
  · split
    · exact (roundsKept_placeInternal s (.command .raise .both)).trans (.of_rsq (by simp))
    · exact .of_rsq rfl
  · split
    · exact (roundsKept_placeInternal s (.command .lower .both)).trans (.of_rsq (by simp))
    · exact .of_rsq rfl
  · exact .of_rsq (by simp)

theorem roundsKept_changeInput (s : State) (i : Fin 16) (active : Bool) : RoundsKept s (s.changeInput i active) := by
  unfold State.changeInput
  dsimp only
  have hu : ∀ x y, RoundsKept s (((s.withInput i x).withIou y).setTopics { inputs := true }) := fun x y => .of_rsq (by simp)
  split
  · exact hu _ _
  · exact (hu _ _).trans (roundsKept_deliver _ _ _ _ _)

theorem roundsKept_sampleInput (s : State) (i : Fin 16) (active : Bool) : RoundsKept s (s.sampleInput i active) := by
  have hu : ∀ x y, RoundsKept s (((((s.contact i active).withIou x).settled i).withInput i y)) := fun x y => .of_rsq (by simp)
  unfold State.sampleInput State.takeSample
  dsimp only
  split
  · exact .of_rsq (by simp)
  · split
    · exact (hu _ _).trans (roundsKept_changeInput _ i active)
    · exact hu _ _

theorem roundsKept_restoreQualifyExpired (s : State) : RoundsKept s s.restoreQualifyExpired := by
  have hstop : RoundsKept s (s.withPs { s.ps with restoreQualifyTimer := none }) := .of_rsq rfl
  unfold State.restoreQualifyExpired
  dsimp only
  split
  · split
    · exact hstop.trans (roundsKept_clearOwn _ _)
    · exact hstop
  · exact .of_rsq rfl

end Steady

/-- The commands whose effect moves the rounds: their mode, their phase, their counter or their counts. -/
def movesRounds : Instr → Bool
  | .statusReceived _ _ | .noticeReceived _ _ | .duplicateAddress _ | .skipInterval | .roundEnd | .idleCountExpiry
  | .ownStatusComplete | .ownNoticeComplete | .abortJudgedError | .muteTimerExpiry | .breakDetection _ | .breakEnd
  | .windowComplete => true
  | _ => false

/-- Every other event leaves the rounds steady. -/
theorem body_roundsSteady {c : Instr} {s u : State} (hb : s.body c = some u) (hc : movesRounds c = false) :
    RoundsSteady s u := by
  cases c with
  | debouncedChange i a l =>
    obtain ⟨-, rfl⟩ := some_of_ite hb
    have hl : RoundsSteady s ((s.sense l).settled i) := (roundsSteady_sense s l).then (by simp)
    exact hl.trans (roundsKept_changeInput _ i a).steady
  | inputSample i a =>
    cases hb
    exact (roundsKept_sampleInput s i a).steady
  | sampleWord w l =>
    cases hb
    exact (roundsSteady_sense s l).then (by simp)
  | latchStale m l =>
    cases hb
    exact latchFold_keeps (RoundsSteady s) m (fun t c ht => ht.then (by simp)) _ (roundsSteady_sense s l)
  | breakAssert =>
    cases hb
    exact roundsSteady_sense s _
  | confirmTimerExpiry x l | gapTimerExpiry l | ownSlotStart l taken =>
    obtain ⟨-, rfl⟩ := some_of_ite hb
    exact (roundsSteady_sense s l).then (by simp)
  | claimPositionStart p l =>
    obtain ⟨-, rfl⟩ := some_of_ite hb
    exact (roundsSteady_sense s l).trans (roundsSteady_presentClaim _ p)
  | restoreQualifyExpiry =>
    obtain ⟨-, rfl⟩ := some_of_ite hb
    exact (roundsKept_restoreQualifyExpired s).steady
  | alarmReceived a b =>
    obtain ⟨-, rfl⟩ := some_of_ite hb
    exact ((roundsSteady_receiverTo s .idle).trans (roundsSteady_restartIdle _)).then (by simp [State.hearAlarm])
  | receiveError chars ending =>
    simp only [State.body] at hb
    split at hb
    · cases hb
      exact roundsSteady_hearError s chars ending
    · split at hb
      · cases hb
        exact roundsSteady_dominantSeen s _
      · cases hb
  | lineActivityEnd =>
    obtain ⟨-, rfl⟩ := some_of_ite hb
    exact roundsSteady_hearError s _ _
  | ownAlarmComplete =>
    obtain ⟨-, rfl⟩ := some_of_ite hb
    exact (roundsSteady_frameDone s).then (by simp [State.ownAlarmSent])
  | echoMismatch i r =>
    obtain ⟨-, rfl⟩ := some_of_ite hb
    exact roundsSteady_compareEcho s i r
  | stuckLine =>
    obtain ⟨-, rfl⟩ := some_of_ite hb
    exact roundsSteady_stickLine s
  | qualifyTimerExpiry | raiseMaxExpiry | quietTimerExpiry | lowerWaitMaxExpiry | lowerMaxExpiry | unclaimedHoldExpiry
  | demandHoldExpiry | overdrawTimerExpiry | restoreTimerExpiry | peerStale | peerLost | breakRelease =>
    obtain ⟨-, rfl⟩ := some_of_ite hb
    exact .of_rsq (by simp)
  | statusReceived | noticeReceived | duplicateAddress | skipInterval | roundEnd | idleCountExpiry | ownStatusComplete
  | ownNoticeComplete | abortJudgedError | muteTimerExpiry | breakDetection | breakEnd | windowComplete => cases hc
  | _ => cases hb

/-! ### The rounds' counts (R114) -/

/-- The counts of the Round Sequencer within their ranges. -/
def RoundsCounted (s : State) : Prop :=
  s.rsq.roundCount ≤ 65535 ∧ s.rsq.resyncCount ≤ 255 ∧ s.rsq.statusSequence ≤ 255

section Rounds

variable {s t : State}

theorem RoundsCounted.same (h : RoundsCounted s) (hr : t.rsq.roundCount = s.rsq.roundCount)
    (hy : t.rsq.resyncCount = s.rsq.resyncCount) (hq : t.rsq.statusSequence = s.rsq.statusSequence) : RoundsCounted t := by
  unfold RoundsCounted
  rw [hr, hy, hq]
  exact h

theorem RoundsCounted.steady (h : RoundsCounted s) (g : RoundsSteady s t) : RoundsCounted t := h.same g.round g.resync g.sequence

theorem roundsCounted_countResync (h : RoundsCounted s) (a : Nat) : RoundsCounted (s.countResync a) := by
  unfold State.countResync
  split
  · exact h
  · exact ⟨h.1, satInc_le _ _, h.2.2⟩

theorem roundsCounted_followFrame (h : RoundsCounted s) (a : Fin 16) : RoundsCounted (s.followFrame a) := by
  unfold State.followFrame
  split
  · exact h
  · split <;> exact h
  · split
    · exact h
    · exact (roundsCounted_countResync h a.val).same rfl rfl rfl
  · split
    · exact h
    · exact (roundsCounted_countResync h a.val).same rfl rfl rfl

/-- The slot timed after a frame of the own address that passes none: the round-end interval at N (R114, R134). -/
def State.timeSlot (s : State) : State :=
  s.withRsq { s.rsq with phase := if s.rsq.slotCounter = s.roundLength then .roundEnd else .slot }

/-- What a frame of the own address can do to the slot counter (R122, R134). -/
theorem followDuplicate_cases (s : State) (b : FrameBody) (was : Mode) :
    s.followDuplicate b was = s ∨ s.followDuplicate b was = s.passSlot s.own.val ∨
      s.followDuplicate b was = (s.countResync s.own.val).passSlot s.own.val ∨
      s.rsq.phase = .untimed ∧ s.followDuplicate b was = s.timeSlot := by
  unfold State.followDuplicate
  dsimp only
  by_cases hw : s.rsq.phase = .window
  · rw [if_pos hw]
    exact .inl rfl
  · rw [if_neg hw]
    cases b with
    | alarm =>
      simp only [Bool.false_eq_true, if_false]
      split
      next hu => exact .inr (.inr (.inr ⟨hu, rfl⟩))
      next => exact .inl rfl
    | status | notice =>
      simp only [if_true]
      split
      · exact .inr (.inl rfl)
      · exact .inr (.inr (.inl rfl))

theorem roundsCounted_followDuplicate (h : RoundsCounted s) (b : FrameBody) (was : Mode) :
    RoundsCounted (s.followDuplicate b was) := by
  rcases followDuplicate_cases s b was with e | e | e | ⟨-, e⟩ <;> rw [e]
  · exact h
  · exact h
  · exact (roundsCounted_countResync h s.own.val).same rfl rfl rfl
  · exact h

theorem roundsCounted_takeRoundEnd (h : RoundsCounted s) : RoundsCounted s.takeRoundEnd := by
  have hround : RoundsCounted s.roundStarted := ⟨Nat.le_of_lt_succ (Nat.mod_lt _ (by decide)), h.2⟩
  rw [takeRoundEnd_eq]
  exact hround.steady (.of_rsq (by simp))

theorem roundsCounted_hearNotice (h : RoundsCounted s) (a : Fin 16) (b : NoticeBody) :
    RoundsCounted (s.hearNotice a b) := by
  have hf : RoundsCounted (((s.followFrame a).receiverTo .idle).refreshPeer a) :=
    (roundsCounted_followFrame h a).same rfl rfl rfl
  unfold State.hearNotice
  dsimp only
  split
  · exact hf.steady (.of_rsq (by simp))
  · exact hf

theorem roundsCounted_hearDuplicate (h : RoundsCounted s) (b : FrameBody) : RoundsCounted (s.hearDuplicate b) := by
  have ht : RoundsCounted (if s.rsq.muteCause = .duplicate then s else
      s.muteDuplicate.followDuplicate b s.rsq.mode) := by
    split
    · exact h
    · refine roundsCounted_followDuplicate ?_ b _
      exact h
  have hu : ∀ v : State, RoundsCounted v → RoundsCounted (v.receiverTo .idle) := fun v hv => hv.same rfl rfl rfl
  unfold State.hearDuplicate
  dsimp only
  cases b with
  | alarm => exact (hu _ ht).steady (.of_rsq (by simp))
  | status | notice => exact hu _ ht

theorem roundsCounted_roundEnds (h : RoundsCounted s) : RoundsCounted s.roundEnds := by
  unfold State.roundEnds
  dsimp only
  split
  · exact (roundsCounted_takeRoundEnd h).same (by simp) (by simp) (by simp)
  · exact roundsCounted_takeRoundEnd h

theorem body_roundsCounted {c : Instr} {u : State} (hb : s.body c = some u) (h : RoundsCounted s) : RoundsCounted u := by
  by_cases hc : movesRounds c = true
  · cases c with
    | statusReceived a b =>
      obtain ⟨-, rfl⟩ := some_of_ite hb
      exact (roundsCounted_followFrame h a).same (by simp [State.hearStatus, State.receiverTo])
        (by simp [State.hearStatus, State.receiverTo]) (by simp [State.hearStatus, State.receiverTo])
    | noticeReceived a b =>
      obtain ⟨-, rfl⟩ := some_of_ite hb
      exact roundsCounted_hearNotice h a b
    | duplicateAddress b =>
      obtain ⟨-, rfl⟩ := some_of_ite hb
      exact roundsCounted_hearDuplicate h b
    | skipInterval =>
      obtain ⟨-, rfl⟩ := some_of_ite hb
      exact h
    | roundEnd =>
      obtain ⟨-, rfl⟩ := some_of_ite hb
      exact roundsCounted_roundEnds h
    | idleCountExpiry =>
      obtain ⟨-, rfl⟩ := some_of_ite hb
      refine roundsCounted_takeRoundEnd ?_
      exact h
    | ownStatusComplete =>
      obtain ⟨-, rfl⟩ := some_of_ite hb
      exact ⟨h.1, h.2.1, Nat.le_of_lt_succ (Nat.mod_lt _ (by decide))⟩
    | ownNoticeComplete =>
      obtain ⟨-, rfl⟩ := some_of_ite hb
      unfold State.ownNoticeSent
      dsimp only
      split
      · refine RoundsCounted.steady ?_ (.of_rsq (applyNotice_frame _ _ _).2.2.2.1)
        exact h
      · exact h
    | abortJudgedError =>
      obtain ⟨-, rfl⟩ := some_of_ite hb
      unfold State.judgeAbort
      dsimp only
      split <;> exact h.same (by simp [State.muteTxErrors]) (by simp [State.muteTxErrors]) (by simp [State.muteTxErrors])
    | muteTimerExpiry =>
      obtain ⟨-, rfl⟩ := some_of_ite hb
      unfold State.muteExpired
      dsimp only
      split <;> exact h
    | breakDetection chars =>
      obtain ⟨-, rfl⟩ := some_of_ite hb
      have hd : RoundsCounted (s.dominantFor Figures.breakBits) := h.steady (roundsSteady_dominantFor s _)
      unfold State.detectBreak State.breakFound
      dsimp only
      split
      · exact hd
      · split
        · exact hd.same (by simp) (by simp) (by simp)
        · exact hd
    | breakEnd =>
      obtain ⟨-, rfl⟩ := some_of_ite hb
      unfold State.endBreak State.beginWindow
      dsimp only
      split
      · exact h
      · refine RoundsCounted.steady ?_ (roundsSteady_presentClaim _ 0)
        exact h
    | windowComplete =>
      obtain ⟨-, rfl⟩ := some_of_ite hb
      unfold State.endWindow
      dsimp only
      split
      · exact h
      · exact h.same (by simp) (by simp) (by simp)
    | _ => cases hc
  · exact h.steady (body_roundsSteady hb (Bool.eq_false_iff.2 hc))

theorem roundsCounted_finishBut (skip : Option (Fin 8)) (h : RoundsCounted s) (old : State) :
    RoundsCounted (s.finishBut skip old) := h.steady (roundsKept_finishBut skip s old).steady

theorem roundsCounted_restarted (c : ConfigStore) (high : Bool) (s : State) : RoundsCounted (s.restarted c high) :=
  ⟨Nat.zero_le _, Nat.zero_le _, Nat.zero_le _⟩

theorem roundsCounted_effect (r : Request) (h : RoundsCounted s) : RoundsCounted (s.effect r) := by
  have hsame {t : State} (hr : t.rsq = s.rsq) : RoundsCounted t := h.steady (.of_rsq hr)
  cases r with
  | configWrite record items =>
    simp only [State.effect]
    split
    · exact h
    · exact roundsCounted_finishBut none (hsame (by simp)) s
  | join =>
    refine roundsCounted_finishBut none ?_ s
    rw [join_eq]
    exact h.same (by simp) (by simp) (by simp)
  | setDemand | setChannel | poleCommand => exact roundsCounted_finishBut _ (hsame (by simp)) s
  | reset => exact roundsCounted_restarted _ _ s
  | readStation | readAlarms | readPoles | readChannels => exact h
  | readPeer | readIo | readChanges | setAttnMask | setOutput => exact hsame (by simp [State.effect])
  | sendNotice n =>
    simp only [State.effect]
    split <;> exact h

theorem kept_roundsCounted : Kept RoundsCounted where
  link s x h := h
  strap s high cts h := h
  sense s l h := h.steady (roundsSteady_sense s l)
  brk s h := h.steady (.of_rsq (by simp))
  effect s r h _ := roundsCounted_effect r h
  power s high _ := roundsCounted_restarted _ _ s
  pin s high _ := roundsCounted_restarted _ _ s
  sampleError s h := h

theorem roundsCounted_step (h : RoundsCounted s) (ht : step s = .next t) : RoundsCounted t :=
  kept_roundsCounted.step (fun _ _ _ hs hb => roundsCounted_finishBut none (body_roundsCounted hb hs) _)
    (fun _ _ hs => hs) (fun _ hs => hs) ht h

end Rounds

end Machine
end Sys2Proof

/-!
PROOFS. The counts of the line, the peer records and the inputs stay within their ranges through every step, and with
the others all the counts do (O6; R136, R154, R168).
-/

namespace Sys2Proof
namespace Machine

/-! ### The line (R136, R138) -/

/-- The receive error count and the dominant-run count within their ranges. -/
def LineCounted (s : State) : Prop := s.li.rxErrors ≤ 255 ∧ s.li.dominantRun ≤ 257

section Line

variable {s t : State}

theorem dominantRun_lineTo (s : State) (l : LineLevel) :
    (s.lineTo l).li.dominantRun = match l with | .recessive => 0 | .dominant => s.li.dominantRun := by
  cases l with
  | recessive => simp
  | dominant =>
    rw [lineTo_dominant_li]
    split <;> rfl

theorem LineCounted.of_li (h : LineCounted s) (hl : t.li = s.li) : LineCounted t := by
  unfold LineCounted
  rw [hl]
  exact h

theorem LineCounted.same (h : LineCounted s) (he : t.li.rxErrors = s.li.rxErrors)
    (hr : t.li.dominantRun = s.li.dominantRun) : LineCounted t := by
  unfold LineCounted
  rw [he, hr]
  exact h

theorem lineCounted_lineTo (h : LineCounted s) (l : LineLevel) : LineCounted (s.lineTo l) := by
  refine ⟨(lineTo_fields s l).2.2.2.2.2.2.2.1.le.trans h.1, ?_⟩
  rw [dominantRun_lineTo]
  cases l
  · exact Nat.zero_le _
  · exact h.2

theorem lineCounted_sense (h : LineCounted s) (l : LineLevel) : LineCounted (s.sense l) := by
  rcases sense_cases s l with ⟨-, e⟩ | ⟨-, e⟩ <;> rw [e]
  · exact h
  · exact lineCounted_lineTo h l

theorem lineCounted_dominantSeen (h : LineCounted s) (n : Nat) : LineCounted (s.dominantSeen n) := by
  have hrun : ∀ m, min n (if Figures.breakBits ≤ m then Figures.stuckBits - 1 else Figures.breakBits - 1) ≤ 257 := by
    intro m
    refine (Nat.min_le_right _ _).trans ?_
    split <;> decide
  unfold State.dominantSeen
  dsimp only
  split
  · exact h
  · split
    · refine lineCounted_lineTo ?_ .dominant
      exact ⟨h.1, Nat.max_le.2 ⟨h.2, hrun _⟩⟩
    · split
      · exact lineCounted_lineTo h _
      · refine lineCounted_lineTo ?_ .dominant
        exact ⟨h.1, hrun _⟩

theorem lineCounted_lineAfter (h : LineCounted s) (chars : List Byte) (ending : RunEnding) :
    LineCounted (s.lineAfter chars ending) := by
  unfold State.lineAfter
  split
  · split
    · exact lineCounted_dominantSeen h _
    · exact lineCounted_dominantSeen (s := s.restartIdle) h _
  · exact lineCounted_lineTo h .recessive

theorem lineCounted_countRxError (h : LineCounted s) (k : RxErrorKind) : LineCounted (s.countRxError k) := by
  have hc : LineCounted (s.withLi { s.li with rxErrors := satInc 255 s.li.rxErrors, lastRxError := k }) := ⟨satInc_le _ _, h.2⟩
  exact hc.of_li (by simp [State.countRxError])

theorem lineCounted_hearError (h : LineCounted s) (chars : List Byte) (ending : RunEnding) :
    LineCounted (s.hearError chars ending) := by
  have hline := lineCounted_lineAfter h chars ending
  have htake (r : ReceiverState) (l : List Byte) : LineCounted ((s.lineAfter chars ending).taking r l) := hline
  unfold State.hearError
  dsimp only
  split
  · exact htake _ _
  · split
    · exact lineCounted_countRxError (htake _ _) _
    · exact htake _ _
    · split
      · exact hline
      · exact lineCounted_lineAfter (s := s.startSeen.taking .frame _) h _ _
    · exact h

theorem lineCounted_receiverTo (h : LineCounted s) (r : ReceiverState) : LineCounted (s.receiverTo r) :=
  lineCounted_lineTo (s := s.taking r []) h _

theorem lineCounted_frameDone (h : LineCounted s) : LineCounted s.frameDone := ⟨h.1, Nat.zero_le _⟩

theorem lineCounted_presentClaim (h : LineCounted s) (p : Fin 16) : LineCounted (s.presentClaim p) := by
  unfold State.presentClaim
  dsimp only
  split <;> exact h

theorem lineCounted_finishBut (skip : Option (Fin 8)) (h : LineCounted s) (old : State) : LineCounted (s.finishBut skip old) :=
  h.same (by simp) (by simp)

theorem lineCounted_dominantFor {n : Nat} (h : LineCounted s) (hn : n ≤ 257) : LineCounted (s.dominantFor n) :=
  lineCounted_lineTo (s := s.withLi { s.li with dominantRun := n }) ⟨h.1, hn⟩ _

theorem body_lineCounted {c : Instr} {u : State} (hb : s.body c = some u) (h : LineCounted s) : LineCounted u := by
  have hsense (l : LineLevel) : LineCounted (s.sense l) := lineCounted_sense h l
  cases c with
  | debouncedChange i a l | confirmTimerExpiry x l | gapTimerExpiry l =>
    obtain ⟨-, rfl⟩ := some_of_ite hb
    exact (hsense l).of_li (by simp)
  | sampleWord w l =>
    cases hb
    exact (hsense l).of_li (by simp)
  | latchStale m l =>
    cases hb
    exact latchFold_keeps LineCounted m (fun t c ht => ht.of_li (by simp)) _ (hsense l)
  | inputSample =>
    cases hb
    exact h.of_li (by simp)
  | breakAssert =>
    cases hb
    exact hsense _
  | statusReceived a b =>
    obtain ⟨-, rfl⟩ := some_of_ite hb
    exact (lineCounted_receiverTo (h.of_li (t := s.followFrame a) (by simp)) .idle).of_li (by simp [State.hearStatus])
  | noticeReceived a b =>
    obtain ⟨-, rfl⟩ := some_of_ite hb
    have hf : LineCounted (((s.followFrame a).receiverTo .idle).refreshPeer a) :=
      (lineCounted_receiverTo (h.of_li (t := s.followFrame a) (by simp)) .idle).of_li (by simp)
    unfold State.hearNotice
    dsimp only
    split
    · exact hf.of_li (by simp)
    · exact hf
  | alarmReceived a b =>
    obtain ⟨-, rfl⟩ := some_of_ite hb
    exact (lineCounted_receiverTo h .idle).of_li (by simp [State.hearAlarm])
  | duplicateAddress b =>
    obtain ⟨-, rfl⟩ := some_of_ite hb
    have hu : LineCounted ((if s.rsq.muteCause = .duplicate then s else
        s.muteDuplicate.followDuplicate b s.rsq.mode).receiverTo .idle) := by
      refine lineCounted_receiverTo (h.of_li ?_) .idle
      split <;> simp
    unfold State.hearDuplicate
    dsimp only
    split
    · exact hu.of_li (by simp)
    · exact hu
  | receiveError chars ending =>
    simp only [State.body] at hb
    split at hb
    · cases hb
      exact lineCounted_hearError h chars ending
    · split at hb
      · cases hb
        exact lineCounted_dominantSeen h _
      · cases hb
  | lineActivityEnd =>
    obtain ⟨-, rfl⟩ := some_of_ite hb
    exact lineCounted_hearError h _ _
  | ownSlotStart l taken =>
    obtain ⟨-, rfl⟩ := some_of_ite hb
    unfold State.startOwnSlot
    split <;> exact hsense l
  | claimPositionStart p l =>
    obtain ⟨-, rfl⟩ := some_of_ite hb
    exact lineCounted_presentClaim (hsense l) p
  | ownStatusComplete =>
    obtain ⟨-, rfl⟩ := some_of_ite hb
    exact lineCounted_frameDone h
  | ownNoticeComplete =>
    obtain ⟨-, rfl⟩ := some_of_ite hb
    unfold State.ownNoticeSent
    dsimp only
    split
    · exact (lineCounted_frameDone h).of_li (by simp)
    · exact lineCounted_frameDone h
  | ownAlarmComplete =>
    obtain ⟨-, rfl⟩ := some_of_ite hb
    exact (lineCounted_frameDone h).of_li (by simp [State.ownAlarmSent])
  | echoMismatch i r =>
    obtain ⟨-, rfl⟩ := some_of_ite hb
    unfold State.compareEcho
    split
    · exact h
    · split
      · exact h
      · refine lineCounted_dominantSeen (s := s.withLi _) ?_ _
        split <;> exact h
  | abortJudgedError =>
    obtain ⟨-, rfl⟩ := some_of_ite hb
    have hl : ∀ x n, LineCounted (((s.withLi { s.li with abortPending := x, txErrors := n }).lineTo .recessive).setTopics
        { lineErrors := true }) := fun x n =>
      (lineCounted_lineTo (s := s.withLi { s.li with abortPending := x, txErrors := n }) h .recessive).of_li (by simp)
    unfold State.judgeAbort
    dsimp only
    split
    · exact hl _ _
    · exact hl _ _
  | muteTimerExpiry =>
    obtain ⟨-, rfl⟩ := some_of_ite hb
    unfold State.muteExpired
    dsimp only
    split <;> exact h
  | idleCountExpiry =>
    obtain ⟨-, rfl⟩ := some_of_ite hb
    exact (lineCounted_receiverTo h .idle).of_li (by simp)
  | breakRelease =>
    obtain ⟨-, rfl⟩ := some_of_ite hb
    exact h
  | breakDetection chars =>
    obtain ⟨-, rfl⟩ := some_of_ite hb
    have hd : LineCounted (s.dominantFor Figures.breakBits) := lineCounted_dominantFor h (by decide)
    unfold State.detectBreak State.breakFound
    dsimp only
    split
    · exact hd
    · split
      · refine lineCounted_countRxError ?_ _
        exact hd
      · exact hd
  | breakEnd =>
    obtain ⟨-, rfl⟩ := some_of_ite hb
    unfold State.endBreak State.beginWindow
    dsimp only
    split
    · exact ⟨h.1, Nat.zero_le _⟩
    · refine lineCounted_presentClaim ?_ 0
      exact ⟨h.1, Nat.zero_le _⟩
  | stuckLine =>
    obtain ⟨-, rfl⟩ := some_of_ite hb
    have hd : LineCounted (s.dominantFor Figures.stuckBits) := lineCounted_dominantFor h (by decide)
    exact hd
  | qualifyTimerExpiry | raiseMaxExpiry | quietTimerExpiry | lowerWaitMaxExpiry | lowerMaxExpiry | restoreQualifyExpiry
  | unclaimedHoldExpiry | demandHoldExpiry | overdrawTimerExpiry | restoreTimerExpiry | peerStale | peerLost
  | skipInterval | roundEnd | windowComplete =>
    obtain ⟨-, rfl⟩ := some_of_ite hb
    exact h.of_li (by simp)
  | _ => cases hb

theorem lineCounted_restarted (c : ConfigStore) (high : Bool) (s : State) : LineCounted (s.restarted c high) :=
  ⟨Nat.zero_le _, Nat.zero_le _⟩

theorem writeConfig_li (record : Nat) (vs : List Nat) (s : State) :
    (s.writeConfig record vs).li =
      if s.station.bitRate = (writeRecord record vs s.cfs.settings).station.bitRate then s.li else s.restartRun.li := by
  have hrewrite (t : State) : (rewriteChannel record t).li = t.li := by
    unfold rewriteChannel
    split <;> simp
  unfold State.writeConfig
  rw [hrewrite, withIou_li]
  dsimp only
  split <;> split <;> rfl

theorem lineCounted_effect (r : Request) (h : LineCounted s) : LineCounted (s.effect r) := by
  cases r with
  | configWrite record items =>
    simp only [State.effect]
    split
    · exact h
    · refine lineCounted_finishBut none ?_ s
      unfold LineCounted
      rw [writeConfig_li]
      split
      · exact h
      · exact ⟨h.1, Nat.zero_le _⟩
  | join =>
    refine lineCounted_finishBut none ?_ s
    rw [join_eq]
    exact h.same (by simp [LineInterface.taking]) (by simp [LineInterface.taking])
  | setDemand | setChannel | poleCommand => exact lineCounted_finishBut _ (h.of_li (by simp)) s
  | reset => exact lineCounted_restarted _ _ s
  | readStation | readAlarms | readPoles | readChannels => exact h
  | readPeer | readIo | readChanges | setAttnMask | setOutput => exact h.of_li (by simp [State.effect])
  | sendNotice n =>
    simp only [State.effect]
    split <;> exact h

theorem kept_lineCounted : Kept LineCounted where
  link s x h := h
  strap s high cts h := h
  sense s l h := lineCounted_sense h l
  brk s h := h.same (by simp) (by simp)
  effect s r h _ := lineCounted_effect r h
  power s high _ := lineCounted_restarted _ _ s
  pin s high _ := lineCounted_restarted _ _ s
  sampleError s h := h

theorem lineCounted_tick (h : LineCounted s) : LineCounted s.tick := by
  refine ⟨h.1, ?_⟩
  show s.runTicked ≤ 257
  rw [runTicked_eq]
  split
  · refine (Nat.min_le_left _ _).trans ?_
    split <;> decide
  · exact h.2

theorem lineCounted_step (h : LineCounted s) (ht : step s = .next t) : LineCounted t :=
  kept_lineCounted.step (fun _ _ _ hs hb => lineCounted_finishBut none (body_lineCounted hb hs) _)
    (fun _ _ hs => hs) (fun _ hs => lineCounted_tick hs) ht h

end Line

/-! ### The peer records (R154) -/

/-- A record's age and sequence gaps within their ranges. -/
def PeerCounted (r : Peer) : Prop := r.age ≤ 65535 ∧ r.sequenceGaps ≤ 255

/-- Every record's age and sequence gaps within their ranges. -/
def PeersCounted (s : State) : Prop := ∀ a, PeerCounted (s.peer a)

section Peers

variable {s t : State}

theorem PeersCounted.of_pt (h : PeersCounted s) (hp : t.pt = s.pt) : PeersCounted t := fun a => peer_congr hp a ▸ h a

theorem peersCounted_withPeer (h : PeersCounted s) (a : Fin 16) {r : Peer} (hr : PeerCounted r) : PeersCounted (s.withPeer a r) := by
  intro b
  by_cases hb : b = a
  · rw [hb, peer_withPeer_self]
    exact hr
  · rw [peer_withPeer_ne s r hb]
    exact h b

theorem peerCounted_filed {r : Peer} (h : PeerCounted r) (new : Stated) : PeerCounted (r.filed new) := by
  refine ⟨Nat.zero_le _, ?_⟩
  unfold Peer.filed
  dsimp only
  split
  · exact satInc_le _ _
  · exact h.2

theorem peerCounted_refreshed {r : Peer} (h : PeerCounted r) : PeerCounted r.refreshed := by
  unfold Peer.refreshed
  split
  · exact ⟨Nat.zero_le _, h.2⟩
  · exact ⟨Nat.zero_le _, h.2⟩
  · exact h
  · exact h

theorem peersCounted_finishBut (skip : Option (Fin 8)) (h : PeersCounted s) (old : State) : PeersCounted (s.finishBut skip old) :=
  h.of_pt (by simp)

theorem body_peersCounted {c : Instr} {u : State} (hb : s.body c = some u) (h : PeersCounted s) : PeersCounted u := by
  intro a
  by_cases ha : peerOf c = some a
  · cases c with
    | statusReceived b body =>
      obtain ⟨-, rfl⟩ := some_of_ite hb
      have hf : PeersCounted (((s.followFrame b).receiverTo .idle).fileStatus b body) := by
        have hv : PeersCounted ((s.followFrame b).receiverTo .idle) := h.of_pt (by simp)
        have hw := peersCounted_withPeer hv b (peerCounted_filed (hv b) (readStatus body))
        unfold State.fileStatus
        dsimp only
        split
        · exact hw.of_pt (by simp)
        · exact hw
      exact hf.of_pt (by simp [State.hearStatus]) a
    | noticeReceived b body =>
      obtain ⟨-, rfl⟩ := some_of_ite hb
      have hf : PeersCounted (((s.followFrame b).receiverTo .idle).refreshPeer b) := by
        have hv : PeersCounted ((s.followFrame b).receiverTo .idle) := h.of_pt (by simp)
        exact peersCounted_withPeer hv b (peerCounted_refreshed (hv b))
      unfold State.hearNotice
      dsimp only
      split
      · exact hf.of_pt (by simp) a
      · exact hf a
    | peerStale b =>
      obtain ⟨-, rfl⟩ := some_of_ite hb
      exact peersCounted_withPeer h b (r := { s.peer b with state := .stale }) (h b) a
    | peerLost b =>
      obtain ⟨-, rfl⟩ := some_of_ite hb
      exact peersCounted_withPeer h b (r := { s.peer b with state := .lost }) (h b) a
    | _ => cases ha
  · rw [body_peer hb ha]
    exact h a

theorem peersCounted_restarted (c : ConfigStore) (high : Bool) (s : State) : PeersCounted (s.restarted c high) := by
  intro a
  have hp : (s.restarted c high).peer a = {} := by simp [State.peer, State.restarted]
  rw [hp]
  exact ⟨Nat.zero_le _, Nat.zero_le _⟩

theorem peersCounted_effect (r : Request) (h : PeersCounted s) : PeersCounted (s.effect r) := by
  cases r with
  | configWrite record items =>
    simp only [State.effect]
    split
    · exact h
    · exact h.of_pt (by simp)
  | join | setDemand | setChannel | poleCommand => exact h.of_pt (by simp [State.effect])
  | reset => exact peersCounted_restarted _ _ s
  | readStation | readAlarms | readPoles | readChannels => exact h
  | readPeer a => exact peersCounted_withPeer h _ (h _)
  | readIo | readChanges | setAttnMask | setOutput => exact h.of_pt (by simp [State.effect])
  | sendNotice n =>
    simp only [State.effect]
    split <;> exact h

theorem kept_peersCounted : Kept PeersCounted where
  link s x h := h
  strap s high cts h := h
  sense s l h := h.of_pt (by simp)
  brk s h := h.of_pt (by simp)
  effect s r h _ := peersCounted_effect r h
  power s high _ := peersCounted_restarted _ _ s
  pin s high _ := peersCounted_restarted _ _ s
  sampleError s h := h

theorem peersCounted_tick (h : PeersCounted s) : PeersCounted s.tick := by
  intro a
  rw [tick_peer]
  unfold Peer.ticked
  split
  · exact h a
  · exact ⟨satInc_le _ _, (h a).2⟩

theorem peersCounted_step (h : PeersCounted s) (ht : step s = .next t) : PeersCounted t :=
  kept_peersCounted.step (fun _ _ _ hs hb => peersCounted_finishBut none (body_peersCounted hb hs) _)
    (fun _ _ hs => hs) (fun _ hs => peersCounted_tick hs) ht h

end Peers

/-! ### The inputs and the latches (R168) -/

/-- An input's run within its range. -/
def InputCounted (x : Input) : Prop := 1 ≤ x.run ∧ x.run ≤ 15

/-- The runs of the inputs, the values and ages of the latches and the sample word errors within their ranges. -/
def InputsCounted (x : InputOutput) : Prop :=
  (∀ i, InputCounted (cell x.inputs i)) ∧ (∀ c, (cell x.latches c).value ≤ channelMax c ∧ (cell x.latches c).age ≤ 65535) ∧
    x.sampleErrors ≤ 255

section Inputs

variable {s t : State}

theorem inputCounted_sampled (x : Input) (a : Bool) : InputCounted (x.sampled a) := by
  unfold Input.sampled
  split
  · exact ⟨le_min (by decide) (Nat.le_add_left 1 _), satInc_le _ _⟩
  · exact ⟨le_rfl, (by decide : 1 ≤ 15)⟩

theorem InputsCounted.same {x y : InputOutput} (h : InputsCounted x) (hi : y.inputs = x.inputs)
    (hl : y.latches = x.latches) (he : y.sampleErrors = x.sampleErrors) : InputsCounted y := by
  unfold InputsCounted
  rw [hi, hl, he]
  exact h

theorem inputsCounted_withInput (h : InputsCounted s.iou) (i : Fin 16) {x : Input} (hx : InputCounted x) :
    InputsCounted (s.withInput i x).iou := by
  refine ⟨fun j => ?_, h.2⟩
  show InputCounted (cell (setCell s.iou.inputs i x) j)
  rw [cell_setCell]
  split
  · exact hx
  · exact h.1 j

theorem inputsCounted_withLatch (h : InputsCounted s.iou) (c : Fin 8) {x : Latch}
    (hx : x.value ≤ channelMax c ∧ x.age ≤ 65535) : InputsCounted (s.withLatch c x).iou := by
  refine ⟨h.1, fun d => ?_, h.2.2⟩
  show (cell (setCell s.iou.latches c x) d).value ≤ _ ∧ (cell (setCell s.iou.latches c x) d).age ≤ _
  rw [cell_setCell]
  split
  next hd => exact hd ▸ hx
  next => exact h.2.1 d

theorem inputsCounted_changeInput (h : InputsCounted s.iou) (i : Fin 16) (a : Bool) : InputsCounted (s.changeInput i a).iou := by
  have hw := inputsCounted_withInput (s := s) h i (x := { cell s.iou.inputs i with value := levelOf a }) (h.1 i)
  unfold State.changeInput
  dsimp only
  split
  · exact hw.same (by simp) (by simp) (by simp)
  · exact hw.same (by simp) (by simp) (by simp)

theorem inputsCounted_sampleInput (h : InputsCounted s.iou) (i : Fin 16) (a : Bool) : InputsCounted (s.sampleInput i a).iou := by
  unfold State.sampleInput State.takeSample
  dsimp only
  split
  · exact h.same (by simp) (by simp) (by simp)
  · have hw : ∀ v : State, v.iou.inputs = s.iou.inputs → v.iou.latches = s.iou.latches →
        v.iou.sampleErrors = s.iou.sampleErrors →
        InputsCounted ((v.settled i).withInput i ((cell v.iou.inputs i).sampled a)).iou := by
      intro v hi hl he
      exact inputsCounted_withInput (h.same (by simp [State.settled, hi]) (by simp [State.settled, hl])
        (by simp [State.settled, he])) i (inputCounted_sampled _ a)
    split
    · exact inputsCounted_changeInput (hw _ (by simp) (by simp) (by simp)) i a
    · exact hw _ (by simp) (by simp) (by simp)

theorem inputsCounted_latchExpires (h : InputsCounted s.iou) (c : Fin 8) : InputsCounted (s.latchExpires c).iou := by
  have hw := inputsCounted_withLatch (s := s) h c (x := { s.latch c with stale := true }) (h.2.1 c)
  unfold State.latchExpires
  dsimp only
  split
  · split
    · exact hw.same (by simp) (by simp) (by simp)
    · exact hw
  · exact h

theorem inputsCounted_finishBut (skip : Option (Fin 8)) (h : InputsCounted s.iou) (old : State) :
    InputsCounted (s.finishBut skip old).iou := by
  have hiou : (s.finishBut skip old).iou = { s.iou with outputs := (s.finishBut skip old).iou.outputs } := by
    simp [State.finishBut, State.driveOutputs]
  rw [hiou]
  exact h

theorem body_inputsCounted {c : Instr} {u : State} (hb : s.body c = some u) (h : InputsCounted s.iou) : InputsCounted u.iou := by
  rcases isEvent_or_isInput_of_body hb with he | hi
  · obtain ⟨-, -, -, hiou, -⟩ := body_frame he hb
    rw [hiou]
    exact h
  · cases c with
    | debouncedChange i a l =>
      obtain ⟨-, rfl⟩ := some_of_ite hb
      exact inputsCounted_changeInput (h.same (by simp [State.settled]) (by simp [State.settled]) (by simp [State.settled])) i a
    | inputSample i a =>
      cases hb
      exact inputsCounted_sampleInput h i a
    | sampleWord w l =>
      cases hb
      have hl : InputsCounted ((s.sense l).latchArrival (wordChannel w) (wordValue w)).iou :=
        inputsCounted_withLatch (by simpa using h) _ ⟨Nat.min_le_left _ _, Nat.zero_le _⟩
      unfold State.takeWord
      simpa using hl
    | latchStale m l =>
      cases hb
      exact latchFold_keeps (fun t => InputsCounted t.iou) m (fun t c ht => inputsCounted_latchExpires ht c) _ (by simpa using h)
    | sampleWordDiscarded => cases hb
    | _ => cases hi

theorem inputsCounted_restarted (c : ConfigStore) (high : Bool) (s : State) : InputsCounted (s.restarted c high).iou := by
  refine ⟨fun i => ?_, fun k => ?_, Nat.zero_le _⟩
  · have hx : cell (s.restarted c high).iou.inputs i = {} := by simp [State.restarted]
    rw [hx]
    exact ⟨le_rfl, by decide⟩
  · have hx : cell (s.restarted c high).iou.latches k = {} := by simp [State.restarted]
    rw [hx]
    exact ⟨Nat.zero_le _, le_rfl⟩

theorem inputsCounted_writeConfig (h : InputsCounted s.iou) (record : Nat) (vs : List Nat) :
    InputsCounted (s.writeConfig record vs).iou := by
  have hjudged {v : State} (hv : InputsCounted v.iou) : InputsCounted v.judgeLatches.iou := by
    refine ⟨hv.1, fun c => ?_, hv.2.2⟩
    simp only [State.judgeLatches, withIou_iou, cell_mapCells]
    split <;> exact hv.2.1 c
  have hgeneral {v : State} (hv : InputsCounted v.iou) (x : Half) : InputsCounted { v.iou with general := x } :=
    hv.same rfl rfl rfl
  have hrewrite (t : State) : (rewriteChannel record t).iou = t.iou := by
    unfold rewriteChannel
    split <;> simp
  unfold State.writeConfig
  rw [hrewrite, withIou_iou]
  dsimp only
  refine hgeneral ?_ _
  split <;> split
  · exact h
  · exact h
  · exact hjudged (v := s.withCfs _) h
  · exact hjudged (v := (s.withCfs _).restartRun) h

theorem inputsCounted_effect (r : Request) (h : InputsCounted s.iou) : InputsCounted (s.effect r).iou := by
  have hsame {t : State} (hi : t.iou = s.iou) : InputsCounted t.iou := by rwa [hi]
  cases r with
  | configWrite record items =>
    simp only [State.effect]
    split
    · exact h
    · exact inputsCounted_finishBut none (inputsCounted_writeConfig h _ _) s
  | join | setDemand | setChannel | poleCommand => exact inputsCounted_finishBut _ (hsame (by simp)) s
  | reset => exact inputsCounted_restarted _ _ s
  | readStation | readAlarms | readPoles | readChannels => exact h
  | readPeer | readChanges | setAttnMask => exact hsame (by simp [State.effect])
  | readIo => exact h.same rfl rfl rfl
  | setOutput o on => exact h.same rfl rfl rfl
  | sendNotice n =>
    simp only [State.effect]
    split <;> exact h

theorem kept_inputsCounted : Kept fun s => InputsCounted s.iou where
  link s x h := h
  strap s high cts h := h
  sense s l h := by simpa using h
  brk s h := by simpa using h
  effect s r h _ := inputsCounted_effect r h
  power s high _ := inputsCounted_restarted _ _ s
  pin s high _ := inputsCounted_restarted _ _ s
  sampleError s h := ⟨h.1, h.2.1, satInc_le _ _⟩

theorem inputsCounted_tick (h : InputsCounted s.iou) : InputsCounted s.tick.iou := by
  refine ⟨fun i => ?_, fun c => ?_, h.2.2⟩
  · rw [input_tick]
    unfold State.inputTicked
    split
    · exact h.1 i
    · exact inputCounted_sampled _ _
  · have hl := tick_latch s c
    unfold State.latch at hl
    rw [hl]
    exact ⟨(h.2.1 c).1, satInc_le _ _⟩

theorem inputsCounted_step (h : InputsCounted s.iou) (ht : step s = .next t) : InputsCounted t.iou :=
  kept_inputsCounted.step (fun _ _ _ hs hb => inputsCounted_finishBut none (body_inputsCounted hb hs) _)
    (fun _ _ hs => hs) (fun _ hs => inputsCounted_tick hs) ht h

end Inputs

/-! ### All together (O6) -/

theorem countsKept_iff (s : State) :
    CountsKept s ↔ PolesCounted s ∧ EntriesCounted s ∧ CurrentCounted s ∧ RoundsCounted s ∧ LineCounted s ∧
      PeersCounted s ∧ InputsCounted s.iou := by
  constructor
  · rintro ⟨hpoles, hvoltage, hentries, hcurrent, hrounds, hrx, hrun, hpeers, hinputs, hlatches, herrors⟩
    exact ⟨⟨hpoles, hvoltage⟩, hentries, hcurrent, hrounds, ⟨hrx, hrun⟩, hpeers, hinputs, hlatches, herrors⟩
  · rintro ⟨⟨hpoles, hvoltage⟩, hentries, hcurrent, hrounds, ⟨hrx, hrun⟩, hpeers, hinputs, hlatches, herrors⟩
    exact ⟨hpoles, hvoltage, hentries, hcurrent, hrounds, hrx, hrun, hpeers, hinputs, hlatches, herrors⟩

theorem countsKept_step {s t : State} (h : CountsKept s) (ht : step s = .next t) : CountsKept t := by
  obtain ⟨hpoles, hentries, hcurrent, hrounds, hline, hpeers, hinputs⟩ := (countsKept_iff s).1 h
  exact (countsKept_iff t).2 ⟨polesCounted_step hpoles ht, entriesCounted_step hentries ht, currentCounted_step hcurrent ht,
    roundsCounted_step hrounds ht, lineCounted_step hline ht, peersCounted_step hpeers ht, inputsCounted_step hinputs ht⟩

/-- Settles O6: the two bounds are kept together, and the counts one block at a time. -/
theorem stepKeepsLists : Obligations.StepKeepsLists :=
  ⟨fun _ _ hlist hqueue ht => boundsKept_step ⟨hlist, hqueue⟩ ht, fun _ _ _ hcounts ht => countsKept_step hcounts ht⟩

end Machine
end Sys2Proof

/-!
PROOFS. Where the mode may move, and what an event leaves of a station in CONFIG: the blocks that begin at JOIN keep their
values after reset through every step (R28, R51, R74, R115, R116, R136, R153).
-/

namespace Sys2Proof
namespace Machine

/-! ### Modes (R116 to R119, R134, R135) -/

section Modes

variable {s t u : State}

/-- What an event may make of the mode, and which event does. -/
def EventMode (c : Instr) (s u : State) : Prop :=
  u.rsq.mode = s.rsq.mode ∨
    s.rsq.mode = .listen ∧ u.rsq.mode = .run ∧
      ((∃ a b, c = .statusReceived a b ∧ a ≠ s.own) ∨ (∃ a b, c = .noticeReceived a b ∧ a ≠ s.own) ∨
        c = .idleCountExpiry) ∨
    s.rsq.mode ≠ .config ∧ u.rsq.mode = .mute ∧ u.rsq.muteCause = .duplicate ∧ (∃ b, c = .duplicateAddress b) ∨
    s.rsq.mode = .run ∧ u.rsq.mode = .mute ∧ u.rsq.muteCause = .txErrors ∧ c = .abortJudgedError ∨
    s.rsq.mode = .mute ∧ s.rsq.muteCause = .txErrors ∧ u.rsq.mode = .listen ∧ c = .muteTimerExpiry

/-- R118: a frame of another station brings a LISTEN station to RUN and no other station anywhere. -/
theorem followFrame_mode (s : State) (a : Fin 16) :
    (s.followFrame a).rsq.mode = s.rsq.mode ∨ s.rsq.mode = .listen ∧ (s.followFrame a).rsq.mode = .run := by
  unfold State.followFrame
  split
  next h => exact .inl rfl
  next h =>
    refine .inr ⟨h, ?_⟩
    split <;> rfl
  next h =>
    refine .inl ?_
    split
    · rfl
    · unfold State.countResync
      split <;> rfl
  next h =>
    refine .inl ?_
    split
    · rfl
    · unfold State.countResync
      split <;> rfl

@[simp] theorem followDuplicate_mute (s : State) (b : FrameBody) (was : Mode) :
    (s.followDuplicate b was).rsq.mode = s.rsq.mode ∧ (s.followDuplicate b was).rsq.muteCause = s.rsq.muteCause := by
  rcases followDuplicate_cases s b was with e | e | e | ⟨-, e⟩ <;> rw [e]
  · exact ⟨rfl, rfl⟩
  · exact ⟨rfl, rfl⟩
  · unfold State.countResync
    split <;> exact ⟨rfl, rfl⟩
  · exact ⟨rfl, rfl⟩

@[simp] theorem hearStatus_rsq (s : State) (a : Fin 16) (b : StatusBody) : (s.hearStatus a b).rsq = (s.followFrame a).rsq := by
  simp [State.hearStatus, State.receiverTo]

@[simp] theorem hearNotice_mode (s : State) (a : Fin 16) (b : NoticeBody) :
    (s.hearNotice a b).rsq.mode = (s.followFrame a).rsq.mode := by
  unfold State.hearNotice
  dsimp only
  split
  · simp [State.receiverTo]
  · simp [State.receiverTo]

theorem hearDuplicate_mode (s : State) (b : FrameBody) :
    (s.hearDuplicate b).rsq.mode = s.rsq.mode ∨
      (s.hearDuplicate b).rsq.mode = .mute ∧ (s.hearDuplicate b).rsq.muteCause = .duplicate := by
  have hclaim : (s.hearDuplicate b).rsq =
      ((if s.rsq.muteCause = .duplicate then s else s.muteDuplicate.followDuplicate b s.rsq.mode).receiverTo .idle).rsq := by
    unfold State.hearDuplicate
    dsimp only
    cases b <;> simp
  rw [hclaim]
  split
  · exact .inl (by simp [State.receiverTo])
  · exact .inr (by simp [State.receiverTo, State.muteDuplicate])

theorem judgeAbort_mode (s : State) :
    s.judgeAbort.rsq.mode = s.rsq.mode ∨
      s.rsq.mode = .run ∧ s.judgeAbort.rsq.mode = .mute ∧ s.judgeAbort.rsq.muteCause = .txErrors := by
  unfold State.judgeAbort
  dsimp only
  split
  next h =>
    simp only [Bool.and_eq_true, decide_eq_true_eq, beq_iff_eq] at h
    exact .inr ⟨by simpa using h.2, rfl, rfl⟩
  next => exact .inl (by simp)

theorem muteExpired_mode (s : State) :
    s.muteExpired.rsq.mode = s.rsq.mode ∨
      s.rsq.mode = .mute ∧ s.rsq.muteCause = .txErrors ∧ s.muteExpired.rsq.mode = .listen := by
  unfold State.muteExpired
  dsimp only
  split
  next h =>
    simp only [Bool.and_eq_true, decide_eq_true_eq] at h
    exact .inr ⟨h.1.1, h.1.2, rfl⟩
  next => exact .inl rfl

/-- R116: the mode moves at the events of its table alone. -/
theorem body_mode {c : Instr} (hb : s.body c = some u) : EventMode c s u := by
  have hsame {v : State} (h : v.rsq.mode = s.rsq.mode) : EventMode c s v := .inl h
  by_cases hc : movesRounds c = true
  · cases c with
    | statusReceived a b =>
      obtain ⟨hg, rfl⟩ := some_of_ite hb
      simp only [Bool.and_eq_true, bne_iff_ne] at hg
      rcases followFrame_mode s a with e | ⟨hl, e⟩
      · exact hsame (by simpa using e)
      · exact .inr (.inl ⟨hl, by simpa using e, .inl ⟨a, b, rfl, hg.2⟩⟩)
    | noticeReceived a b =>
      obtain ⟨hg, rfl⟩ := some_of_ite hb
      simp only [Bool.and_eq_true, bne_iff_ne] at hg
      rcases followFrame_mode s a with e | ⟨hl, e⟩
      · exact hsame (by simpa using e)
      · exact .inr (.inl ⟨hl, by simpa using e, .inr (.inl ⟨a, b, rfl, hg.2⟩)⟩)
    | duplicateAddress b =>
      obtain ⟨hg, rfl⟩ := some_of_ite hb
      have hm := ((hears_iff s).1 ((receives_iff s _ _).1 hg).1).1
      rcases hearDuplicate_mode s b with e | ⟨e, ecause⟩
      · exact hsame e
      · exact .inr (.inr (.inl ⟨hm, e, ecause, b, rfl⟩))
    | skipInterval =>
      obtain ⟨-, rfl⟩ := some_of_ite hb
      exact hsame rfl
    | roundEnd =>
      obtain ⟨-, rfl⟩ := some_of_ite hb
      refine hsame ?_
      unfold State.roundEnds
      dsimp only
      split <;> simp
    | idleCountExpiry =>
      obtain ⟨hg, rfl⟩ := some_of_ite hb
      have hl : s.rsq.mode = .listen := by
        simp only [State.idleCountDue, Bool.and_eq_true, beq_iff_eq] at hg
        exact hg.1.1
      exact .inr (.inl ⟨hl, by rw [takeRoundEnd_mode]; rfl, .inr (.inr rfl)⟩)
    | ownStatusComplete =>
      obtain ⟨-, rfl⟩ := some_of_ite hb
      exact hsame rfl
    | ownNoticeComplete =>
      obtain ⟨-, rfl⟩ := some_of_ite hb
      refine hsame ?_
      unfold State.ownNoticeSent
      dsimp only
      split
      · simp [State.passSlot, State.retireHead, State.frameDone]
      · rfl
    | abortJudgedError =>
      obtain ⟨-, rfl⟩ := some_of_ite hb
      rcases judgeAbort_mode s with e | ⟨hr, e, ecause⟩
      · exact hsame e
      · exact .inr (.inr (.inr (.inl ⟨hr, e, ecause, rfl⟩)))
    | muteTimerExpiry =>
      obtain ⟨-, rfl⟩ := some_of_ite hb
      rcases muteExpired_mode s with e | ⟨hm, hcause, e⟩
      · exact hsame e
      · exact .inr (.inr (.inr (.inr ⟨hm, hcause, e, rfl⟩)))
    | breakDetection chars =>
      obtain ⟨-, rfl⟩ := some_of_ite hb
      refine hsame ?_
      have hd : (s.dominantFor Figures.breakBits).rsq.mode = s.rsq.mode := (roundsSteady_dominantFor s _).mode
      unfold State.detectBreak State.breakFound
      dsimp only
      split
      · exact hd
      · split
        · simpa using hd
        · exact hd
    | breakEnd =>
      obtain ⟨-, rfl⟩ := some_of_ite hb
      refine hsame ?_
      unfold State.endBreak State.beginWindow
      dsimp only
      split
      · rfl
      · exact (roundsSteady_presentClaim _ 0).mode
    | windowComplete =>
      obtain ⟨-, rfl⟩ := some_of_ite hb
      refine hsame ?_
      unfold State.endWindow
      dsimp only
      split
      · rfl
      · simp
    | _ => cases hc
  · exact .inl (body_roundsSteady hb (Bool.eq_false_iff.2 hc)).mode

/-- No event brings a station to CONFIG or takes it out of it. -/
theorem body_config {c : Instr} (hb : s.body c = some u) : u.rsq.mode = .config ↔ s.rsq.mode = .config := by
  rcases body_mode hb with e | ⟨hl, e, -⟩ | ⟨hl, e, -⟩ | ⟨hl, e, -⟩ | ⟨hl, -, e, -⟩ <;> rw [e]
  · simp [hl]
  · simp [hl]
  · simp [hl]
  · simp [hl]

end Modes

/-! ### CONFIG (R28, R51, R74, R115, R136, R153) -/

/-- The blocks that begin at JOIN at their values after reset, and the line neither driven nor received from. -/
structure Quiet (s : State) : Prop where
  rounds : s.rsq = {}
  alarms : s.alc = {}
  current : s.ca = {}
  poles : s.ps = {}
  peers : ∀ a, s.peer a = {}
  driver : s.li.driver = .released
  abort : s.li.abortPending = false
  receiver : s.li.receiver = .idle
  reception : s.li.reception = []
  start : s.li.startSlot = none
  restore : s.ll.restoreTimer = none
  channels : ∀ k, s.channel k = freshChannel (s.rating k)

theorem configQuiet_iff (s : State) : ConfigQuiet s ↔ (s.rsq.mode = .config → Quiet s) := by
  refine forall_congr' fun _ => ⟨?_, ?_⟩
  · rintro ⟨h1, h2, h3, h4, h5, h6, h7, h8, h9, h10, h11, h12⟩
    exact ⟨h1, h2, h3, h4, h5, h6, h7, h8, h9, h10, h11, h12⟩
  · rintro ⟨h1, h2, h3, h4, h5, h6, h7, h8, h9, h10, h11, h12⟩
    exact ⟨h1, h2, h3, h4, h5, h6, h7, h8, h9, h10, h11, h12⟩

section Quiet

variable {s t u : State}

theorem Quiet.mode (h : Quiet s) : s.rsq.mode = .config := by rw [h.rounds]

theorem Quiet.notHeard (h : Quiet s) : s.hears = false := by
  rw [← Bool.not_eq_true, hears_iff]
  exact fun hh => hh.1 h.mode

/-- An operation that leaves the blocks and the line as they are leaves them quiet. -/
theorem Quiet.same (h : Quiet s) (hrsq : t.rsq = s.rsq) (halc : t.alc = s.alc) (hca : t.ca = s.ca) (hps : t.ps = s.ps)
    (hpt : t.pt = s.pt) (hli : t.li = s.li) (hll : t.ll = s.ll) (hcfs : t.cfs = s.cfs) : Quiet t := by
  have hchannel (k : Fin 8) : t.channel k = freshChannel (t.rating k) := by
    rw [channel_congr hll, rating_congr hcfs]
    exact h.channels k
  exact ⟨hrsq ▸ h.rounds, halc ▸ h.alarms, hca ▸ h.current, hps ▸ h.poles, fun a => peer_congr hpt a ▸ h.peers a,
    hli ▸ h.driver, hli ▸ h.abort, hli ▸ h.receiver, hli ▸ h.reception, hli ▸ h.start, hll ▸ h.restore, hchannel⟩

theorem quiet_lineTo (h : Quiet s) (l : LineLevel) : Quiet (s.lineTo l) := by
  have hrsq : (s.lineTo l).rsq = {} := by
    rw [lineTo_rsq, h.rounds]
    cases l <;> rfl
  have hstart : (s.lineTo l).li.startSlot = none := by
    cases l with
    | recessive => simp [h.start]
    | dominant => simp [lineTo_dominant_li, h.notHeard, h.start]
  exact ⟨hrsq, by simp [h.alarms], by simp [h.current], by simp [h.poles], fun a => by rw [peer_congr (s := s) (by simp)]; exact h.peers a,
    by simp [h.driver], by simp [h.abort], by simp [h.receiver], by simp [h.reception], hstart, by simp [h.restore],
    fun k => by rw [channel_congr (s := s) (by simp), rating_congr (s := s) (by simp)]; exact h.channels k⟩

theorem quiet_sense (h : Quiet s) (l : LineLevel) : Quiet (s.sense l) := by
  rcases sense_cases s l with ⟨-, e⟩ | ⟨-, e⟩ <;> rw [e]
  · exact h
  · exact quiet_lineTo h l

theorem quiet_dominantRun (h : Quiet s) (n : Nat) : Quiet (s.withLi { s.li with dominantRun := n }) := { h with }

theorem quiet_dominantSeen (h : Quiet s) (n : Nat) : Quiet (s.dominantSeen n) := by
  unfold State.dominantSeen
  dsimp only
  split
  · exact h
  · split
    · exact quiet_lineTo (quiet_dominantRun h _) _
    · split
      · exact quiet_lineTo h _
      · exact quiet_lineTo (quiet_dominantRun h _) _

theorem quiet_dominantFor (h : Quiet s) (n : Nat) : Quiet (s.dominantFor n) := quiet_lineTo (quiet_dominantRun h n) _

theorem quiet_endBreak (h : Quiet s) : Quiet s.endBreak := by
  unfold State.endBreak
  dsimp only
  rw [if_pos h.mode]
  refine quiet_lineTo ?_ _
  exact { h with driver := by simp [h.driver] }

theorem quiet_changeInput (h : Quiet s) (i : Fin 16) (a : Bool) : Quiet (s.changeInput i a) := by
  unfold State.changeInput
  dsimp only
  rw [if_pos h.mode]
  exact h.same rfl rfl rfl rfl rfl rfl rfl rfl

theorem quiet_takeSample (h : Quiet s) (i : Fin 16) (a : Bool) : Quiet (s.takeSample i a) := by
  have ht (x : Input) : Quiet ((s.settled i).withInput i x) := h.same rfl rfl rfl rfl rfl rfl rfl rfl
  unfold State.takeSample
  dsimp only
  split
  · exact quiet_changeInput (ht _) i a
  · exact ht _

theorem quiet_sampleInput (h : Quiet s) (i : Fin 16) (a : Bool) : Quiet (s.sampleInput i a) := by
  have ht : Quiet (s.contact i a) := h.same rfl rfl rfl rfl rfl rfl rfl rfl
  unfold State.sampleInput
  dsimp only
  split
  · exact ht
  · refine quiet_takeSample ?_ i a
    exact ht.same rfl rfl rfl rfl rfl rfl rfl rfl

theorem quiet_takeWord (h : Quiet s) (w : Half) : Quiet (s.takeWord w) := by
  unfold State.takeWord State.poleArrival
  dsimp only
  rw [if_pos (by simp [h.mode])]
  exact h.same rfl rfl rfl rfl rfl rfl rfl rfl

theorem quiet_latchExpires (h : Quiet s) (c : Fin 8) : Quiet (s.latchExpires c) := by
  unfold State.latchExpires
  dsimp only
  split
  · rw [if_neg (by simp [h.mode])]
    exact h.same rfl rfl rfl rfl rfl rfl rfl rfl
  · exact h

/-- What an event that occurs in CONFIG can be: one of the inputs, or a level or run of the line. -/
theorem body_quiet {c : Instr} (hb : s.body c = some u) (h : Quiet s) : Quiet u := by
  have hnot {p : Prop} (hp : p) (hn : ¬p) : Quiet u := absurd hp hn
  cases c with
  | debouncedChange i a l =>
    obtain ⟨-, rfl⟩ := some_of_ite hb
    have hs : Quiet ((s.sense l).settled i) := (quiet_sense h l).same rfl rfl rfl rfl rfl rfl rfl rfl
    exact quiet_changeInput hs i a
  | sampleWord w l =>
    cases hb
    exact quiet_takeWord (quiet_sense h l) w
  | latchStale m l =>
    cases hb
    exact latchFold_keeps Quiet m (fun t c ht => quiet_latchExpires ht c) _ (quiet_sense h l)
  | inputSample i a =>
    cases hb
    exact quiet_sampleInput h i a
  | breakAssert =>
    cases hb
    exact quiet_sense h _
  | receiveError chars ending =>
    simp only [State.body, h.notHeard, Bool.false_eq_true, if_false] at hb
    split at hb
    · cases hb
      exact quiet_dominantSeen h _
    · cases hb
  | breakDetection chars =>
    obtain ⟨-, rfl⟩ := some_of_ite hb
    unfold State.detectBreak
    rw [if_pos h.mode]
    exact quiet_dominantFor h _
  | breakEnd =>
    obtain ⟨-, rfl⟩ := some_of_ite hb
    exact quiet_endBreak h
  | stuckLine =>
    obtain ⟨-, rfl⟩ := some_of_ite hb
    exact { quiet_dominantFor h Figures.stuckBits with }
  | qualifyTimerExpiry x | raiseMaxExpiry x | confirmTimerExpiry x l | quietTimerExpiry x | lowerWaitMaxExpiry x
  | lowerMaxExpiry x =>
    obtain ⟨hg, -⟩ := some_of_ite hb
    refine hnot hg ?_
    have hpole : s.pole x = {} := by cases x <;> simp [State.pole, PoleSupervisor.pole, h.poles]
    simp [State.qualifyDue, State.raiseMaxDue, State.confirmDue, State.quietDue, State.lowerWaitDue, State.lowerMaxDue,
      hpole, Timer.due]
  | gapTimerExpiry | restoreQualifyExpiry =>
    obtain ⟨hg, -⟩ := some_of_ite hb
    exact hnot hg (by simp [State.gapDue, State.restoreQualifyDue, h.poles, Timer.due])
  | unclaimedHoldExpiry | demandHoldExpiry | overdrawTimerExpiry | restoreTimerExpiry =>
    obtain ⟨hg, -⟩ := some_of_ite hb
    exact hnot hg (by simp [State.unclaimedDue, State.demandHoldDue, State.overdrawDue, State.restoreDue, h.alarms,
      h.current, h.restore, Timer.due])
  | peerStale a | peerLost a =>
    obtain ⟨hg, -⟩ := some_of_ite hb
    exact hnot hg (by simp [State.staleDue, State.lostDue, h.peers])
  | muteTimerExpiry | idleCountExpiry =>
    obtain ⟨hg, -⟩ := some_of_ite hb
    exact hnot hg (by simp [State.muteDue, State.idleCountDue, h.rounds, Timer.due])
  | statusReceived | noticeReceived | alarmReceived | duplicateAddress | lineActivityEnd =>
    obtain ⟨hg, -⟩ := some_of_ite hb
    exact hnot hg (by simp [State.receives, h.notHeard])
  | ownSlotStart | skipInterval | roundEnd | claimPositionStart | windowComplete =>
    obtain ⟨hg, -⟩ := some_of_ite hb
    exact hnot hg (by simp [h.rounds])
  | ownStatusComplete | ownNoticeComplete | ownAlarmComplete | echoMismatch | breakRelease =>
    obtain ⟨hg, -⟩ := some_of_ite hb
    exact hnot hg (by simp [State.sending, h.driver])
  | abortJudgedError =>
    obtain ⟨hg, -⟩ := some_of_ite hb
    exact hnot hg (by simp [h.abort])
  | _ => cases hb

theorem quiet_finishBut (skip : Option (Fin 8)) (h : Quiet s) (old : State) : Quiet (s.finishBut skip old) := by
  obtain ⟨hli, hrsq, hps, halc, hca, hll, -⟩ := finishBut_blocks skip s old
  rw [blocksEnd_of_config h.mode] at hli hrsq hps halc hca hll
  exact h.same hrsq halc hca hps (by simp) hli hll (by simp)

theorem configQuiet_of_quiet (h : Quiet s) : ConfigQuiet s := (configQuiet_iff s).2 fun _ => h

theorem configQuiet_of_joined (h : s.rsq.mode ≠ .config) : ConfigQuiet s := fun hm => absurd hm h

theorem body_configQuiet {c : Instr} (hb : s.body c = some u) (h : ConfigQuiet s) (old : State) :
    ConfigQuiet (u.finish old) := by
  by_cases hm : s.rsq.mode = .config
  · exact configQuiet_of_quiet (quiet_finishBut none (body_quiet hb ((configQuiet_iff s).1 h hm)) old)
  · refine configQuiet_of_joined ?_
    rw [(finish_rounds u old).1]
    exact fun hu => hm ((body_config hb).1 hu)

theorem quiet_restarted (c : ConfigStore) (high : Bool) (s : State) : Quiet (s.restarted c high) where
  rounds := rfl
  alarms := rfl
  current := rfl
  poles := rfl
  peers a := by simp [State.peer, State.restarted]
  driver := rfl
  abort := rfl
  receiver := rfl
  reception := rfl
  start := rfl
  restore := rfl
  channels k := by simp [State.channel, State.restarted, State.rating, State.channelCfg]

/-- The channel that a record rewrites, by its number (R198). -/
def Rewrites (record : Nat) (k : Fin 8) : Prop := 7 ≤ record ∧ k.val = (record - 7) % 8

theorem writeRecord_channel {record : Nat} {k : Fin 8} (h : ¬Rewrites record k) (vs : List Nat) (c : Settings) :
    cell (writeRecord record vs c).channels k = cell c.channels k := by
  match record, h with
  | 0, _ | 1, _ | 2, _ | 3, _ | 4, _ | 5, _ | 6, _ => rfl
  | r + 7, h =>
    have hk : k ≠ ⟨(r + 7 - 7) % 8, Nat.mod_lt _ (by decide)⟩ := fun hk => h ⟨Nat.le_add_left 7 r, by rw [hk]⟩
    simp only [writeRecord, cell_setCell, if_neg hk]

theorem writeConfig_rating {record : Nat} {k : Fin 8} (h : ¬Rewrites record k) (vs : List Nat) (s : State) :
    (s.writeConfig record vs).rating k = s.rating k := by
  unfold State.rating State.channelCfg
  rw [writeConfig_settings, writeRecord_channel h]

theorem rewriteChannel_channel (record : Nat) (s : State) (k : Fin 8) [Decidable (Rewrites record k)] :
    (rewriteChannel record s).channel k = if Rewrites record k then freshChannel (s.rating k) else s.channel k := by
  unfold rewriteChannel
  dsimp only
  split
  next hr =>
    by_cases hk : Rewrites record k
    · have hkeq : (⟨(record - 7) % 8, Nat.mod_lt _ (by decide)⟩ : Fin 8) = k := Fin.ext hk.2.symm
      rw [if_pos hk, hkeq]
      simp
    · have hkne : k ≠ ⟨(record - 7) % 8, Nat.mod_lt _ (by decide)⟩ := fun he => hk ⟨hr, by rw [he]⟩
      rw [if_neg hk]
      exact channel_withChannel_ne _ _ hkne
  next hr => rw [if_neg fun hk => hr hk.1]

/-- R76, R199: the channel of a written CHANNEL record starts anew, and every other stands. -/
theorem writeConfig_channel (record : Nat) (vs : List Nat) (s : State) (k : Fin 8) [Decidable (Rewrites record k)] :
    (s.writeConfig record vs).channel k =
      if Rewrites record k then freshChannel ((s.writeConfig record vs).rating k) else s.channel k := by
  have hrating {t : State} : (rewriteChannel record t).rating k = t.rating k := rating_congr (by simp) k
  unfold State.writeConfig
  dsimp only
  rw [rewriteChannel_channel, hrating]
  refine ite_congr rfl (fun _ => rfl) fun _ => channel_congr ?_ k
  split <;> split <;> rfl

theorem writeConfig_restoreTimer (record : Nat) (vs : List Nat) (s : State) :
    (s.writeConfig record vs).ll.restoreTimer = s.ll.restoreTimer := by
  have hrewrite (t : State) : (rewriteChannel record t).ll.restoreTimer = t.ll.restoreTimer := by
    unfold rewriteChannel
    split <;> rfl
  unfold State.writeConfig
  rw [hrewrite]
  dsimp only
  split <;> split <;> rfl

/-- R198, R199: a record written leaves every channel at its start: the written one anew, the others with their ratings. -/
theorem quiet_writeConfig (h : Quiet s) (record : Nat) (vs : List Nat) : Quiet (s.writeConfig record vs) := by
  have hli : (s.writeConfig record vs).li = s.li ∨ (s.writeConfig record vs).li = s.restartRun.li := by
    rw [writeConfig_li]
    split
    · exact .inl rfl
    · exact .inr rfl
  obtain ⟨-, hrsq, hpt, hps, halc, hca, -⟩ := writeConfig_frame record vs s
  refine ⟨hrsq ▸ h.rounds, halc ▸ h.alarms, hca ▸ h.current, hps ▸ h.poles, fun a => peer_congr hpt a ▸ h.peers a, ?_, ?_, ?_,
    ?_, ?_, writeConfig_restoreTimer record vs s ▸ h.restore, fun k => ?_⟩
  · rcases hli with e | e <;> rw [e] <;> exact h.driver
  · rcases hli with e | e <;> rw [e] <;> exact h.abort
  · rcases hli with e | e <;> rw [e] <;> exact h.receiver
  · rcases hli with e | e <;> rw [e] <;> exact h.reception
  · rcases hli with e | e <;> rw [e] <;> exact h.start
  · by_cases hk : Rewrites record k
    · have : Decidable (Rewrites record k) := isTrue hk
      rw [writeConfig_channel, if_pos hk]
    · have : Decidable (Rewrites record k) := isFalse hk
      rw [writeConfig_channel, if_neg hk, writeConfig_rating hk]
      exact h.channels k

theorem judge_mode {r : Request} (hj : s.judge r = none) : modeOk r s.rsq.mode = true := by
  obtain ⟨-, hmode, -⟩ := (judge_eq_none_iff r s).1 hj
  exact hmode

theorem configQuiet_effect {r : Request} (hj : s.judge r = none) (h : ConfigQuiet s) : ConfigQuiet (s.effect r) := by
  by_cases hm : s.rsq.mode = .config
  · have hq := (configQuiet_iff s).1 h hm
    refine configQuiet_iff _ |>.2 fun hend => ?_
    cases r with
    | configWrite record items =>
      simp only [State.effect]
      split
      · exact hq
      · exact quiet_finishBut none (quiet_writeConfig hq _ _) s
    | join =>
      have hmode : (s.effect .join).rsq.mode = .listen := by
        simp only [State.effect]
        rw [(finish_rounds _ s).1, join_eq]
        simp
      rw [hmode] at hend
      cases hend
    | setDemand | setChannel | poleCommand | sendNotice =>
      have := judge_mode hj
      simp [modeOk, hm] at this
    | reset => exact quiet_restarted _ _ s
    | readStation | readAlarms | readPoles | readChannels => exact hq
    | readPeer a =>
      refine { hq with peers := fun b => ?_ }
      simp only [State.effect, State.clearRoleChanged]
      by_cases hb : b = ⟨a.toNat % 16, Nat.mod_lt _ (by decide)⟩
      · rw [hb, peer_withPeer_self, hq.peers]
      · rw [peer_withPeer_ne _ _ hb, hq.peers]
    | readIo | readChanges | setAttnMask | setOutput =>
      exact hq.same (by simp [State.effect]) (by simp [State.effect]) (by simp [State.effect]) (by simp [State.effect])
        (by simp [State.effect]) (by simp [State.effect]) (by simp [State.effect]) (by simp [State.effect])
  · cases r with
    | configWrite record items =>
      have := judge_mode hj
      simp [modeOk, hm] at this
    | reset => exact configQuiet_of_quiet (quiet_restarted _ _ s)
    | join =>
      have := judge_mode hj
      simp [modeOk, hm] at this
    | setDemand | setChannel | poleCommand =>
      exact configQuiet_of_joined (by simpa [State.effect] using hm)
    | readStation | readAlarms | readPoles | readChannels => exact h
    | readPeer | readIo | readChanges | setAttnMask | setOutput =>
      exact configQuiet_of_joined (by simpa [State.effect] using hm)
    | sendNotice n =>
      refine configQuiet_of_joined ?_
      simp only [State.effect]
      split <;> exact hm

theorem configQuiet_tick (h : ConfigQuiet s) : ConfigQuiet s.tick := by
  refine (configQuiet_iff _).2 fun hm => ?_
  have hq := (configQuiet_iff s).1 h hm
  refine ⟨?_, ?_, ?_, ?_, fun a => ?_, hq.driver, hq.abort, ?_, hq.reception, hq.start, ?_, hq.channels⟩
  · show ({ s.rsq with muteTimer := s.rsq.muteTimer.tick, idleCount := s.idleTicked } : Sequencer) = {}
    simp [State.idleTicked, hq.rounds, Timer.tick]
  · show ({ s.alc with
        entries := s.alc.entries.map (fun e => { e with age := olderBy1 e.age })
        unclaimedHoldTimer := s.alc.unclaimedHoldTimer.tick } : AlarmController) = {}
    simp [hq.alarms, Timer.tick]
  · show ({ s.ca with demandHoldTimer := s.ca.demandHoldTimer.tick, overdrawTimer := s.ca.overdrawTimer.tick } : Apportioner) = {}
    simp [hq.current, Timer.tick]
  · show ({ s.ps with
        poleP := s.ps.poleP.ticked, poleN := s.ps.poleN.ticked, gapTimer := s.ps.gapTimer.tick,
        restoreQualifyTimer := s.ps.restoreQualifyTimer.tick } : PoleSupervisor) = {}
    simp [hq.poles, Timer.tick, Pole.ticked]
  · rw [tick_peer, hq.peers]
    rfl
  · rw [tick_li]
    show s.receiverTicked = .idle
    rw [receiverTicked_eq, hq.receiver]
    simp
  · show s.ll.restoreTimer.tick = none
    rw [hq.restore]
    rfl

theorem configQuiet_examineBreak (h : ConfigQuiet s) : ConfigQuiet s.examineBreak := by
  cases hb : s.breakWanted with
  | false => rwa [examineBreak_of_not hb]
  | true =>
    obtain ⟨hrun, -⟩ := (breakWanted_iff s).1 hb
    refine configQuiet_of_joined ?_
    simp [hrun]

theorem kept_configQuiet : Kept ConfigQuiet where
  link s x h := h
  strap s high cts h := h
  sense s l h := by
    by_cases hm : s.rsq.mode = .config
    · exact configQuiet_of_quiet (quiet_sense ((configQuiet_iff s).1 h hm) l)
    · exact configQuiet_of_joined (by simpa using hm)
  brk s h := configQuiet_examineBreak h
  effect s r h hj := configQuiet_effect hj h
  power s high _ := configQuiet_of_quiet (quiet_restarted _ _ s)
  pin s high _ := configQuiet_of_quiet (quiet_restarted _ _ s)
  sampleError s h := h

theorem configQuiet_step (h : ConfigQuiet s) (ht : step s = .next t) : ConfigQuiet t :=
  kept_configQuiet.step (fun _ _ _ hs hb => body_configQuiet hb hs _)
    (fun _ _ hs => hs) (fun _ hs => configQuiet_tick hs) ht h

end Quiet

end Machine
end Sys2Proof

/-!
PROOFS. The laws of the Round Sequencer's items hold through every step (R114, R116, R126, R203).
-/

namespace Sys2Proof
namespace Machine

section Modes

variable {s t u : State}

/-! ### The items of the rounds (R114) -/

/-- The laws of the Round Sequencer's items under a round length. -/
structure RoundsLawful (n : Nat) (x : Sequencer) : Prop where
  cause : x.mode ≠ .mute → x.muteCause = .none
  timer : x.muteTimer.isSome = true → x.muteCause = .txErrors
  idle : x.idleCount.isSome = true → x.mode = .listen
  slot : x.slotCounter ≤ n
  inSlot : x.phase = .slot → x.slotCounter < n ∨ x.slotCounter = 0
  atEnd : x.phase = .roundEnd → x.slotCounter = n
  sequence : x.statusSent = false → x.statusSequence = 0

theorem modeKept_iff (s : State) : ModeKept s ↔ RoundsLawful s.roundLength s.rsq := by
  constructor
  · rintro ⟨h1, h2, h3, h4, h5, h6, h7⟩
    exact ⟨h1, h2, h3, h4, h5, h6, h7⟩
  · rintro ⟨h1, h2, h3, h4, h5, h6, h7⟩
    exact ⟨h1, h2, h3, h4, h5, h6, h7⟩

theorem roundLength_congr (h : t.cfs = s.cfs) : t.roundLength = s.roundLength := by simp [State.roundLength, State.station, h]

theorem ModeKept.steady (h : ModeKept s) (g : RoundsSteady s t) (hcfs : t.cfs = s.cfs) : ModeKept t := by
  have hx := (modeKept_iff s).1 h
  have hn := roundLength_congr hcfs
  refine (modeKept_iff t).2 ⟨?_, ?_, ?_, ?_, ?_, ?_, ?_⟩
  · rw [g.mode, g.cause]
    exact hx.cause
  · rw [g.timer, g.cause]
    exact hx.timer
  · rw [g.idle, g.mode]
    exact hx.idle
  · rw [g.slot, hn]
    exact hx.slot
  · rw [g.phase, g.slot, hn]
    exact hx.inSlot
  · rw [g.phase, g.slot, hn]
    exact hx.atEnd
  · rw [g.sent, g.sequence]
    exact hx.sequence

theorem ModeKept.same (h : ModeKept s) (hrsq : t.rsq = s.rsq) (hcfs : t.cfs = s.cfs) : ModeKept t := h.steady (.of_rsq hrsq) hcfs

theorem nextSlot_le (n a : Nat) : nextSlot n a ≤ n := by
  unfold nextSlot
  split <;> omega

/-- A slot passed: the counter stands in the slot or the interval that then begins. -/
theorem RoundsLawful.passed {n : Nat} {x : Sequencer} (h : RoundsLawful n x) (a : Nat) :
    RoundsLawful n { x with slotCounter := nextSlot n a, phase := if nextSlot n a = n then .roundEnd else .slot } where
  cause := h.cause
  timer := h.timer
  idle := h.idle
  slot := nextSlot_le n a
  inSlot hp := .inl (lt_of_le_of_ne (nextSlot_le n a) fun he => by
    have hn : nextSlot n a = n := he
    simp [hn] at hp)
  atEnd hp := by
    by_contra he
    simp [he] at hp
  sequence := h.sequence

theorem modeKept_passSlot (h : ModeKept s) (a : Nat) : ModeKept (s.passSlot a) :=
  (modeKept_iff _).2 (((modeKept_iff s).1 h).passed a)

theorem modeKept_countResync (h : ModeKept s) (a : Nat) : ModeKept (s.countResync a) := by
  unfold State.countResync
  split <;> exact h

theorem modeKept_enterRun (h : ModeKept s) (hm : s.rsq.mode = .listen) : ModeKept s.enterRun := by
  have hx := (modeKept_iff s).1 h
  exact (modeKept_iff _).2 { hx with
    cause := fun _ => hx.cause (by simp [hm]), idle := fun hi => by simp [State.enterRun] at hi }

theorem modeKept_followFrame (h : ModeKept s) (a : Fin 16) : ModeKept (s.followFrame a) := by
  unfold State.followFrame
  split
  · exact h
  next hm =>
    split
    · exact modeKept_enterRun h hm
    · exact modeKept_passSlot (modeKept_enterRun h hm) _
  · split
    · exact h
    · exact modeKept_passSlot (modeKept_countResync h _) _
  · split
    · exact h
    · exact modeKept_passSlot (modeKept_countResync h _) _

theorem modeKept_muteDuplicate (h : ModeKept s) : ModeKept s.muteDuplicate := by
  have hx := (modeKept_iff s).1 h
  exact (modeKept_iff _).2 { hx with
    cause := fun hm => absurd rfl hm
    timer := fun ht => by simp [State.muteDuplicate] at ht
    idle := fun hi => by simp [State.muteDuplicate] at hi }

theorem modeKept_timeSlot (h : ModeKept s) : ModeKept s.timeSlot := by
  have hx := (modeKept_iff s).1 h
  refine (modeKept_iff _).2 { hx with inSlot := fun hp => ?_, atEnd := fun hp => ?_ }
  · refine .inl (lt_of_le_of_ne hx.slot fun he => ?_)
    have hn : s.rsq.slotCounter = s.roundLength := he
    simp [State.timeSlot, hn] at hp
  · by_contra he
    have hne : ¬s.rsq.slotCounter = s.roundLength := he
    simp [State.timeSlot, hne] at hp

theorem modeKept_followDuplicate (h : ModeKept s) (b : FrameBody) (was : Mode) : ModeKept (s.followDuplicate b was) := by
  rcases followDuplicate_cases s b was with e | e | e | ⟨-, e⟩ <;> rw [e]
  · exact h
  · exact modeKept_passSlot h _
  · exact modeKept_passSlot (modeKept_countResync h _) _
  · exact modeKept_timeSlot h

theorem modeKept_takeRoundEnd (h : ModeKept s) : ModeKept s.takeRoundEnd := by
  have hx := (modeKept_iff s).1 h
  have hround : ModeKept s.roundStarted := (modeKept_iff _).2 { hx with
    slot := Nat.zero_le _, inSlot := fun _ => .inr rfl, atEnd := fun hp => by simp [State.roundStarted] at hp }
  rw [takeRoundEnd_eq]
  exact hround.same (by simp) (by simp)

theorem modeKept_roundEnds (h : ModeKept s) : ModeKept s.roundEnds := by
  have ht := modeKept_takeRoundEnd h
  unfold State.roundEnds
  dsimp only
  split
  next hm =>
    have hx := (modeKept_iff _).1 ht
    have hl : s.takeRoundEnd.rsq.mode = .listen := by simpa using hm
    have hu : RoundsLawful s.takeRoundEnd.roundLength { s.takeRoundEnd.rsq with phase := .untimed, idleCount := some 0 } :=
      { hx with idle := fun _ => hl, inSlot := fun hp => by simp at hp, atEnd := fun hp => by simp at hp }
    exact (modeKept_iff _).2 (by rwa [roundLength_congr (s := s.takeRoundEnd) (withRsq_cfs _ _), withRsq_rsq])
  next => exact ht

theorem modeKept_hearNotice (h : ModeKept s) (a : Fin 16) (b : NoticeBody) : ModeKept (s.hearNotice a b) := by
  have hf : ModeKept (((s.followFrame a).receiverTo .idle).refreshPeer a) := (modeKept_followFrame h a).same rfl (by simp)
  unfold State.hearNotice
  dsimp only
  split
  · exact hf.same (by simp) (by simp)
  · exact hf

theorem modeKept_receiverTo (h : ModeKept s) (r : ReceiverState) : ModeKept (s.receiverTo r) := h.same rfl rfl

theorem modeKept_hearDuplicate (h : ModeKept s) (b : FrameBody) : ModeKept (s.hearDuplicate b) := by
  have ht : ModeKept (if s.rsq.muteCause = .duplicate then s else s.muteDuplicate.followDuplicate b s.rsq.mode) := by
    split
    · exact h
    · exact modeKept_followDuplicate (modeKept_muteDuplicate h) b _
  have hu := modeKept_receiverTo ht .idle
  unfold State.hearDuplicate
  dsimp only
  cases b with
  | alarm => exact hu.same (by simp) (by simp)
  | status | notice => exact hu

theorem modeKept_ownStatusSent (h : ModeKept s) : ModeKept s.ownStatusSent := by
  have hp : ModeKept (s.frameDone.passSlot s.own.val) := modeKept_passSlot (h.steady (roundsSteady_frameDone s) (by simp)) _
  exact (modeKept_iff _).2 { (modeKept_iff _).1 hp with sequence := fun hf => by simp [State.ownStatusSent] at hf }

theorem modeKept_ownNoticeSent (h : ModeKept s) : ModeKept s.ownNoticeSent := by
  have hr : ModeKept s.frameDone.retireHead :=
    h.steady ((roundsSteady_frameDone s).trans (roundsSteady_retireHead _)) (by simp)
  have hp (k : OwnSlotKind) :
      ModeKept ((s.frameDone.retireHead.withRsq { s.frameDone.retireHead.rsq with lastOwnSlot := k }).passSlot s.own.val) := by
    refine modeKept_passSlot ?_ _
    exact hr
  unfold State.ownNoticeSent
  dsimp only
  split
  · exact (hp .notice).same (applyNotice_frame _ _ _).2.2.2.1 (applyNotice_frame _ _ _).2.1
  · exact hp .notice

theorem modeKept_judgeAbort (h : ModeKept s) : ModeKept s.judgeAbort := by
  have ht (x : LineInterface) : ModeKept (((s.withLi x).lineTo .recessive).setTopics { lineErrors := true }) :=
    h.same (by simp [lineTo_rsq]) (by simp)
  unfold State.judgeAbort
  dsimp only
  split
  next hm =>
    have hx := (modeKept_iff s).1 h
    have hrun : s.rsq.mode = .run := by
      simp only [Bool.and_eq_true, beq_iff_eq] at hm
      simpa using hm.2
    exact (modeKept_iff _).2 { (modeKept_iff _).1 (ht _) with
      cause := fun hm => absurd rfl hm
      timer := fun _ => rfl
      idle := fun hi => by
        have hl := hx.idle (by simpa [State.muteTxErrors, lineTo_rsq] using hi)
        rw [hrun] at hl
        cases hl }
  next => exact ht _

theorem modeKept_muteExpired (h : ModeKept s) : ModeKept s.muteExpired := by
  have hx := (modeKept_iff s).1 h
  have hphase {p : Prop} [Decidable p] (q : LinePhase) (hq : q ≠ .untimed) (h : (if p then s.rsq.phase else .untimed) = q) :
      s.rsq.phase = q := by
    split at h
    · exact h
    · exact absurd h.symm hq
  unfold State.muteExpired
  dsimp only
  split
  · refine (modeKept_iff _).2 { hx with
      cause := fun _ => rfl
      timer := fun ht => by simp at ht
      idle := fun _ => rfl
      inSlot := fun hp => hx.inSlot ?_
      atEnd := fun hp => hx.atEnd ?_ }
    · exact hphase .slot (by decide) hp
    · exact hphase .roundEnd (by decide) hp
  · exact h

theorem modeKept_detectBreak (h : ModeKept s) (chars : List Byte) : ModeKept (s.detectBreak chars) := by
  have hd : ModeKept (s.dominantFor Figures.breakBits) := h.steady (roundsSteady_dominantFor s _) (by simp)
  have hx := (modeKept_iff _).1 hd
  have hbrk (v : State) (hv : v.rsq = { (s.dominantFor Figures.breakBits).rsq with phase := .brk, windowPosition := none, idleCount := none })
      (hc : v.cfs = s.cfs) : ModeKept v := by
    refine (modeKept_iff _).2 ?_
    rw [hv, roundLength_congr (s := s.dominantFor Figures.breakBits) (by simp [hc])]
    exact { hx with
      idle := fun hi => by simp at hi, inSlot := fun hp => by simp at hp, atEnd := fun hp => by simp at hp }
  unfold State.detectBreak State.breakFound
  dsimp only
  split
  · exact hd
  · split
    · exact hbrk _ (by simp) (by simp)
    · exact hbrk _ (by simp) (by simp)

theorem modeKept_endBreak (h : ModeKept s) : ModeKept s.endBreak := by
  have hx := (modeKept_iff s).1 h
  unfold State.endBreak State.beginWindow
  dsimp only
  split
  · exact h
  · refine ModeKept.steady ?_ (roundsSteady_presentClaim _ 0) (by simp)
    exact (modeKept_iff _).2 { hx with
      idle := fun hi => by simp at hi, inSlot := fun hp => by simp at hp, atEnd := fun hp => by simp at hp }

theorem modeKept_endWindow (h : ModeKept s) : ModeKept s.endWindow := by
  have hx := (modeKept_iff s).1 h
  have ht : ModeKept (s.withRsq { s.rsq with windowPosition := none, phase := .roundEnd, slotCounter := s.roundLength }) :=
    (modeKept_iff _).2 { hx with slot := le_rfl, inSlot := fun hp => by simp at hp, atEnd := fun _ => rfl }
  unfold State.endWindow
  dsimp only
  split
  · exact ht
  · exact ht.same (by simp) (by simp)

theorem body_cfs {c : Instr} (hb : s.body c = some u) : u.cfs = s.cfs := by
  rcases isEvent_or_isInput_of_body hb with he | hi
  · obtain ⟨-, hcfs, -⟩ := body_frame he hb
    exact hcfs
  · obtain ⟨-, hcfs, -⟩ := body_input_frame hi hb
    exact hcfs

theorem body_modeKept {c : Instr} (hb : s.body c = some u) (h : ModeKept s) : ModeKept u := by
  by_cases hc : movesRounds c = true
  · cases c with
    | statusReceived a b =>
      obtain ⟨-, rfl⟩ := some_of_ite hb
      exact (modeKept_followFrame h a).same (by simp) (by simp)
    | noticeReceived a b =>
      obtain ⟨-, rfl⟩ := some_of_ite hb
      exact modeKept_hearNotice h a b
    | duplicateAddress b =>
      obtain ⟨-, rfl⟩ := some_of_ite hb
      exact modeKept_hearDuplicate h b
    | skipInterval =>
      obtain ⟨-, rfl⟩ := some_of_ite hb
      exact modeKept_passSlot h _
    | roundEnd =>
      obtain ⟨-, rfl⟩ := some_of_ite hb
      exact modeKept_roundEnds h
    | idleCountExpiry =>
      obtain ⟨hg, rfl⟩ := some_of_ite hb
      exact modeKept_takeRoundEnd (modeKept_enterRun (modeKept_receiverTo h .idle) ((idleCountDue_iff s).1 hg).1)
    | ownStatusComplete =>
      obtain ⟨-, rfl⟩ := some_of_ite hb
      exact modeKept_ownStatusSent h
    | ownNoticeComplete =>
      obtain ⟨-, rfl⟩ := some_of_ite hb
      exact modeKept_ownNoticeSent h
    | abortJudgedError =>
      obtain ⟨-, rfl⟩ := some_of_ite hb
      exact modeKept_judgeAbort h
    | muteTimerExpiry =>
      obtain ⟨-, rfl⟩ := some_of_ite hb
      exact modeKept_muteExpired h
    | breakDetection chars =>
      obtain ⟨-, rfl⟩ := some_of_ite hb
      exact modeKept_detectBreak h chars
    | breakEnd =>
      obtain ⟨-, rfl⟩ := some_of_ite hb
      exact modeKept_endBreak h
    | windowComplete =>
      obtain ⟨-, rfl⟩ := some_of_ite hb
      exact modeKept_endWindow h
    | _ => cases hc
  · exact h.steady (body_roundsSteady hb (Bool.eq_false_iff.2 hc)) (body_cfs hb)

theorem modeKept_finishBut (skip : Option (Fin 8)) (h : ModeKept s) (old : State) : ModeKept (s.finishBut skip old) :=
  h.steady (roundsKept_finishBut skip s old).steady (by simp)

theorem roundsLawful_fresh (n : Nat) : RoundsLawful n {} where
  cause _ := rfl
  timer h := by cases h
  idle h := by cases h
  slot := Nat.zero_le _
  inSlot _ := .inr rfl
  atEnd h := by cases h
  sequence _ := rfl

/-- R117: the rounds of a station that has just joined. -/
theorem roundsLawful_joined (n : Nat) : RoundsLawful n { ({} : Sequencer) with mode := .listen, idleCount := some 0 } :=
  { roundsLawful_fresh n with cause := fun _ => rfl, idle := fun _ => rfl }

theorem modeKept_restarted (c : ConfigStore) (high : Bool) (s : State) : ModeKept (s.restarted c high) :=
  (modeKept_iff _).2 (roundsLawful_fresh _)

theorem modeKept_quiet (h : Quiet s) : ModeKept s := by
  rw [modeKept_iff, h.rounds]
  exact roundsLawful_fresh _

theorem modeKept_effect {r : Request} (hj : s.judge r = none) (hq : ConfigQuiet s) (h : ModeKept s) :
    ModeKept (s.effect r) := by
  cases r with
  | configWrite record items =>
    have hm : s.rsq.mode = .config := by simpa [modeOk] using judge_mode hj
    have hc : ConfigQuiet (s.effect (.configWrite record items)) := configQuiet_effect hj hq
    exact modeKept_quiet ((configQuiet_iff _).1 hc (by
      simp only [State.effect]
      split
      · exact hm
      · simpa using hm))
  | join =>
    have hm : s.rsq.mode = .config := by simpa [modeOk] using judge_mode hj
    have hs := (configQuiet_iff s).1 hq hm
    refine modeKept_finishBut none ?_ s
    rw [join_eq]
    have hrsq : s.joinListed.requestLevels.restoreStarted.rsq = { ({} : Sequencer) with mode := .listen, idleCount := some 0 } := by
      simp [hs.rounds]
    exact (modeKept_iff _).2 (hrsq ▸ roundsLawful_joined _)
  | setDemand | setChannel | poleCommand => exact modeKept_finishBut _ (h.same (by simp) (by simp)) s
  | reset => exact modeKept_restarted _ _ s
  | readStation | readAlarms | readPoles | readChannels => exact h
  | readPeer | readIo | readChanges | setAttnMask | setOutput =>
    exact h.same (by simp [State.effect]) (by simp [State.effect])
  | sendNotice n =>
    simp only [State.effect]
    split
    · exact h
    · exact h

theorem modeKept_tick (h : ModeKept s) : ModeKept s.tick := by
  have hx := (modeKept_iff s).1 h
  refine (modeKept_iff _).2 { hx with timer := fun ht => hx.timer ?_, idle := fun hi => hx.idle ?_ }
  · have ht' : s.rsq.muteTimer.tick.isSome = true := ht
    simpa [Timer.tick] using ht'
  · have hi' : s.idleTicked.isSome = true := hi
    simpa [State.idleTicked] using hi'

end Modes

end Machine
end Sys2Proof

/-!
PROOFS. The laws of the Line Interface hold through every step (R116, R122, R136, R138, R142, R146, R150).
-/

namespace Sys2Proof
namespace Machine

section Line

variable {s t u : State}

/-! ### The laws of the Line Interface, of its items alone and with the line's level -/

/-- The laws of the Line Interface's items, under a round length and a mode. -/
structure LineLoose (n : Nat) (m : Mode) (li : LineInterface) : Prop where
  errors : li.txErrors ≤ Figures.txErrorLimit
  outside : m ≠ .run → li.driver = .released
  abort : li.abortPending = true → li.driver = .released
  frame : li.receiver = .frame ↔ li.reception ≠ []
  goes : judgeRun li.reception (.going 0) = .going
  expected : li.expected = expectedLength li.reception
  opened : li.receiver = .frame → li.startSlot ≠ none
  start : ∀ k, li.startSlot = some k → k ≤ n ∧ (li.receiver = .frame ∨ li.receiver = .idle)

/-- The laws of the Line Interface's items that speak of the line's level and its dominant run. -/
structure LineLevelled (l : LineLevel) (li : LineInterface) : Prop where
  stuckRun : li.dominantRun = Figures.stuckBits → li.stuck = true
  idleRun : l = .recessive → li.dominantRun = 0 ∧ li.restarted = false
  startLevel : ∀ k, li.startSlot = some k → li.receiver = .frame ∨ l = .dominant

/-- 12.2: the length that a header tells, by the kind in its upper half. -/
theorem expectedLength_header (a header : Byte) (rest : List Byte) :
    expectedLength (a :: header :: rest) =
      if header.toNat / 16 = 1 then some 18 else if header.toNat / 16 = 2 then some 8
      else if header.toNat / 16 = 3 then some 6 else none := by
  have hkind : (header >>> 4).toNat = header.toNat / 16 := by simp [BitVec.toNat_ushiftRight, Nat.shiftRight_eq_div_pow]
  simp only [expectedLength, headerKind, hkind]
  split
  next h => simp [h, frameLength]
  next h => simp [h, frameLength]
  next h => simp [h, frameLength]
  next h1 h2 h3 => rw [if_neg h1, if_neg h2, if_neg h3]; rfl

theorem expectedLength_short {l : List Byte} (h : ∀ a header rest, l ≠ a :: header :: rest) : expectedLength l = none := by
  match l, h with
  | [], _ => rfl
  | [_], _ => rfl
  | a :: header :: rest, h => exact absurd rfl (h a header rest)

theorem lineKept_iff (s : State) :
    LineKept s ↔ LineLoose s.roundLength s.rsq.mode s.li ∧ LineLevelled s.pins.line s.li := by
  unfold LineKept
  constructor
  · rintro ⟨h1, h2, h3, h4, h5, h6, h7, h8, h9, h10⟩
    refine ⟨⟨h1, h4, h5, h6, h7, h8.trans ?_, h9, fun k hk => ?_⟩, ⟨h2, h3, fun k hk => ?_⟩⟩
    · split
      next e => rw [e, expectedLength_header]
      next hne => exact (expectedLength_short fun a header rest e => hne a header rest e).symm
    · obtain ⟨hn, hr | ⟨hr, -⟩⟩ := h10 k hk
      · exact ⟨hn, .inl hr⟩
      · exact ⟨hn, .inr hr⟩
    · obtain ⟨-, hr | ⟨-, hl⟩⟩ := h10 k hk
      · exact .inl hr
      · exact .inr hl
  · rintro ⟨⟨h1, h4, h5, h6, h7, h8, h9, h10⟩, ⟨h2, h3, h11⟩⟩
    refine ⟨h1, h2, h3, h4, h5, h6, h7, h8.trans ?_, h9, fun k hk => ⟨(h10 k hk).1, ?_⟩⟩
    · split
      next e => rw [e, expectedLength_header]
      next hne => exact expectedLength_short fun a header rest e => hne a header rest e
    · obtain ⟨-, hr | hr⟩ := h10 k hk
      · exact .inl hr
      · exact (h11 k hk).imp_right fun hl => ⟨hr, hl⟩

/-- The laws that the Line Interface's items alone keep, in a state. -/
abbrev Loose (s : State) : Prop := LineLoose s.roundLength s.rsq.mode s.li

theorem LineKept.loose (h : LineKept s) : Loose s := ((lineKept_iff s).1 h).1

theorem LineKept.levelled (h : LineKept s) : LineLevelled s.pins.line s.li := ((lineKept_iff s).1 h).2

/-- A change that leaves the line and does not take the station out of RUN. -/
theorem LineKept.same (h : LineKept s) (hli : t.li = s.li) (hline : t.pins.line = s.pins.line) (hcfs : t.cfs = s.cfs)
    (hmode : s.rsq.mode = .run → t.rsq.mode = .run) : LineKept t := by
  refine (lineKept_iff t).2 ⟨?_, ?_⟩
  · show LineLoose t.roundLength t.rsq.mode t.li
    rw [roundLength_congr hcfs, hli]
    exact { h.loose with outside := fun hm => h.loose.outside fun hr => hm (hmode hr) }
  · rw [hli, hline]
    exact h.levelled

/-- A driver that is released drives in no mode. -/
theorem LineLoose.muted {n : Nat} {m m' : Mode} {li : LineInterface} (h : LineLoose n m li) (hd : li.driver = .released) :
    LineLoose n m' li := { h with outside := fun _ => hd }

theorem LineKept.muted (h : LineKept s) (hd : s.li.driver = .released) (hli : t.li = s.li)
    (hline : t.pins.line = s.pins.line) (hcfs : t.cfs = s.cfs) : LineKept t := by
  refine (lineKept_iff t).2 ⟨?_, ?_⟩
  · show LineLoose t.roundLength t.rsq.mode t.li
    rw [roundLength_congr hcfs, hli]
    exact h.loose.muted hd
  · rw [hli, hline]
    exact h.levelled

/-! ### A level and a run (R138, R142) -/

/-- R122: the slot counter of a start bit is the one that stands, unless one is kept already. -/
theorem loose_startSeen (h : Loose s) (hslot : s.rsq.slotCounter ≤ s.roundLength)
    (hr : s.li.receiver = .frame ∨ s.li.receiver = .idle) : Loose s.startSeen := by
  refine { h with opened := fun _ => ?_, start := fun k hk => ⟨?_, hr⟩ }
  · show (s.li.startSlot <|> some s.rsq.slotCounter) ≠ none
    cases s.li.startSlot <;> simp
  · have hk' : (s.li.startSlot <|> some s.rsq.slotCounter) = some k := hk
    cases hs : s.li.startSlot with
    | none =>
      rw [hs] at hk'
      obtain rfl : s.rsq.slotCounter = k := by simpa using hk'
      exact hslot
    | some m =>
      rw [hs] at hk'
      obtain rfl : m = k := by simpa using hk'
      exact (h.start m hs).1

theorem loose_lineTo_dominant (h : Loose s) (hslot : s.rsq.slotCounter ≤ s.roundLength) : Loose (s.lineTo .dominant) := by
  unfold Loose
  rw [roundLength_congr (s := s) (by simp), (lineTo_rounds s .dominant).1, lineTo_dominant_li]
  split
  next hg =>
    simp only [Bool.and_eq_true, beq_iff_eq] at hg
    exact loose_startSeen h hslot (.inr hg.2)
  next => exact h

theorem loose_lineTo_recessive (h : Loose s) : Loose (s.lineTo .recessive) := by
  refine { h with opened := fun hr => ?_, start := fun k hk => ?_ }
  · have hr' : s.li.receiver = .frame := hr
    simpa [hr'] using h.opened hr'
  · simp only [lineTo_recessive_li] at hk
    split at hk
    · exact h.start k hk
    · cases hk

theorem lineKept_recessive (h : Loose s) : LineKept (s.lineTo .recessive) := by
  refine (lineKept_iff _).2 ⟨loose_lineTo_recessive h, ⟨fun hr => by simp [Figures.stuckBits] at hr, fun _ => ⟨rfl, rfl⟩, fun k hk => ?_⟩⟩
  simp only [lineTo_recessive_li] at hk
  split at hk
  next hr => exact .inl hr
  next => cases hk

theorem dominantRun_lineTo_dominant (s : State) : (s.lineTo .dominant).li.dominantRun = s.li.dominantRun := dominantRun_lineTo s .dominant

theorem lineKept_dominant (h : Loose s) (hslot : s.rsq.slotCounter ≤ s.roundLength)
    (hrun : s.li.dominantRun = Figures.stuckBits → s.li.stuck = true) : LineKept (s.lineTo .dominant) := by
  refine (lineKept_iff _).2 ⟨loose_lineTo_dominant h hslot, ⟨?_, fun hl => ?_, fun k _ => .inr (by simp)⟩⟩
  · rw [dominantRun_lineTo_dominant]
    simpa using hrun
  · simp at hl

theorem lineKept_sense (h : LineKept s) (hslot : s.rsq.slotCounter ≤ s.roundLength) (l : LineLevel) : LineKept (s.sense l) := by
  rcases sense_cases s l with ⟨-, e⟩ | ⟨-, e⟩ <;> rw [e]
  · exact h
  · cases l with
    | recessive => exact lineKept_recessive h.loose
    | dominant => exact lineKept_dominant h.loose hslot h.levelled.stuckRun

theorem lineKept_dominantSeen (h : LineKept s) (hslot : s.rsq.slotCounter ≤ s.roundLength) (n : Nat) :
    LineKept (s.dominantSeen n) := by
  have hrun (m : Nat) : min n (if Figures.breakBits ≤ m then Figures.stuckBits - 1 else Figures.breakBits - 1) < Figures.stuckBits := by
    refine (Nat.min_le_right _ _).trans_lt ?_
    split <;> decide
  have hloose (m : Nat) : Loose (s.withLi { s.li with dominantRun := m }) := { h.loose with }
  unfold State.dominantSeen
  dsimp only
  split
  · exact h
  next hstuck =>
    split
    · refine lineKept_dominant (hloose _) hslot fun hr => ?_
      rcases max_choice s.li.dominantRun (min n (if Figures.breakBits ≤ s.li.dominantRun then Figures.stuckBits - 1 else
        Figures.breakBits - 1)) with e | e
      · exact h.levelled.stuckRun (e ▸ hr)
      · exact absurd (e ▸ hr) (hrun _).ne
    · split
      · exact lineKept_recessive h.loose
      · exact lineKept_dominant (hloose _) hslot fun hr => absurd hr (hrun _).ne

/-! ### The receiver (R142, R143) -/

/-- A run that goes on goes on whatever its length in dominant bits. -/
theorem judgeRun_going (l : List Byte) (n m : Nat) : judgeRun l (.going n) = judgeRun l (.going m) := by
  match l with
  | [] => rfl
  | [_] => rfl
  | _ :: _ :: _ => rfl

/-- A run goes on only without an ending. -/
theorem going_of_judgeRun {l : List Byte} {e : RunEnding} (h : judgeRun l e = .going) : ∃ n, e = .going n := by
  have hcut (hc : cutRun e = .going) : ∃ n, e = .going n := by
    cases e with
    | going n => exact ⟨n, rfl⟩
    | _ => cases hc
  unfold judgeRun at h
  split at h
  · split at h
    · cases h
    · exact ⟨_, rfl⟩
    · cases h
  · split at h
    · cases h
    · split at h
      · exact hcut h
      · split at h
        · cases h
        · split at h
          · exact hcut h
          · split at h <;> cases h

/-- A receiver that holds no characters and no start bit. -/
theorem LineLoose.emptied {n : Nat} {m : Mode} {li : LineInterface} (h : LineLoose n m li) {r : ReceiverState} (hr : r ≠ .frame) :
    LineLoose n m (li.taking r []) :=
  { h with
    frame := ⟨fun he => absurd he hr, fun he => absurd rfl he⟩
    goes := rfl
    expected := rfl
    opened := fun he => absurd he hr
    start := fun k hk => by simp [LineInterface.taking, hr] at hk }

theorem lineKept_receiverTo (h : Loose s) {r : ReceiverState} (hr : r ≠ .frame) : LineKept (s.receiverTo r) :=
  lineKept_recessive (s := s.taking r []) (h.emptied hr)

theorem lineKept_frameDone (h : LineKept s) : LineKept s.frameDone := by
  refine lineKept_recessive (s := s.withLi _) ?_
  exact { h.loose.emptied (r := .idle) (by decide) with
    errors := (Nat.sub_le _ _).trans h.loose.errors, outside := fun _ => rfl, abort := fun _ => rfl }

theorem LineLevelled.emptied {l : LineLevel} {li : LineInterface} (h : LineLevelled l li) {r : ReceiverState} (hr : r ≠ .frame) :
    LineLevelled l (li.taking r []) :=
  { h with startLevel := fun k hk => by simp [LineInterface.taking, hr] at hk }

theorem lineKept_taking (h : LineKept s) {r : ReceiverState} (hr : r ≠ .frame) : LineKept (s.taking r []) :=
  (lineKept_iff _).2 ⟨h.loose.emptied hr, h.levelled.emptied hr⟩

theorem lineKept_countRxError (h : LineKept s) (k : RxErrorKind) : LineKept (s.countRxError k) := by
  have hc : LineKept (s.withLi { s.li with rxErrors := satInc 255 s.li.rxErrors, lastRxError := k }) :=
    (lineKept_iff _).2 ⟨{ h.loose with }, { h.levelled with }⟩
  exact hc.same (by simp [State.countRxError]) (by simp [State.countRxError]) (by simp [State.countRxError])
    (by simp [State.countRxError])

theorem lineKept_restartIdle (h : LineKept s) : LineKept s.restartIdle := h.same rfl rfl rfl id

theorem lineKept_lineAfter (h : LineKept s) (hslot : s.rsq.slotCounter ≤ s.roundLength) (chars : List Byte) (e : RunEnding) :
    LineKept (s.lineAfter chars e) := by
  unfold State.lineAfter
  split
  · refine lineKept_dominantSeen ?_ ?_ _
    · split
      · exact h
      · exact lineKept_restartIdle h
    · split <;> exact hslot
  · exact lineKept_restartIdle (lineKept_recessive h.loose)

theorem receiverAfter_ne (k : RxErrorKind) (e : RunEnding) : receiverAfter k e ≠ .frame := by
  unfold receiverAfter
  split
  · decide
  · split <;> decide

theorem lineKept_hearError (h : LineKept s) (hslot : s.rsq.slotCounter ≤ s.roundLength) (chars : List Byte) (e : RunEnding) :
    LineKept (s.hearError chars e) := by
  have ht := lineKept_lineAfter h hslot chars e
  unfold State.hearError
  dsimp only
  split
  · refine lineKept_taking ht ?_
    split <;> decide
  next ha =>
    split
    · exact lineKept_countRxError (lineKept_taking ht (receiverAfter_ne _ _)) _
    · refine lineKept_taking ht ?_
      split <;> decide
    next hj =>
      split
      · exact ht
      next hne =>
        obtain ⟨n, rfl⟩ := going_of_judgeRun hj
        have hrun : s.li.reception ++ chars ≠ [] := by simpa using hne
        have hr : s.li.receiver = .frame ∨ s.li.receiver = .idle := by
          cases hrec : s.li.receiver with
          | frame => exact .inl rfl
          | idle => exact .inr rfl
          | discard => simp [State.assembles, hrec] at ha
        have hseen := loose_startSeen h.loose hslot hr
        refine lineKept_lineAfter (s := s.startSeen.taking .frame (s.li.reception ++ chars)) ((lineKept_iff _).2 ⟨?_, ?_⟩) hslot _ _
        · exact { hseen with
            frame := ⟨fun _ => hrun, fun _ => rfl⟩
            goes := (judgeRun_going _ _ _).trans hj
            expected := rfl
            opened := fun _ => by
              show (s.li.startSlot <|> some s.rsq.slotCounter) ≠ none
              cases s.li.startSlot <;> simp
            start := fun k hk => ⟨(hseen.start k hk).1, .inl rfl⟩ }
        · exact { h.levelled with startLevel := fun _ _ => .inl rfl }
    · exact h

/-! ### Own frames, breaks and windows (R144 to R150) -/

theorem lineKept_startFrame (h : LineKept s) (hm : s.rsq.mode = .run) (ha : s.li.abortPending = false) (b : FrameBody) :
    LineKept (s.startFrame b) := by
  refine (lineKept_iff _).2 ⟨?_, ⟨h.levelled.stuckRun, fun hl => (by cases hl), fun _ _ => .inr rfl⟩⟩
  exact { h.loose with outside := fun hn => absurd hm hn, abort := fun hp => absurd (ha.symm.trans hp) (by decide) }

theorem lineKept_startOwnSlot (h : LineKept s) (hm : s.rsq.mode = .run) (ha : s.li.abortPending = false) (taken : Bool) :
    LineKept (s.startOwnSlot taken) := by
  unfold State.startOwnSlot
  split
  · exact h
  · exact lineKept_startFrame h hm ha _

theorem lineKept_presentClaim (h : LineKept s) (p : Fin 16) : LineKept (s.presentClaim p) := by
  have ht : LineKept (s.withRsq { s.rsq with windowPosition := some p }) := h.same rfl rfl rfl id
  unfold State.presentClaim
  dsimp only
  split
  next hg =>
    simp only [Bool.and_eq_true, beq_iff_eq, Bool.not_eq_true'] at hg
    obtain ⟨⟨⟨⟨⟨-, hm⟩, -⟩, -⟩, -⟩, ha⟩ := hg
    exact lineKept_startFrame ht hm ha _
  next => exact ht

theorem lineKept_compareEcho (h : LineKept s) (hslot : s.rsq.slotCounter ≤ s.roundLength) (i : Nat) (r : BitVec 10) :
    LineKept (s.compareEcho i r) := by
  have hseen (x : LineInterface) (hx : LineKept (s.withLi x)) : LineKept ((s.withLi x).dominantSeen (dominantAfter r)) :=
    lineKept_dominantSeen hx hslot _
  unfold State.compareEcho
  split
  · exact h
  · split
    · exact h
    · refine hseen _ ?_
      refine (lineKept_iff _).2 ⟨?_, ?_⟩
      · split
        · exact { h.loose with }
        · exact { h.loose.emptied (r := .discard) (by decide) with outside := fun _ => rfl, abort := fun _ => rfl }
      · split
        · exact { h.levelled with }
        · exact { h.levelled.emptied (r := .discard) (by decide) with }

theorem lineKept_judgeAbort (h : LineKept s) (hh : s.hears = true) : LineKept s.judgeAbort := by
  obtain ⟨-, hd, -⟩ := (hears_iff s).1 hh
  have ht (n : Nat) (hn : n ≤ Figures.txErrorLimit) :
      LineKept (((s.withLi { s.li with abortPending := false, txErrors := n }).lineTo .recessive).setTopics
        { lineErrors := true }) := by
    refine LineKept.same (s := (s.withLi { s.li with abortPending := false, txErrors := n }).lineTo .recessive) ?_ (by simp)
      (by simp) (by simp) (by simp)
    exact lineKept_recessive { h.loose with errors := hn, abort := fun ha => by cases ha }
  have hn := satInc_le Figures.txErrorLimit s.li.txErrors
  unfold State.judgeAbort
  dsimp only
  split
  · exact (ht _ hn).muted (by simp [hd]) rfl rfl rfl
  · exact ht _ hn

theorem lineKept_dominantFor (h : LineKept s) (hslot : s.rsq.slotCounter ≤ s.roundLength) {n : Nat} (hn : n ≠ Figures.stuckBits) :
    LineKept (s.dominantFor n) :=
  lineKept_dominant (s := s.withLi { s.li with dominantRun := n }) { h.loose with } hslot fun hr => absurd hr hn

theorem lineKept_stickLine (h : LineKept s) (hslot : s.rsq.slotCounter ≤ s.roundLength) : LineKept s.stickLine := by
  have hd : Loose (s.dominantFor Figures.stuckBits) :=
    loose_lineTo_dominant (s := s.withLi { s.li with dominantRun := Figures.stuckBits }) { h.loose with } hslot
  refine (lineKept_iff _).2 ⟨{ hd with }, ⟨fun _ => rfl, fun hl => ?_, fun _ _ => .inr ?_⟩⟩
  · simp [State.stickLine, State.dominantFor] at hl
  · simp [State.stickLine, State.dominantFor]

theorem lineKept_breakFound (h : LineKept s) (chars : List Byte) : LineKept (s.breakFound chars) := by
  have hout (hm : s.rsq.mode ≠ .run) : s.li.driver = .released := h.loose.outside hm
  have hv (x : Sequencer) (y : AlarmController) (hx : x.mode = s.rsq.mode) :
      LineKept (((s.withLi { s.li.taking .idle [] with
        driver := if s.li.driver = .frame then .released else s.li.driver, ownFrame := none, abortPending := false }).withRsq x).withAlc y) := by
    refine (lineKept_iff _).2 ⟨?_, { h.levelled.emptied (r := .idle) (by decide) with }⟩
    refine { h.loose.emptied (r := .idle) (by decide) with outside := fun hm => ?_, abort := fun ha => by cases ha }
    have hm' : s.rsq.mode ≠ .run := fun he => hm (hx.trans he)
    simp [hout hm']
  unfold State.breakFound
  dsimp only
  split
  · refine lineKept_countRxError ?_ _
    exact hv { s.rsq with phase := .brk, windowPosition := none, idleCount := none } { s.alc with breakHold := true } rfl
  · exact hv { s.rsq with phase := .brk, windowPosition := none, idleCount := none } { s.alc with breakHold := true } rfl

theorem lineKept_detectBreak (h : LineKept s) (hslot : s.rsq.slotCounter ≤ s.roundLength) (chars : List Byte) :
    LineKept (s.detectBreak chars) := by
  have hd := lineKept_dominantFor h hslot (n := Figures.breakBits) (by decide)
  unfold State.detectBreak
  dsimp only
  split
  · exact hd
  · exact lineKept_breakFound hd chars

theorem lineKept_endBreak (h : LineKept s) : LineKept s.endBreak := by
  have ht : LineKept ((s.withLi
      { s.li with stuck := false, driver := if s.li.driver = .brk then .released else s.li.driver }).lineTo .recessive) := by
    refine lineKept_recessive { h.loose with outside := fun hm => ?_, abort := fun ha => ?_ }
    · have hd := h.loose.outside hm
      simp [hd]
    · have hd := h.loose.abort ha
      simp [hd]
  unfold State.endBreak State.beginWindow
  dsimp only
  split
  · exact ht
  · refine lineKept_presentClaim ?_ 0
    exact ht.same rfl rfl rfl id

theorem lineKept_assertBreak (h : LineKept s) (hm : s.rsq.mode = .run) (ha : s.li.abortPending = false) : LineKept s.assertBreak := by
  refine (lineKept_iff _).2 ⟨?_, ?_⟩
  · show LineLoose s.roundLength s.rsq.mode s.assertBreak.li
    rw [assertBreak_li]
    have hloose : LineLoose s.roundLength s.rsq.mode (if s.li.driver = .frame then s.li.taking .discard [] else s.li) := by
      split
      · exact h.loose.emptied (by decide)
      · exact h.loose
    have habort : (if s.li.driver = .frame then s.li.taking .discard [] else s.li).abortPending = false := by
      split <;> exact ha
    exact { hloose with
      outside := fun hn => absurd hm hn
      abort := fun hp => absurd (habort.symm.trans hp) (by decide) }
  · show LineLevelled .dominant s.assertBreak.li
    rw [assertBreak_li]
    refine ⟨?_, fun hl => (by cases hl), fun _ _ => .inr rfl⟩
    split <;> exact h.levelled.stuckRun

theorem lineKept_finishBut (skip : Option (Fin 8)) (h : LineKept s) (old : State) : LineKept (s.finishBut skip old) := by
  rcases finishBut_line skip s old with ⟨hli, hpins⟩ | ⟨hm, -, -, -, ha, -, hli, hpins⟩
  · exact h.same hli (by rw [hpins]) (by simp) (by simp)
  · exact (lineKept_assertBreak h hm ha).same hli (by rw [hpins]) (by simp [State.assertBreak]) (by simp [State.assertBreak])

/-! ### Events (R142 to R150) -/

theorem followFrame_run (s : State) (a : Fin 16) (h : s.rsq.mode = .run) : (s.followFrame a).rsq.mode = .run := by
  rcases followFrame_mode s a with e | ⟨hl, -⟩
  · rw [e, h]
  · rw [h] at hl
    cases hl

theorem lineKept_followed (h : LineKept s) (a : Fin 16) : LineKept ((s.followFrame a).receiverTo .idle) := by
  refine lineKept_receiverTo ?_ (by decide)
  exact (h.same (t := s.followFrame a) (by simp) (by simp) (by simp) (followFrame_run s a)).loose

theorem lineKept_hearStatus (h : LineKept s) (a : Fin 16) (b : StatusBody) : LineKept (s.hearStatus a b) :=
  (lineKept_followed h a).same (by simp [State.hearStatus]) (by simp [State.hearStatus]) (by simp)
    fun hm => by simpa [State.receiverTo] using hm

theorem lineKept_hearNotice (h : LineKept s) (a : Fin 16) (b : NoticeBody) : LineKept (s.hearNotice a b) := by
  have hf : LineKept (((s.followFrame a).receiverTo .idle).refreshPeer a) :=
    (lineKept_followed h a).same rfl rfl rfl id
  unfold State.hearNotice
  dsimp only
  split
  · exact hf.same (by simp) (by simp) (by simp) (by simp)
  · exact hf

theorem lineKept_hearDuplicate (h : LineKept s) (hh : s.hears = true) (b : FrameBody) : LineKept (s.hearDuplicate b) := by
  obtain ⟨-, hd, -⟩ := (hears_iff s).1 hh
  have ht : Loose (if s.rsq.muteCause = .duplicate then s else s.muteDuplicate.followDuplicate b s.rsq.mode) := by
    split
    · exact h.loose
    · exact (h.muted (t := s.muteDuplicate.followDuplicate b s.rsq.mode) hd (by simp) (by simp) (by simp)).loose
  have hu := lineKept_receiverTo ht (r := .idle) (by decide)
  unfold State.hearDuplicate
  dsimp only
  cases b with
  | alarm => exact hu.same (by simp) (by simp) (by simp) (by simp)
  | status | notice => exact hu

theorem lineKept_ownNoticeSent (h : LineKept s) : LineKept s.ownNoticeSent := by
  have hf := lineKept_frameDone h
  have hp : LineKept ((s.frameDone.retireHead.withRsq { s.frameDone.retireHead.rsq with lastOwnSlot := .notice }).passSlot s.own.val) :=
    hf.same (by simp) (by simp) (by simp) fun hm => by simpa [State.passSlot, State.retireHead] using hm
  unfold State.ownNoticeSent
  dsimp only
  split
  · exact hp.same (by simp) (by simp) (by simp) (by simp)
  · exact hp

theorem lineKept_muteExpired (h : LineKept s) : LineKept s.muteExpired := by
  unfold State.muteExpired
  dsimp only
  split
  next hg =>
    simp only [Bool.and_eq_true, decide_eq_true_eq] at hg
    obtain ⟨⟨hm, -⟩, -⟩ := hg
    have hd := h.loose.outside (by rw [hm]; decide)
    exact (lineKept_iff _).2 ⟨{ h.loose with errors := Nat.zero_le _, outside := fun _ => hd }, { h.levelled with }⟩
  next => exact h

@[simp] theorem takeSample_line (s : State) (i : Fin 16) (a : Bool) : (s.takeSample i a).pins.line = s.pins.line := by
  unfold State.takeSample
  dsimp only
  split
  · simp [State.settled, State.withInput]
  · rfl

theorem sampleInput_line (s : State) (i : Fin 16) (a : Bool) : (s.sampleInput i a).pins.line = s.pins.line := by
  unfold State.sampleInput
  dsimp only
  split
  · rfl
  · simp [State.contact]

theorem body_lineKept {c : Instr} (hb : s.body c = some u) (hmode : ModeKept s) (h : LineKept s) : LineKept u := by
  have hslot := ((modeKept_iff s).1 hmode).slot
  have hsense (l : LineLevel) : LineKept (s.sense l) := lineKept_sense h hslot l
  have hsame {v : State} (hli : v.li = s.li) (hline : v.pins.line = s.pins.line) (hcfs : v.cfs = s.cfs)
      (hm : v.rsq.mode = s.rsq.mode) : LineKept v := h.same hli hline hcfs fun hr => hm.trans hr
  have hkeeps (hc : movesRounds c = false) : u.rsq.mode = s.rsq.mode := (body_roundsSteady hb hc).mode
  cases c with
  | debouncedChange i a l | confirmTimerExpiry x l | gapTimerExpiry l =>
    obtain ⟨-, rfl⟩ := some_of_ite hb
    exact (hsense l).same (by simp) (by simp) (by simp) fun hm => by rw [hkeeps rfl, ← (sense_rounds s l).1, hm]
  | sampleWord w l =>
    cases hb
    exact (hsense l).same (by simp) (by simp) (by simp) fun hm => by rw [hkeeps rfl, ← (sense_rounds s l).1, hm]
  | latchStale m l =>
    cases hb
    exact latchFold_keeps LineKept m (fun t c ht => ht.same (by simp) (by simp) (by simp) (by simp)) _ (hsense l)
  | inputSample i a =>
    cases hb
    exact hsame (by simp) (sampleInput_line s i a) (by simp) (hkeeps rfl)
  | breakAssert =>
    cases hb
    exact hsense _
  | statusReceived a b =>
    obtain ⟨-, rfl⟩ := some_of_ite hb
    exact lineKept_hearStatus h a b
  | noticeReceived a b =>
    obtain ⟨-, rfl⟩ := some_of_ite hb
    exact lineKept_hearNotice h a b
  | alarmReceived a b =>
    obtain ⟨-, rfl⟩ := some_of_ite hb
    exact (lineKept_restartIdle (lineKept_receiverTo h.loose (r := .idle) (by decide))).same (by simp [State.hearAlarm])
      (by simp [State.hearAlarm]) (by simp [State.hearAlarm]) (by simp [State.hearAlarm])
  | duplicateAddress b =>
    obtain ⟨hg, rfl⟩ := some_of_ite hb
    exact lineKept_hearDuplicate h ((receives_iff s _ _).1 hg).1 b
  | receiveError chars ending =>
    simp only [State.body] at hb
    split at hb
    · cases hb
      exact lineKept_hearError h hslot chars ending
    · split at hb
      · cases hb
        exact lineKept_dominantSeen h hslot _
      · cases hb
  | lineActivityEnd =>
    obtain ⟨-, rfl⟩ := some_of_ite hb
    exact lineKept_hearError h hslot _ _
  | ownSlotStart l taken =>
    obtain ⟨hg, rfl⟩ := some_of_ite hb
    simp only [Bool.and_eq_true, beq_iff_eq, Bool.not_eq_true'] at hg
    obtain ⟨⟨⟨⟨⟨hm, -⟩, -⟩, -⟩, -⟩, ha⟩ := hg
    exact lineKept_startOwnSlot (hsense l) (by simpa using hm) (by simpa using ha) taken
  | claimPositionStart p l =>
    obtain ⟨-, rfl⟩ := some_of_ite hb
    exact lineKept_presentClaim (hsense l) p
  | ownStatusComplete =>
    obtain ⟨-, rfl⟩ := some_of_ite hb
    exact (lineKept_frameDone h).same rfl rfl rfl id
  | ownNoticeComplete =>
    obtain ⟨-, rfl⟩ := some_of_ite hb
    exact lineKept_ownNoticeSent h
  | ownAlarmComplete =>
    obtain ⟨-, rfl⟩ := some_of_ite hb
    exact (lineKept_frameDone h).same (by simp [State.ownAlarmSent]) (by simp [State.ownAlarmSent])
      (by simp [State.ownAlarmSent]) (by simp [State.ownAlarmSent])
  | echoMismatch i r =>
    obtain ⟨-, rfl⟩ := some_of_ite hb
    exact lineKept_compareEcho h hslot i r
  | abortJudgedError =>
    obtain ⟨hg, rfl⟩ := some_of_ite hb
    exact lineKept_judgeAbort h (by simp only [Bool.and_eq_true] at hg; exact hg.2)
  | muteTimerExpiry =>
    obtain ⟨-, rfl⟩ := some_of_ite hb
    exact lineKept_muteExpired h
  | idleCountExpiry =>
    obtain ⟨-, rfl⟩ := some_of_ite hb
    exact (lineKept_receiverTo h.loose (r := .idle) (by decide)).same (by simp) (by simp) (by simp)
      fun _ => by rw [takeRoundEnd_mode]; rfl
  | breakRelease =>
    obtain ⟨-, rfl⟩ := some_of_ite hb
    exact (lineKept_iff _).2 ⟨{ h.loose with outside := fun _ => rfl, abort := fun _ => rfl }, { h.levelled with }⟩
  | breakDetection chars =>
    obtain ⟨-, rfl⟩ := some_of_ite hb
    exact lineKept_detectBreak h hslot chars
  | breakEnd =>
    obtain ⟨-, rfl⟩ := some_of_ite hb
    exact lineKept_endBreak h
  | stuckLine =>
    obtain ⟨-, rfl⟩ := some_of_ite hb
    exact lineKept_stickLine h hslot
  | skipInterval =>
    obtain ⟨-, rfl⟩ := some_of_ite hb
    exact hsame rfl rfl rfl rfl
  | roundEnd =>
    obtain ⟨hg, rfl⟩ := some_of_ite hb
    have hm : s.roundEnds.rsq.mode = s.rsq.mode := by
      unfold State.roundEnds
      dsimp only
      split <;> simp
    exact hsame (by simp) (by simp) (by simp) hm
  | windowComplete =>
    obtain ⟨-, rfl⟩ := some_of_ite hb
    have hm : s.endWindow.rsq.mode = s.rsq.mode := by
      unfold State.endWindow
      dsimp only
      split
      · rfl
      · simp
    exact hsame (by simp) (by simp) (by simp) hm
  | qualifyTimerExpiry | raiseMaxExpiry | quietTimerExpiry | lowerWaitMaxExpiry | lowerMaxExpiry | restoreQualifyExpiry
  | unclaimedHoldExpiry | demandHoldExpiry | overdrawTimerExpiry | restoreTimerExpiry | peerStale | peerLost =>
    obtain ⟨-, rfl⟩ := some_of_ite hb
    exact hsame (by simp) (by simp) (by simp) (hkeeps rfl)
  | _ => cases hb

end Line

end Machine
end Sys2Proof

/-!
PROOFS. The laws of CONFIG, of the rounds and of the Line Interface, together through every step; the Peer Table holds
nothing for the own address (R116, R136, R153).
-/

namespace Sys2Proof
namespace Machine

section Together

variable {s t u : State}

/-! ### CONFIG, rounds and line -/

/-- The laws of CONFIG, of the rounds and of the line: each is kept under the others. -/
structure LineSound (s : State) : Prop where
  quiet : ConfigQuiet s
  rounds : ModeKept s
  line : LineKept s

theorem LineSound.slot (h : LineSound s) : s.rsq.slotCounter ≤ s.roundLength := ((modeKept_iff s).1 h.rounds).slot

theorem lineKept_restarted (c : ConfigStore) (high : Bool) (s : State) : LineKept (s.restarted c high) :=
  (lineKept_iff _).2
    ⟨{ errors := Nat.zero_le _, outside := fun _ => rfl, abort := fun _ => rfl
       frame := ⟨fun h => (by cases h), fun h => absurd rfl h⟩, goes := rfl, expected := rfl, opened := fun h => by cases h
       start := fun _ h => by cases h },
     { stuckRun := fun h => by cases h
       idleRun := fun _ => ⟨rfl, rfl⟩
       startLevel := fun _ h => by cases h }⟩

/-- R138, R198: a record written may restart the dominant-run count, and in CONFIG no start bit is kept. -/
theorem lineKept_writeConfig (h : LineKept s) (hq : Quiet s) (record : Nat) (vs : List Nat) :
    LineKept (s.writeConfig record vs) := by
  have hrsq : (s.writeConfig record vs).rsq = s.rsq := by simp
  have hpins : (s.writeConfig record vs).pins = s.pins := by simp
  have hany (n : Nat) : LineLoose n s.rsq.mode s.li :=
    { h.loose with start := fun k hk => absurd (hq.start.symm.trans hk) (by simp) }
  refine (lineKept_iff _).2 ⟨?_, ?_⟩
  · show LineLoose _ (s.writeConfig record vs).rsq.mode (s.writeConfig record vs).li
    rw [hrsq, writeConfig_li]
    split
    · exact hany _
    · exact { hany _ with }
  · rw [hpins, writeConfig_li]
    split
    · exact h.levelled
    · refine ⟨fun hr => (by cases hr), fun hl => ⟨rfl, ?_⟩, h.levelled.startLevel⟩
      simp [h.levelled.idleRun hl, hl]

theorem lineKept_join (h : LineKept s) (hq : Quiet s) : LineKept s.join := by
  have hli : s.join.li = s.li.taking .discard [] := by
    rw [join_eq]
    simp
  have hpins : s.join.pins = s.pins := by
    rw [join_eq]
    simp
  have hany (n : Nat) (m : Mode) : LineLoose n m (s.li.taking .discard []) := by
    have hl : LineLoose n m s.li :=
      { h.loose.muted hq.driver with start := fun k hk => absurd (hq.start.symm.trans hk) (by simp) }
    exact hl.emptied (by decide)
  refine (lineKept_iff _).2 ?_
  rw [hli, hpins]
  exact ⟨hany _ _, h.levelled.emptied (by decide)⟩

theorem lineKept_effect {r : Request} (hj : s.judge r = none) (h : LineSound s) : LineKept (s.effect r) := by
  cases r with
  | configWrite record items =>
    have hm : s.rsq.mode = .config := by simpa [modeOk] using judge_mode hj
    simp only [State.effect]
    split
    · exact h.line
    · exact lineKept_finishBut none (lineKept_writeConfig h.line ((configQuiet_iff s).1 h.quiet hm) _ _) s
  | join =>
    have hm : s.rsq.mode = .config := by simpa [modeOk] using judge_mode hj
    exact lineKept_finishBut none (lineKept_join h.line ((configQuiet_iff s).1 h.quiet hm)) s
  | setDemand | setChannel | poleCommand =>
    exact lineKept_finishBut _ (h.line.same (by simp) (by simp) (by simp) (by simp)) s
  | reset => exact lineKept_restarted _ _ s
  | readStation | readAlarms | readPoles | readChannels => exact h.line
  | readPeer | readIo | readChanges | setAttnMask | setOutput =>
    exact h.line.same (by simp [State.effect]) (by simp [State.effect]) (by simp [State.effect]) (by simp [State.effect])
  | sendNotice n =>
    simp only [State.effect]
    split
    · exact h.line
    · exact h.line.same rfl rfl rfl id

theorem kept_lineSound : Kept LineSound where
  link s x h := ⟨h.quiet, h.rounds, h.line⟩
  strap s high cts h := ⟨h.quiet, h.rounds, h.line⟩
  sense s l h :=
    ⟨kept_configQuiet.sense s l h.quiet, h.rounds.steady (roundsSteady_sense s l) (by simp), lineKept_sense h.line h.slot l⟩
  brk s h := by
    refine ⟨kept_configQuiet.brk s h.quiet, h.rounds.same (by simp) (by simp), ?_⟩
    cases hb : s.breakWanted with
    | false =>
      rw [examineBreak_of_not hb]
      exact h.line
    | true =>
      obtain ⟨hm, -, -, -, -, ha⟩ := (breakWanted_iff s).1 hb
      rw [examineBreak_of_wanted hb]
      exact lineKept_assertBreak h.line hm ha
  effect s r h hj := ⟨configQuiet_effect hj h.quiet, modeKept_effect hj h.quiet h.rounds, lineKept_effect hj h⟩
  power s high _ := ⟨configQuiet_of_quiet (quiet_restarted _ _ s), modeKept_restarted _ _ s, lineKept_restarted _ _ s⟩
  pin s high _ := ⟨configQuiet_of_quiet (quiet_restarted _ _ s), modeKept_restarted _ _ s, lineKept_restarted _ _ s⟩
  sampleError s h := ⟨h.quiet, h.rounds, h.line⟩

theorem lineKept_tick (h : LineKept s) : LineKept s.tick := by
  have hrec : s.receiverTicked = s.li.receiver ∨ s.li.receiver = .discard ∧ s.receiverTicked = .idle := by
    rw [receiverTicked_eq]
    split
    next hd => exact .inr ⟨hd.1, rfl⟩
    next => exact .inl rfl
  have hframe : s.receiverTicked = .frame ↔ s.li.receiver = .frame := by
    rcases hrec with e | ⟨hd, e⟩
    · rw [e]
    · simp [hd, e]
  have hstart (k : Nat) (hk : s.li.startSlot = some k) : s.receiverTicked = s.li.receiver := by
    rcases hrec with e | ⟨hd, -⟩
    · exact e
    · obtain ⟨-, hr | hr⟩ := h.loose.start k hk <;> simp [hd] at hr
  refine (lineKept_iff _).2 ⟨?_, ?_⟩
  · show LineLoose s.roundLength s.rsq.mode s.tick.li
    rw [tick_li]
    exact { h.loose with
      frame := hframe.trans h.loose.frame
      opened := fun hr => h.loose.opened (hframe.1 hr)
      start := fun k hk => ⟨(h.loose.start k hk).1, by
        show s.receiverTicked = _ ∨ s.receiverTicked = _
        rw [hstart k hk]
        exact (h.loose.start k hk).2⟩ }
  · show LineLevelled s.pins.line s.tick.li
    rw [tick_li]
    refine ⟨fun hr => ?_, fun hl => ?_, fun k hk => ?_⟩
    · have hr' : s.runTicked = 257 := hr
      rw [runTicked_eq] at hr'
      by_contra hs
      have hs' : ¬s.li.stuck = true := hs
      rw [if_neg hs'] at hr'
      split at hr'
      · have := Nat.min_le_left 256 (s.li.dominantRun + s.station.bitRate.bitsPerMs)
        omega
      · exact hs (h.levelled.stuckRun hr')
    · obtain ⟨hrun, hrest⟩ := h.levelled.idleRun hl
      refine ⟨?_, hrest⟩
      show s.runTicked = 0
      rw [runTicked_eq, if_neg (by simp [hl])]
      exact hrun
    · have hk' : s.li.startSlot = some k := hk
      refine (h.levelled.startLevel k hk').imp_left fun hr => ?_
      exact hframe.2 hr

theorem lineSound_step (h : LineSound s) (ht : step s = .next t) : LineSound t :=
  kept_lineSound.step
    (fun _ _ _ hs hb => ⟨body_configQuiet hb hs.quiet _, modeKept_finishBut none (body_modeKept hb hs.rounds) _,
      lineKept_finishBut none (body_lineKept hb hs.rounds hs.line) _⟩)
    (fun _ _ hs => ⟨hs.quiet, hs.rounds, hs.line⟩)
    (fun _ hs => ⟨configQuiet_tick hs.quiet, modeKept_tick hs.rounds, lineKept_tick hs.line⟩) ht h

/-! ### The own address in the Peer Table (R153) -/

/-- The Peer Table holds nothing for the own address; the table is empty in CONFIG, where the address may change. -/
structure PeersSound (s : State) : Prop where
  quiet : ConfigQuiet s
  own : OwnAbsent s

theorem OwnAbsent.same (h : OwnAbsent s) (hpt : t.pt = s.pt) (hcfs : t.cfs = s.cfs) : OwnAbsent t := by
  unfold OwnAbsent
  rw [peer_congr hpt, own_congr hcfs]
  exact h

theorem body_ownAbsent {c : Instr} (hb : s.body c = some u) (h : OwnAbsent s) : OwnAbsent u := by
  unfold OwnAbsent
  rw [own_congr (body_cfs hb)]
  by_cases hp : peerOf c = some s.own
  · cases c with
    | statusReceived a b | noticeReceived a b =>
      obtain ⟨hg, -⟩ := some_of_ite hb
      simp only [Bool.and_eq_true, bne_iff_ne] at hg
      exact absurd (Option.some.inj hp) hg.2
    | peerStale a | peerLost a =>
      obtain ⟨hg, -⟩ := some_of_ite hb
      obtain rfl : a = s.own := Option.some.inj hp
      rw [OwnAbsent] at h
      simp [State.staleDue, State.lostDue, h] at hg
    | _ => cases hp
  · rw [body_peer hb hp]
    exact h

theorem quiet_ownAbsent (h : Quiet s) : OwnAbsent s := h.peers _

theorem ownAbsent_effect {r : Request} (hj : s.judge r = none) (h : PeersSound s) : OwnAbsent (s.effect r) := by
  cases r with
  | configWrite record items =>
    have hm : s.rsq.mode = .config := by simpa [modeOk] using judge_mode hj
    have hq := (configQuiet_iff s).1 h.quiet hm
    show (s.effect (.configWrite record items)).peer (s.effect (.configWrite record items)).own = {}
    rw [peer_congr (s := s) ?_]
    · exact hq.peers _
    · simp only [State.effect]
      split
      · rfl
      · simp
  | join => 
    have hown : (s.effect .join).own = s.own := by simp [State.own, State.station, State.effect]
    unfold OwnAbsent
    rw [hown, peer_congr (s := s) (by simp [State.effect])]
    exact h.own
  | setDemand | setChannel | poleCommand => exact h.own.same (by simp [State.effect]) (by simp [State.effect])
  | reset => exact quiet_ownAbsent (quiet_restarted _ _ s)
  | readStation | readAlarms | readPoles | readChannels => exact h.own
  | readPeer a =>
    simp only [State.effect, State.clearRoleChanged]
    have hown := h.own
    unfold OwnAbsent at hown ⊢
    have hcfs (x : Peer) (b : Fin 16) : (s.withPeer b x).own = s.own := rfl
    rw [hcfs]
    by_cases ha : s.own = ⟨a.toNat % 16, Nat.mod_lt _ (by decide)⟩
    · rw [← ha, peer_withPeer_self, hown]
    · rw [peer_withPeer_ne _ _ ha, hown]
  | readIo | readChanges | setAttnMask | setOutput => exact h.own.same (by simp [State.effect]) (by simp [State.effect])
  | sendNotice n =>
    simp only [State.effect]
    split <;> exact h.own

theorem kept_peersSound : Kept PeersSound where
  link s x h := ⟨h.quiet, h.own⟩
  strap s high cts h := ⟨h.quiet, h.own⟩
  sense s l h := ⟨kept_configQuiet.sense s l h.quiet, h.own.same (by simp) (by simp)⟩
  brk s h := ⟨kept_configQuiet.brk s h.quiet, h.own.same (by simp) (by simp)⟩
  effect s r h hj := ⟨configQuiet_effect hj h.quiet, ownAbsent_effect hj h⟩
  power s high _ := ⟨configQuiet_of_quiet (quiet_restarted _ _ s), quiet_ownAbsent (quiet_restarted _ _ s)⟩
  pin s high _ := ⟨configQuiet_of_quiet (quiet_restarted _ _ s), quiet_ownAbsent (quiet_restarted _ _ s)⟩
  sampleError s h := ⟨h.quiet, h.own⟩

theorem ownAbsent_tick (h : OwnAbsent s) : OwnAbsent s.tick := by
  show s.tick.peer s.own = {}
  rw [tick_peer, h]
  rfl

theorem peersSound_step (h : PeersSound s) (ht : step s = .next t) : PeersSound t :=
  kept_peersSound.step
    (fun _ _ _ hs hb => ⟨body_configQuiet hb hs.quiet _, (body_ownAbsent hb hs.own).same (by simp) (by simp)⟩)
    (fun _ _ hs => ⟨hs.quiet, hs.own⟩)
    (fun _ hs => ⟨configQuiet_tick hs.quiet, ownAbsent_tick hs.own⟩) ht h

end Together

end Machine
end Sys2Proof

/-!
PROOFS. The laws of the current and of the channels hold through every step (R63, R66, R67, R74, R75, R82, R87), and with
the others all the laws do (O4).
-/

namespace Sys2Proof
namespace Machine

section Current

variable {s t u : State}

/-! ### The laws of the current (R63, R66, R67, R87) -/

/-- The laws of the allowance, the grant and the ON channels. -/
structure CurrentLaws (s : State) : Prop where
  apportioned : Apportioned s
  stopped : s.stopEffect = true → s.ca.allowance = 0 ∧ ∀ k, s.isOn k = false
  lineFed : LineFedOut s

theorem CurrentLaws.same (h : CurrentLaws s) (hca : t.ca = s.ca) (hll : t.ll = s.ll) (hcfs : t.cfs = s.cfs)
    (halc : t.alc = s.alc) (hmode : t.rsq.mode = s.rsq.mode) : CurrentLaws t := by
  have hon (k : Fin 8) : t.isOn k = s.isOn k := isOn_congr (by rw [hll]) k
  have hsum : t.onSum = s.onSum := onSum_congr (by rw [hll]) hcfs
  have hstop : t.stopEffect = s.stopEffect := by simp [State.stopEffect, State.alarms, halc]
  refine ⟨?_, ?_, ?_⟩
  · unfold Apportioned
    rw [hca, hmode, hsum]
    exact h.apportioned
  · rw [hstop, hca]
    exact fun hs => ⟨(h.stopped hs).1, fun k => (hon k).trans ((h.stopped hs).2 k)⟩
  · intro hl k hk
    rw [channelCfg_congr hcfs]
    exact h.lineFed (hca ▸ hl) k ((hon k).symm.trans hk)

/-- R66, R67, R74: channels whose ratings make up no current are not ON. -/
theorem isOn_eq_false_of_onSum (h : LadderAgrees s) (hsum : s.onSum = 0) (k : Fin 8) : s.isOn k = false := by
  by_contra hk
  have hon : s.isOn k = true := by simpa using hk
  have hrating : s.rating k = 0 := by
    have hmem : (if s.isOn k then s.rating k else 0) ∈ eight.map fun k => if s.isOn k then s.rating k else 0 :=
      List.mem_map_of_mem (mem_eight k)
    have hle := List.single_le_sum (fun _ _ => Nat.zero_le _) _ hmem
    have hz : (if s.isOn k then s.rating k else 0) = 0 := Nat.le_zero.1 (hle.trans hsum.le)
    simpa [hon] using hz
  have hunused := (h k).2.2 hrating
  simp [State.isOn, hunused] at hon

/-- R60, R62, R66: under a stop the share is nothing. -/
theorem currentLaws_of_end (h : CurrentEnd u t) (hmode : t.rsq.mode = u.rsq.mode) (hcfs : t.cfs = u.cfs) (hl : LadderAgrees t) :
    CurrentLaws t := by
  have hshare : t.ca.share ≤ t.ca.ownCharge := by
    rw [h.share]
    exact formShare_le _ _ _
  refine ⟨⟨fun hm => ?_, ?_, h.grant⟩, fun hs => ?_, fun hc k hk => ?_⟩
  · rw [h.allowance, if_neg (hmode ▸ hm)]
  · rw [h.allowance]
    split
    · exact (Nat.min_le_right _ _).trans hshare
    · exact Nat.zero_le _
  · have hbudget : t.ca.budget = 0 := by rw [h.budget, State.formBudget, if_pos hs]
    have hshare0 : t.ca.share = 0 := by
      rw [h.share, hbudget]
      exact fillPart_zero _ _ (List.mem_cons_self ..)
    have hallow : t.ca.allowance = 0 := by
      rw [h.allowance, hshare0]
      split <;> simp
    refine ⟨hallow, isOn_eq_false_of_onSum hl ?_⟩
    have := h.grant
    omega
  · rw [channelCfg_congr hcfs]
    exact h.lineFed hc k hk

theorem currentLaws_finishBut (skip : Option (Fin 8)) (old : State) (hm : u.rsq.mode ≠ .config)
    (hl : LadderAgrees u) : CurrentLaws (u.finishBut skip old) :=
  currentLaws_of_end (currentEnd_finishBut skip old hm) (finishBut_rounds skip u old).1 (by simp) (ladderAgrees_finishBut skip old hl)

theorem currentLaws_quiet (h : Quiet s) : CurrentLaws s := by
  have hoff (k : Fin 8) : s.isOn k = false := by
    unfold State.isOn
    rw [h.channels]
    unfold freshChannel
    split <;> rfl
  have hsum : s.onSum = 0 := by simp [State.onSum, hoff]
  refine ⟨⟨fun _ => by rw [h.current], by rw [h.current], (by rw [hsum, h.current]; rfl)⟩, fun _ => ⟨by rw [h.current], hoff⟩, fun _ k hk => ?_⟩
  rw [hoff k] at hk
  cases hk

theorem ladderAgrees_quiet (h : Quiet s) : LadderAgrees s := by
  intro k
  rw [h.channels]
  refine ⟨agrees_freshChannel _, ?_⟩
  unfold freshChannel
  dsimp only
  split <;> simp_all

/-! ### Through every step -/

/-- The laws of CONFIG, of the channels and of the current. -/
structure CurrentSound (s : State) : Prop where
  quiet : ConfigQuiet s
  ladder : LadderAgrees s
  current : CurrentLaws s

theorem currentSound_quiet (h : Quiet s) : CurrentSound s :=
  ⟨configQuiet_of_quiet h, ladderAgrees_quiet h, currentLaws_quiet h⟩

@[simp] theorem restoreStarted_channels (s : State) : s.restoreStarted.ll.channels = s.ll.channels := rfl

theorem ladderAgrees_same (h : LadderAgrees s) (hll : t.ll.channels = s.ll.channels)
    (hsettings : t.cfs.settings = s.cfs.settings) : LadderAgrees t := by
  intro k
  have hchannel : t.channel k = s.channel k := by simp [State.channel, hll]
  have hrating : t.rating k = s.rating k := by simp [State.rating, State.channelCfg, hsettings]
  rw [hchannel, hrating]
  exact h k

theorem CurrentSound.same (h : CurrentSound s) (hq : ConfigQuiet t) (hca : t.ca = s.ca) (hll : t.ll = s.ll) (hcfs : t.cfs = s.cfs)
    (halc : t.alc = s.alc) (hmode : t.rsq.mode = s.rsq.mode) : CurrentSound t :=
  ⟨hq, ladderAgrees_same h.ladder (by rw [hll]) (by rw [hcfs]), h.current.same hca hll hcfs halc hmode⟩

theorem currentSound_event {c : Instr} (hb : s.body c = some u) (h : CurrentSound s) : CurrentSound (u.finish s) := by
  by_cases hm : s.rsq.mode = .config
  · exact currentSound_quiet (quiet_finishBut none (body_quiet hb ((configQuiet_iff s).1 h.quiet hm)) s)
  · have hu : u.rsq.mode ≠ .config := fun hu => hm ((body_config hb).1 hu)
    have hl := body_ladderAgrees hb h.ladder
    exact ⟨body_configQuiet hb h.quiet s, ladderAgrees_finishBut none s hl, currentLaws_finishBut none s hu hl⟩

theorem currentSound_effect {r : Request} (hj : s.judge r = none) (h : CurrentSound s) : CurrentSound (s.effect r) := by
  have hq := configQuiet_effect hj h.quiet
  have hfinish (skip : Option (Fin 8)) {v : State} (hm : v.rsq.mode ≠ .config) (hl : LadderAgrees v)
      (hq : ConfigQuiet (v.finishBut skip s)) : CurrentSound (v.finishBut skip s) :=
    ⟨hq, ladderAgrees_finishBut skip s hl, currentLaws_finishBut skip s hm hl⟩
  cases r with
  | configWrite record items =>
    have hm : s.rsq.mode = .config := by simpa [modeOk] using judge_mode hj
    refine currentSound_quiet ((configQuiet_iff _).1 hq ?_)
    simp only [State.effect]
    split
    · exact hm
    · simpa using hm
  | join =>
    refine hfinish none ?_ ?_ hq
    · rw [join_eq]
      simp
    · rw [join_eq]
      have hlisted : LadderAgrees s.joinListed := ladderAgrees_same h.ladder (by simp) (by simp)
      exact ladderAgrees_same (ladderAgrees_requestLevels hlisted) (by simp) (by simp)
  | setDemand a | poleCommand a ps =>
    have hm : s.rsq.mode ≠ .config := by simpa [modeOk] using judge_mode hj
    exact hfinish none (by simpa using hm) (ladderAgrees_same h.ladder (by simp) (by simp)) hq
  | setChannel k a =>
    have hm : s.rsq.mode ≠ .config := by simpa [modeOk] using judge_mode hj
    exact hfinish _ (by simpa using hm) (ladderAgrees_channelAction h.ladder _ _) hq
  | reset => exact currentSound_quiet (quiet_restarted _ _ s)
  | readStation | readAlarms | readPoles | readChannels => exact h
  | readPeer | readIo | readChanges | setAttnMask | setOutput =>
    exact h.same hq (by simp [State.effect]) (by simp [State.effect]) (by simp [State.effect]) (by simp [State.effect])
      (by simp [State.effect])
  | sendNotice n =>
    simp only [State.effect]
    split
    · exact h
    · have hm : s.rsq.mode ≠ .config := by simpa [modeOk] using judge_mode hj
      exact h.same (configQuiet_of_joined hm) rfl rfl rfl rfl rfl

theorem kept_currentSound : Kept CurrentSound where
  link s x h := ⟨h.quiet, h.ladder, h.current.same rfl rfl rfl rfl rfl⟩
  strap s high cts h := ⟨h.quiet, h.ladder, h.current.same rfl rfl rfl rfl rfl⟩
  sense s l h := h.same (kept_configQuiet.sense s l h.quiet) (by simp) (by simp) (by simp) (by simp) (by simp)
  brk s h := h.same (kept_configQuiet.brk s h.quiet) (by simp) (by simp) (by simp) (by simp) (by simp)
  effect s r h hj := currentSound_effect hj h
  power s high _ := currentSound_quiet (quiet_restarted _ _ s)
  pin s high _ := currentSound_quiet (quiet_restarted _ _ s)
  sampleError s h := ⟨h.quiet, h.ladder, h.current.same rfl rfl rfl rfl rfl⟩

theorem currentLaws_tick (h : CurrentLaws s) : CurrentLaws s.tick := by
  have hstop : s.tick.stopEffect = s.stopEffect := by
    unfold State.stopEffect
    rw [tick_alarms, List.any_map]
    rfl
  refine ⟨h.apportioned, ?_, h.lineFed⟩
  rw [hstop]
  exact h.stopped

theorem currentSound_step (h : CurrentSound s) (ht : step s = .next t) : CurrentSound t :=
  kept_currentSound.step (fun _ _ _ hs hb => currentSound_event hb hs)
    (fun _ _ hs => ⟨hs.quiet, hs.ladder, hs.current.same rfl rfl rfl rfl rfl⟩)
    (fun _ hs => ⟨configQuiet_tick hs.quiet, hs.ladder, currentLaws_tick hs.current⟩) ht h

/-! ### All the laws (O4) -/

/-- R66, R68: under a stop no GRANT_ENABLE output is on. -/
theorem stopped_of_shown (hshown : OutputsShown s) (h : CurrentLaws s) : Stopped s := by
  intro hs
  obtain ⟨hallow, hoff⟩ := h.stopped hs
  refine ⟨hallow, hoff, fun o ho => ?_⟩
  rw [hshown o]
  simp [State.outputCondition, ho, State.grantEnabled, hs]

theorem lawsHold_step (h : LawsHold s) (ht : step s = .next t) : LawsHold t := by
  obtain ⟨happ, hstop, hfed, hladder, hlist, hqueue, hown, hshown, hattn, hfifos, hmode, hline, hquiet⟩ := h
  have hstopped : s.stopEffect = true → s.ca.allowance = 0 ∧ ∀ k, s.isOn k = false := fun hs =>
    ⟨(hstop hs).1, (hstop hs).2.1⟩
  have hc := currentSound_step ⟨hquiet, hladder, happ, hstopped, hfed⟩ ht
  have hl := lineSound_step ⟨hquiet, hmode, hline⟩ ht
  have hp := peersSound_step ⟨hquiet, hown⟩ ht
  have hb := boundsKept_step ⟨hlist, hqueue⟩ ht
  have ho := outputsShown_step hshown ht
  exact ⟨hc.current.apportioned, stopped_of_shown ho hc.current, hc.current.lineFed, hc.ladder, hb.1, hb.2, hp.own, ho,
    attnShown_step hattn ht, fifosKept_step hfifos ht, hl.rounds, hl.line, hl.quiet⟩

/-- Settles O4: the laws of the lists, outputs and link each by itself, those of the line and rounds under those of CONFIG,
and those of the current from the computation that ends every event. -/
theorem stepKeepsLaws : Obligations.StepKeepsLaws := fun _ _ h ht => lawsHold_step h ht

end Current

end Machine
end Sys2Proof

/-!
PROOFS. The blocks do not read the Station Link: a request's effect and an event's end are the same whatever the link holds,
but for the topics with their mask and ATTN (R188, R193).
-/

namespace Sys2Proof
namespace Machine

/-- The state with another Station Link, whose topics, mask and ATTN are the state's own. -/
def State.relinked (l : StationLink) (s : State) : State :=
  s.withSl { l with summary := s.sl.summary, mask := s.sl.mask, attn := s.sl.attn }

section Relinked

variable (l : StationLink) (s old : State)

/-! ### What is read and replaced -/

@[simp] theorem relinked_blocks :
    (s.relinked l).pending = s.pending ∧ (s.relinked l).cfs = s.cfs ∧ (s.relinked l).li = s.li ∧ (s.relinked l).rsq = s.rsq ∧
      (s.relinked l).pt = s.pt ∧ (s.relinked l).ps = s.ps ∧ (s.relinked l).alc = s.alc ∧ (s.relinked l).ca = s.ca ∧
      (s.relinked l).ll = s.ll ∧ (s.relinked l).iou = s.iou ∧ (s.relinked l).pins = s.pins :=
  ⟨rfl, rfl, rfl, rfl, rfl, rfl, rfl, rfl, rfl, rfl, rfl⟩

theorem relinked_sl :
    (s.relinked l).sl = { l with summary := s.sl.summary, mask := s.sl.mask, attn := s.sl.attn } := rfl

theorem withCfs_relinked (x : ConfigStore) : (s.relinked l).withCfs x = (s.withCfs x).relinked l := rfl
theorem withLi_relinked (x : LineInterface) : (s.relinked l).withLi x = (s.withLi x).relinked l := rfl
theorem withRsq_relinked (x : Sequencer) : (s.relinked l).withRsq x = (s.withRsq x).relinked l := rfl
theorem withPs_relinked (x : PoleSupervisor) : (s.relinked l).withPs x = (s.withPs x).relinked l := rfl
theorem withAlc_relinked (x : AlarmController) : (s.relinked l).withAlc x = (s.withAlc x).relinked l := rfl
theorem withCa_relinked (x : Apportioner) : (s.relinked l).withCa x = (s.withCa x).relinked l := rfl
theorem withLl_relinked (x : Ladder) : (s.relinked l).withLl x = (s.withLl x).relinked l := rfl
theorem withIou_relinked (x : InputOutput) : (s.relinked l).withIou x = (s.withIou x).relinked l := rfl
theorem withPole_relinked (x : PoleId) (r : Pole) : (s.relinked l).withPole x r = (s.withPole x r).relinked l := rfl
theorem withChannel_relinked (k : Fin 8) (c : Channel) : (s.relinked l).withChannel k c = (s.withChannel k c).relinked l := rfl
theorem withPeer_relinked (a : Fin 16) (r : Peer) : (s.relinked l).withPeer a r = (s.withPeer a r).relinked l := rfl
theorem withAlarms_relinked (x : List AlarmEntry) : (s.relinked l).withAlarms x = (s.withAlarms x).relinked l := rfl
theorem setTopics_relinked (x : Topics) : (s.relinked l).setTopics x = (s.setTopics x).relinked l := rfl
theorem setUnlisted_relinked : (s.relinked l).setUnlisted = s.setUnlisted.relinked l := rfl
theorem setOutcome_relinked (x : PoleId) (o : CommandOutcome) :
    (s.relinked l).setOutcome x o = (s.setOutcome x o).relinked l := rfl
theorem lower_relinked (x : PoleId) : (s.relinked l).lower x = (s.lower x).relinked l := rfl

/-- A choice between two states, relinked. -/
theorem ite_relinked (p : Prop) [Decidable p] (a b : State) :
    (if p then a.relinked l else b.relinked l) = (if p then a else b).relinked l := (apply_ite (State.relinked l) p a b).symm

/-! ### Commands of the poles (R6, R7, R14) -/

theorem raiseOne_relinked (x : PoleId) : (s.relinked l).raiseOne x = (s.raiseOne x).relinked l := by
  unfold State.raiseOne
  simp only [apply_ite (State.relinked l)]
  rfl

theorem examineQuiet_relinked (x : PoleId) : (s.relinked l).examineQuiet x = (s.examineQuiet x).relinked l := by
  unfold State.examineQuiet
  simp only [apply_ite (State.relinked l)]
  rfl

theorem lowerOne_relinked (x : PoleId) : (s.relinked l).lowerOne x = (s.lowerOne x).relinked l := by
  have hwait (r : Pole) : (((s.relinked l).withPole x r).examineQuiet x).setOutcome x .accepted =
      (((s.withPole x r).examineQuiet x).setOutcome x .accepted).relinked l := by
    rw [withPole_relinked, examineQuiet_relinked, setOutcome_relinked]
  unfold State.lowerOne
  simp only [apply_ite (State.relinked l)]
  refine ite_congr rfl (fun _ => rfl) fun _ => ?_
  have hpole : (s.relinked l).pole x = s.pole x := rfl
  simp only [hpole, hwait]
  split <;> rfl

theorem commandOne_relinked (a : PoleAction) (x : PoleId) : (s.relinked l).commandOne a x = (s.commandOne a x).relinked l := by
  cases a with
  | raise => exact raiseOne_relinked l s x
  | lower => exact lowerOne_relinked l s x

theorem commandPoles_relinked (a : PoleAction) (ps : PoleSel) :
    (s.relinked l).commandPoles a ps = (s.commandPoles a ps).relinked l := by
  unfold State.commandPoles
  rw [apply_ite (State.relinked l)]
  refine ite_congr rfl (fun _ => ?_) fun _ => rfl
  cases ps with
  | p | n => exact commandOne_relinked l s a _
  | both => simp only [commandOne_relinked]

/-! ### Notices and own entries (R32, R33, R42, R129) -/

theorem placeInternal_relinked (n : Notice) : (s.relinked l).placeInternal n = (s.placeInternal n).relinked l := by
  unfold State.placeInternal
  simp only [apply_ite (State.relinked l)]
  rfl

theorem clearOwn_relinked (c : Cause) : (s.relinked l).clearOwn c = (s.clearOwn c).relinked l :=
  placeInternal_relinked l (s.withAlarms (removeEntry (.station s.own) c s.alarms)) (.clear c)

theorem raiseOwn_relinked (c : Cause) (d : Option SensorDetail) : (s.relinked l).raiseOwn c d = (s.raiseOwn c d).relinked l := by
  unfold State.raiseOwn
  simp only [apply_ite (State.relinked l)]
  rfl

theorem iteClearOwn_relinked (p : Prop) [Decidable p] (c : Cause) :
    (if p then (s.relinked l).clearOwn c else s.relinked l) = (if p then s.clearOwn c else s).relinked l := by
  rw [clearOwn_relinked, ite_relinked]

/-! ### The end of an event (R4, R9, R10, R21 to R26, R65, R174, R193) -/

section End

variable (m : StationLink)

theorem abandonRaise_relinked (x : PoleId) :
    (s.relinked l).abandonRaise (old.relinked m) x = (s.abandonRaise old x).relinked l := by
  unfold State.abandonRaise
  rw [apply_ite (State.relinked l)]
  rfl

theorem settle_relinked (x : PoleId) : (s.relinked l).settle x = (s.settle x).relinked l := by
  unfold State.settle
  simp only [apply_ite (State.relinked l)]
  rfl

theorem endWait_relinked (x : PoleId) : (s.relinked l).endWait x = (s.endWait x).relinked l := by
  unfold State.endWait
  rw [apply_ite (State.relinked l)]
  rfl

theorem raiseSensorLoss_relinked : (s.relinked l).raiseSensorLoss (old.relinked m) = (s.raiseSensorLoss old).relinked l := by
  have hloss : (s.relinked l).sensorLoss (old.relinked m) = s.sensorLoss old := rfl
  unfold State.raiseSensorLoss
  rw [hloss]
  split
  · exact raiseOwn_relinked l s _ _
  · rfl

theorem withGapRule_relinked : (s.relinked l).withPs (s.relinked l).ps.gapRule = (s.withPs s.ps.gapRule).relinked l := rfl

theorem polesPlaced_relinked : (s.relinked l).polesPlaced (old.relinked m) = (s.polesPlaced old).relinked l := by
  unfold State.polesPlaced
  simp only [abandonRaise_relinked, settle_relinked, endWait_relinked, withGapRule_relinked]

theorem clearSensorLoss_relinked : (s.relinked l).clearSensorLoss = s.clearSensorLoss.relinked l :=
  iteClearOwn_relinked l s _ _

theorem clearDrop_relinked (x : PoleId) : (s.relinked l).clearDrop x = (s.clearDrop x).relinked l :=
  iteClearOwn_relinked l s _ _

theorem polesListed_relinked : (s.relinked l).polesListed (old.relinked m) = (s.polesListed old).relinked l := by
  unfold State.polesListed
  simp only [raiseSensorLoss_relinked, clearSensorLoss_relinked, clearDrop_relinked]

theorem restoreQualifyRule_relinked : (s.relinked l).restoreQualifyRule = s.restoreQualifyRule.relinked l := rfl

theorem polesEnd_relinked : (s.relinked l).polesEnd (old.relinked m) = (s.polesEnd old).relinked l := by
  by_cases h : s.role = .pole ∧ s.ps.supervising = true
  · have hs := polesEnd_of_supervising h.1 h.2 old
    have hl := polesEnd_of_supervising (s := s.relinked l) h.1 h.2 (old.relinked m)
    rw [polesPlaced_relinked, polesListed_relinked, restoreQualifyRule_relinked] at hl
    exact hl.trans (congrArg (State.relinked l) hs.symm)
  · exact (polesEnd_of_not (s := s.relinked l) h _).trans (congrArg (State.relinked l) (polesEnd_of_not h old).symm)

/-- Channels changed one after another, each by a rule that does not read the link. -/
theorem foldl_relinked (f : State → Fin 8 → State) (hf : ∀ t k, f (t.relinked l) k = (f t k).relinked l) (ks : List (Fin 8)) :
    ks.foldl f (s.relinked l) = (ks.foldl f s).relinked l := by
  induction ks generalizing s with
  | nil => rfl
  | cons k ks ih => rw [List.foldl_cons, List.foldl_cons, hf, ih]

theorem lineSheds_relinked : (s.relinked l).lineSheds = s.lineSheds.relinked l := by
  unfold State.lineSheds
  rw [apply_ite (State.relinked l)]
  refine ite_congr rfl (fun _ => rfl) fun _ => foldl_relinked l s _ (fun t k => ?_) _
  rw [apply_ite (State.relinked l)]
  rfl

theorem allowanceSheds_relinked : (s.relinked l).allowanceSheds = s.allowanceSheds.relinked l := by
  refine foldl_relinked l s _ (fun t k => ?_) _
  rw [apply_ite (State.relinked l)]
  rfl

theorem rules_relinked : (s.relinked l).grantRule.overdrawRule = s.grantRule.overdrawRule.relinked l := rfl

theorem follow_relinked : (s.relinked l).follow = s.follow.relinked l := by
  unfold State.follow
  rw [lineSheds_relinked, allowanceSheds_relinked, rules_relinked]

theorem caSettle_relinked : (s.relinked l).caSettle = s.caSettle.relinked l :=
  follow_relinked l (s.compute.setAllowance (min s.compute.ca.allowance s.compute.ca.share))

theorem examineBreak_relinked : (s.relinked l).examineBreak = s.examineBreak.relinked l := by
  unfold State.examineBreak
  rw [apply_ite (State.relinked l)]
  rfl

theorem blocksEnd_relinked : (s.relinked l).blocksEnd (old.relinked m) = (s.blocksEnd old).relinked l := by
  unfold State.blocksEnd
  rw [apply_ite (State.relinked l), polesEnd_relinked]
  refine ite_congr rfl (fun _ => rfl) fun _ => ?_
  have hstop : ((s.polesEnd old).relinked l).clearStop = (s.polesEnd old).clearStop.relinked l := iteClearOwn_relinked l _ _ _
  rw [hstop, caSettle_relinked, examineBreak_relinked]

theorem withTopics_relinked (skip : Option (Fin 8)) :
    (s.relinked l).driveOutputs.setTopics (changedTopics skip (old.relinked m) (s.relinked l).driveOutputs) =
      (s.driveOutputs.setTopics (changedTopics skip old s.driveOutputs)).relinked l := rfl

theorem finishBut_relinked (skip : Option (Fin 8)) :
    (s.relinked l).finishBut skip (old.relinked m) = (s.finishBut skip old).relinked l := by
  unfold State.finishBut
  rw [blocksEnd_relinked]
  exact withTopics_relinked l (s.blocksEnd old) old m skip

end End

/-! ### Requests (R188, R190) -/

theorem inputRequest_relinked (k : Fin 8) (f : Channel → Channel) :
    (s.relinked l).inputRequest k f = (s.inputRequest k f).relinked l := by
  unfold State.inputRequest
  rw [apply_ite (State.relinked l)]
  rfl

theorem requestLevels_relinked : (s.relinked l).requestLevels = s.requestLevels.relinked l := by
  refine foldl_relinked l s _ (fun t k => ?_) _
  rw [apply_ite (State.relinked l), inputRequest_relinked]
  rfl

theorem restoreStarted_relinked : (s.relinked l).restoreStarted = s.restoreStarted.relinked l := rfl

theorem join_relinked : (s.relinked l).join = s.join.relinked l := by
  have hlisted : (s.relinked l).joinListed = s.joinListed.relinked l := by
    unfold State.joinListed
    rw [apply_ite (State.relinked l)]
    exact ite_congr rfl (fun _ => rfl) fun _ => raiseOwn_relinked l s.joinBegun _ _
  rw [join_eq, join_eq, hlisted, requestLevels_relinked, restoreStarted_relinked]

/-- A record written, with the dominant run and the latches it has changed (R138, R179, R199). -/
def State.recorded (record : Nat) (vs : List Nat) (s : State) : State :=
  let c := writeRecord record vs s.cfs.settings
  let t := s.withCfs { s.cfs with settings := c, valid := false }
  let u := if s.station.bitRate = c.station.bitRate then t else t.restartRun
  if s.poleCfg.sampleTimeout = c.pole.sampleTimeout then u else u.judgeLatches

theorem writeConfig_eq (record : Nat) (vs : List Nat) :
    s.writeConfig record vs =
      rewriteChannel record ((s.recorded record vs).withIou
        { (s.recorded record vs).iou with
          general := dropGeneral s.cfs.settings.outputs (writeRecord record vs s.cfs.settings).outputs
            (s.recorded record vs).iou.general }) := rfl

theorem recorded_relinked (record : Nat) (vs : List Nat) :
    (s.relinked l).recorded record vs = (s.recorded record vs).relinked l := by
  unfold State.recorded
  dsimp only
  simp only [apply_ite (State.relinked l), apply_ite State.judgeLatches]
  rfl

theorem writeConfig_relinked (record : Nat) (vs : List Nat) :
    (s.relinked l).writeConfig record vs = (s.writeConfig record vs).relinked l := by
  have hrewrite (t : State) : rewriteChannel record (t.relinked l) = (rewriteChannel record t).relinked l := by
    unfold rewriteChannel
    rw [apply_ite (State.relinked l)]
    rfl
  have hgeneral (t : State) (x : Half) :
      (t.relinked l).withIou { (t.relinked l).iou with general := x } = (t.withIou { t.iou with general := x }).relinked l := rfl
  rw [writeConfig_eq, writeConfig_eq, recorded_relinked, ← hrewrite, ← hgeneral]
  rfl

theorem channelAction_relinked (k : Fin 8) (a : ChannelAction) :
    (s.relinked l).channelAction k a = (s.channelAction k a).relinked l := by
  cases a with
  | request =>
    unfold State.channelAction State.requestChannel
    rw [apply_ite (State.relinked l)]
    rfl
  | release =>
    unfold State.channelAction State.releaseChannel
    rw [apply_ite (State.relinked l)]
    rfl
  | mask | unmask | shed | setLowest => rfl

/-- The effect of a request other than RESET is made on the blocks and the topics alone. -/
theorem effect_relinked {r : Request} (hr : r ≠ .reset) : (s.relinked l).effect r = (s.effect r).relinked l := by
  cases r with
  | configWrite record items =>
    unfold State.effect
    dsimp only
    rw [apply_ite (State.relinked l), writeConfig_relinked]
    exact ite_congr rfl (fun _ => rfl) fun _ => finishBut_relinked l _ s l none
  | join =>
    unfold State.effect
    dsimp only
    rw [join_relinked]
    exact finishBut_relinked l _ s l none
  | reset => exact absurd rfl hr
  | setDemand a => exact finishBut_relinked l (s.takeDemand a.toNat) s l none
  | setChannel k a =>
    unfold State.effect
    dsimp only
    rw [channelAction_relinked]
    exact finishBut_relinked l _ s l _
  | poleCommand a ps =>
    unfold State.effect
    dsimp only
    rw [commandPoles_relinked]
    exact finishBut_relinked l _ s l none
  | readStation | readAlarms | readPoles | readChannels | readPeer | readIo | readChanges | setAttnMask | setOutput => rfl
  | sendNotice n =>
    unfold State.effect
    rw [apply_ite (State.relinked l)]
    rfl

theorem judge_relinked (r : Request) : (s.relinked l).judge r = s.judge r := rfl

theorem replyData_relinked (r : Request) (t : State) : replyData r (s.relinked l) (t.relinked l) = replyData r s t := by
  cases r <;> rfl

end Relinked

end Machine
end Sys2Proof

/-!
PROOFS. What the assembler makes of a byte and of a whole message: a link that waits for a message takes the bytes of one
as the message brought whole (R183 to R189, R205; O16, O25).
-/

namespace Sys2Proof
namespace Machine

section Link

variable {s t : State}

/-! ### A byte taken at a link with an empty receive FIFO (R183 to R188) -/

/-- The link after a byte in good form has reached the assembler, before a message it may have completed is taken. -/
def State.byteTaken (b : Byte) (s : State) : State :=
  s.withSl (({ s.sl with idleTimer := Timer.started, rx := [], rts := true } : StationLink).takeByte b)

/-- The link after a loss mark has reached the assembler, before the message it has spoiled is refused. -/
def State.lossTaken (s : State) : State :=
  s.withSl (({ s.sl with idleTimer := Timer.started, rx := [] } : StationLink).takeLoss)

/-- R188: a complete message is taken where there is room for its answer. -/
def State.attempt (s : State) : State :=
  if s.sl.assembler = .complete then if s.answerRoom then s.takeBuffer else s else s

theorem pump_idle (n : Nat) (hrx : s.sl.rx = []) (ha : s.sl.assembler ≠ .complete) : s.pump n = s := by
  cases n with
  | zero => rfl
  | succ n =>
    rw [State.pump, if_neg ha]
    simp [hrx]

theorem pump_waits (n : Nat) (ha : s.sl.assembler = .complete) (hroom : s.answerRoom = false) : s.pump n = s := by
  cases n with
  | zero => rfl
  | succ n =>
    rw [State.pump, if_pos ha]
    simp [hroom]

theorem pump_assembles (n : Nat) {i : RxItem} {rest : List RxItem} (ha : s.sl.assembler ≠ .complete)
    (hrx : s.sl.rx = i :: rest) : s.pump (n + 1) = (s.withSl (s.sl.assemble i rest)).pump n := by
  rw [State.pump, if_neg ha]
  simp [hrx]

theorem takeRequest_idle (r : Request) (hrx : s.sl.rx = []) :
    (s.takeRequest r).sl.rx = [] ∧ (s.takeRequest r).sl.assembler = .hunting := by
  rcases takeRequest_cases r s with ⟨code, n, -, e⟩ | ⟨-, -, e⟩ | ⟨-, hr, e⟩ <;> rw [e]
  · exact ⟨hrx, rfl⟩
  · exact ⟨rfl, rfl⟩
  · refine ⟨?_, rfl⟩
    show (s.effect r).sl.rx = []
    rw [effect_link hr]
    exact hrx

theorem takeBuffer_idle (hrx : s.sl.rx = []) : s.takeBuffer.sl.rx = [] ∧ s.takeBuffer.sl.assembler = .hunting := by
  rcases takeBuffer_cases s with ⟨code, type, e⟩ | ⟨r, e⟩ <;> rw [e]
  · exact ⟨hrx, rfl⟩
  · exact takeRequest_idle r hrx

theorem pump_attempt (n : Nat) (hrx : s.sl.rx = []) : s.pump (n + 1) = s.attempt := by
  unfold State.attempt
  split
  next ha =>
    rw [State.pump, if_pos ha]
    split
    · obtain ⟨h1, h2⟩ := takeBuffer_idle hrx
      exact pump_idle n h1 (by rw [h2]; decide)
    · rfl
  next ha => exact pump_idle _ hrx ha

theorem attempt_open (ha : s.sl.assembler ≠ .complete) : s.attempt = s := if_neg ha

theorem attempt_complete (ha : s.sl.assembler = .complete) (hroom : s.answerRoom = true) : s.attempt = s.takeBuffer := by
  rw [State.attempt, if_pos ha, if_pos hroom]

/-- R183, R187: a byte in good form at an empty FIFO goes to the assembler in its event. -/
theorem linkByte_good (hrx : s.sl.rx = []) (ha : s.sl.assembler ≠ .complete) (b : Byte) :
    s.linkByte b true = (s.byteTaken b).attempt := by
  have hstore : s.storeByte b true = s.withSl { s.sl with idleTimer := Timer.started, rx := [.byte b] } := by
    simp [State.storeByte, hrx, rxBytes, Figures.rxCapacity, Figures.rtsHigh, State.withSl]
  have hassemble : StationLink.assemble (.byte b) [] { s.sl with idleTimer := Timer.started, rx := [.byte b] } =
      ({ s.sl with idleTimer := Timer.started, rx := [], rts := true } : StationLink).takeByte b := by
    simp [StationLink.assemble, rxBytes]
  unfold State.linkByte
  rw [hstore]
  refine (pump_assembles 3 (i := .byte b) (rest := []) ?_ ?_).trans ?_
  · exact ha
  · rfl
  refine (pump_attempt 2 (assemble_fifos _ _ _).1).trans ?_
  exact congrArg (fun l => (s.withSl l).attempt) hassemble

/-- R184, R187: a byte in bad form at an empty FIFO leaves a loss mark that the assembler takes at once. -/
theorem linkByte_bad (hrx : s.sl.rx = []) (ha : s.sl.assembler ≠ .complete) (b : Byte) :
    s.linkByte b false = s.lossTaken.attempt := by
  have hstore : s.storeByte b false = s.withSl { s.sl with idleTimer := Timer.started, rx := [.lossMark] } := by
    simp [State.storeByte, State.placeMark, tailIs, hrx, State.withSl]
  unfold State.linkByte
  rw [hstore]
  refine (pump_assembles 3 (i := .lossMark) (rest := []) ?_ ?_).trans ?_
  · exact ha
  · rfl
  exact pump_attempt 2 (assemble_fifos _ _ _).1

/-! ### A whole message (R187, 10.3) -/

/-- The link with the bytes of a message so far. -/
def State.gathering (bytes : List Byte) (a : Assembler) (s : State) : State :=
  s.withSl
    { s.sl with
      idleTimer := Timer.started, rx := [], rts := true, assembler := a, buffer := bytes, damaged := false }

theorem linkByte_start (hrx : s.sl.rx = []) (ha : s.sl.assembler = .hunting) :
    s.linkByte Figures.start true = s.gathering [Figures.start] .length := by
  rw [linkByte_good hrx (by rw [ha]; decide)]
  have h : s.byteTaken Figures.start = s.gathering [Figures.start] .length := by
    simp [State.byteTaken, StationLink.takeByte, ha, State.gathering]
  rw [h]
  exact attempt_open (by simp [State.gathering])

theorem linkByte_length {bytes : List Byte} {n : Byte} (hn : n.toNat ≤ Figures.payloadMax) :
    (s.gathering bytes .length).linkByte n true = s.gathering (bytes ++ [n]) .body := by
  rw [linkByte_good rfl (by simp [State.gathering])]
  have h : (s.gathering bytes .length).byteTaken n = s.gathering (bytes ++ [n]) .body := by
    simp [State.byteTaken, StationLink.takeByte, State.gathering, hn, State.withSl]
  rw [h]
  exact attempt_open (by simp [State.gathering])

theorem linkByte_body {bytes : List Byte} {b : Byte} (h : bytes.length + 1 ≠ (bytes.getD 1 0).toNat + 4) :
    (s.gathering bytes .body).linkByte b true = s.gathering (bytes ++ [b]) .body := by
  rw [linkByte_good rfl (by simp [State.gathering])]
  have ht : (s.gathering bytes .body).byteTaken b = s.gathering (bytes ++ [b]) .body := by
    simp only [State.byteTaken, StationLink.takeByte, State.gathering, withSl_sl, List.length_append, List.length_singleton, if_neg h]
    rfl
  rw [ht]
  exact attempt_open (by simp [State.gathering])

theorem linkByte_last {bytes : List Byte} {b : Byte} (h : bytes.length + 1 = (bytes.getD 1 0).toNat + 4) :
    (s.gathering bytes .body).linkByte b true = (s.gathering (bytes ++ [b]) .complete).attempt := by
  rw [linkByte_good rfl (by simp [State.gathering])]
  have ht : (s.gathering bytes .body).byteTaken b = s.gathering (bytes ++ [b]) .complete := by
    simp only [State.byteTaken, StationLink.takeByte, State.gathering, withSl_sl, List.length_append, List.length_singleton, if_pos h]
    rfl
  rw [ht]

/-- The bytes of a message's body, as long as they do not complete it. -/
theorem linkBytes_body {n : Byte} (l : List Byte) : ∀ {bytes : List Byte}, (∃ a rest, bytes = a :: n :: rest) →
    bytes.length + l.length < n.toNat + 4 → (s.gathering bytes .body).linkBytes l = s.gathering (bytes ++ l) .body := by
  induction l with
  | nil =>
    intro bytes _ _
    rw [List.append_nil]
    rfl
  | cons b l ih =>
    rintro bytes ⟨a, rest, rfl⟩ hlen
    simp only [List.length_cons] at hlen
    show ((s.gathering (a :: n :: rest) .body).linkByte b true).linkBytes l = _
    rw [linkByte_body (by simp; omega)]
    rw [ih ⟨a, rest ++ [b], by simp⟩ (by simp; omega)]
    simp

/-- R187: the bytes of a message with a LENGTH that its contents match, at a link that hunts. -/
theorem linkBytes_message (hrx : s.sl.rx = []) (ha : s.sl.assembler = .hunting) {n : Byte} (hn : n.toNat ≤ Figures.payloadMax)
    (l : List Byte) (last : Byte) (hlen : l.length + 3 = n.toNat + 4) :
    s.linkBytes (Figures.start :: n :: l ++ [last]) =
      (s.gathering (Figures.start :: n :: l ++ [last]) .complete).attempt := by
  have hsplit : s.linkBytes (Figures.start :: n :: l ++ [last]) =
      (((s.linkByte Figures.start true).linkByte n true).linkBytes l).linkByte last true := by
    simp [State.linkBytes]
  rw [hsplit, linkByte_start hrx ha, linkByte_length hn, linkBytes_body (bytes := [Figures.start] ++ [n]) l ⟨_, [], rfl⟩ (by simp; omega)]
  exact linkByte_last (by simp; omega)

/-! ### The message taken (R188, R189) -/

theorem linkClear_iff : LinkClear s ↔
    s.sl.assembler = .hunting ∧ s.sl.rx = [] ∧ s.sl.rts = true ∧ s.answerRoom = true ∧ s.sl.buffer = [] ∧
      s.sl.damaged = false := by
  simp [LinkClear, State.linkReady, and_assoc]

/-- R189: the tests 2 and 3 on a TYPE and a payload, and the taking of the request they name. -/
def State.takeParsed (type : Byte) (payload : List Byte) (s : State) : State :=
  match parseRequest type payload with
  | .ok r => s.takeRequest r
  | .error code => s.answer (refusedMessage code (some type) 0)

theorem takeParsed_ok {type : Byte} {payload : List Byte} {r : Request} (h : parseRequest type payload = .ok r) :
    s.takeParsed type payload = s.takeRequest r := by
  unfold State.takeParsed
  rw [h]

theorem takeParsed_error {type : Byte} {payload : List Byte} {code : RefusalCode} (h : parseRequest type payload = .error code) :
    s.takeParsed type payload = s.answer (refusedMessage code (some type) 0) := by
  unfold State.takeParsed
  rw [h]

/-- At a clear link what the buffer holds is of no account for the answer: it empties the buffer (R188). -/
theorem answer_gathering (h : LinkClear s) (bytes : List Byte) (a : Assembler) (m : List Byte) :
    (s.gathering bytes a).answer m = s.byteSeen.answer m := by
  obtain ⟨ha, hrx, hrts, -, hbuffer, hdamaged⟩ := linkClear_iff.1 h
  simp [State.answer, State.gathering, State.byteSeen, State.withSl, hrx, hrts]

theorem takeRequest_gathering (h : LinkClear s) (bytes : List Byte) (a : Assembler) (r : Request) :
    (s.gathering bytes a).takeRequest r = s.byteSeen.takeRequest r := by
  obtain ⟨ha, hrx, hrts, -, hbuffer, hdamaged⟩ := linkClear_iff.1 h
  have hg : s.gathering bytes a = s.byteSeen.relinked (s.gathering bytes a).sl := rfl
  rcases takeRequest_cases r s.byteSeen with ⟨code, n, hj, e⟩ | ⟨hj, rfl, e⟩ | ⟨hj, hr, e⟩ <;> rw [e]
  · rw [takeRequest_of_refusal (s := s.gathering bytes a) hj]
    exact answer_gathering h bytes a _
  · rfl
  · rw [takeRequest_of_judge (s := s.gathering bytes a) hj hr, hg, effect_relinked _ _ hr, replyData_relinked]
    have hl := effect_link hr s.byteSeen
    refine congrArg (State.withSl (s.byteSeen.effect r)) ?_
    rw [relinked_sl]
    conv_rhs => rw [hl]
    simp [State.gathering, State.byteSeen, hrx, hrts]

theorem takeParsed_gathering (h : LinkClear s) (bytes : List Byte) (a : Assembler) (type : Byte) (payload : List Byte) :
    (s.gathering bytes a).takeParsed type payload = s.byteSeen.takeParsed type payload := by
  unfold State.takeParsed
  split
  · exact takeRequest_gathering h bytes a _
  · exact answer_gathering h bytes a _

/-- R187, R189: the bytes of a whole message at a clear link: a CHECK that fails is refused, and a message that passes it
is judged by its TYPE and payload. -/
theorem linkBytes_whole (h : LinkClear s) (type : Byte) {payload : List Byte} (check : Byte)
    (hlen : payload.length ≤ Figures.payloadMax) :
    s.linkBytes ([Figures.start, byteOf payload.length, type] ++ payload ++ [check]) =
      if linkCheck type payload = check then s.byteSeen.takeParsed type payload
      else s.byteSeen.answer (refusedMessage .badForm (some type) 0) := by
  obtain ⟨ha, hrx, -, hroom, -, -⟩ := linkClear_iff.1 h
  have hn : (byteOf payload.length).toNat = payload.length := by
    have : Figures.payloadMax = 48 := rfl
    simp only [byteOf, BitVec.toNat_ofNat]
    omega
  have hbytes : [Figures.start, byteOf payload.length, type] ++ payload ++ [check] =
      Figures.start :: byteOf payload.length :: (type :: payload) ++ [check] := by simp
  rw [hbytes, linkBytes_message hrx ha (by rw [hn]; exact hlen) _ _ (by rw [hn]; simp),
    attempt_complete (s := s.gathering _ _) rfl hroom]
  have htake : (s.gathering (Figures.start :: byteOf payload.length :: (type :: payload) ++ [check]) .complete).takeBuffer =
      if linkCheck type payload = check then
        (s.gathering (Figures.start :: byteOf payload.length :: (type :: payload) ++ [check]) .complete).takeParsed type payload
      else (s.gathering (Figures.start :: byteOf payload.length :: (type :: payload) ++ [check]) .complete).answer
        (refusedMessage .badForm (some type) 0) := by
    simp only [State.takeBuffer, State.gathering, withSl_sl, Bool.false_eq_true, if_false, List.cons_append,
      List.dropLast_concat, List.getLastD_concat]
    rfl
  rw [htake, takeParsed_gathering h, answer_gathering h]

end Link

/-! ### Codes read back (12.1, 12.4) -/

section Codes

theorem toNat_byteOf {n : Nat} (h : n < 256) : (byteOf n).toNat = n := by
  simp only [byteOf, BitVec.toNat_ofNat]
  omega

theorem readTwo_halfBytes (x : Half) : readTwo (byteOf (x.toNat / 256)) (byteOf x.toNat) = x := by
  apply BitVec.eq_of_toNat_eq
  have hx := x.isLt
  simp only [readTwo, byteOf, BitVec.toNat_append, BitVec.toNat_ofNat, Nat.shiftLeft_eq]
  rw [← Nat.shiftLeft_eq, ← Nat.shiftLeft_add_eq_or_of_lt (by omega), Nat.shiftLeft_eq]
  omega

theorem readHalves_halfBytes (l : List Half) : readHalves (l.map halfBytes).flatten = some l := by
  induction l with
  | nil => rfl
  | cons x l ih =>
    have hcons : ((x :: l).map halfBytes).flatten =
        byteOf (x.toNat / 256) :: byteOf x.toNat :: (l.map halfBytes).flatten := rfl
    rw [hcons, readHalves, ih, readTwo_halfBytes]
    rfl

theorem flagOfCode_flagByte (b : Bool) : flagOfCode (flagByte b).toNat = some b := by cases b <;> rfl

theorem toNat_channelActionCode (a : ChannelAction) : (byteOf (channelActionCode a)).toNat = channelActionCode a := by
  cases a <;> rfl

theorem toNat_actionCode (a : PoleAction) : (byteOf (actionCode a)).toNat = actionCode a := by cases a <;> rfl

theorem toNat_polesCode (ps : PoleSel) : (byteOf (polesCode ps)).toNat = polesCode ps := by cases ps <;> rfl

theorem toNat_causeCode (c : Cause) : (byteOf (causeCode c)).toNat = causeCode c := by cases c <;> rfl

theorem toNat_sourceCode (x : Source) : (byteOf (sourceCode x)).toNat = sourceCode x := by
  cases x with
  | station a => exact toNat_byteOf (a.isLt.trans (by decide))
  | unknown => rfl

/-- R204: a notice's body states it; a CLEAR names no UNCLAIMED. -/
theorem readNotice_noticeBody {n : Notice} (h : n ≠ .clear .unclaimed) : readNotice (noticeBody n) = some n := by
  cases n with
  | ack x c => simp [noticeBody, readNotice, toNat_sourceCode, toNat_causeCode, sourceOfCode_code, causeOfCode_code]
  | ackAll | clearLost => rfl
  | clear c =>
    cases c with
    | unclaimed => exact absurd rfl h
    | _ => rfl
  | command a ps => simp [noticeBody, readNotice, toNat_actionCode, toNat_polesCode, actionOfCode_code, polesOfCode_code]

theorem readSentNotice_sendable {n : Notice} (h : formOk (.sendNotice n) = true) : readSentNotice (noticeBody n) = some n := by
  unfold readSentNotice
  cases n with
  | clear c => cases h
  | ack | ackAll | clearLost | command => simp [readNotice_noticeBody]

/-! ### A request's own message (R189, R205) -/

/-- A request's payload spells it, if it passes test 3 and its record exists. -/
theorem parseRequest_of_formOk {r : Request} (h : formOk r = true)
    (hrecord : ∀ record items, r = .configWrite record items → record.toNat < recordCount) :
    parseRequest (requestType r) (requestPayload r) = .ok r := by
  cases r with
  | configWrite record items =>
    have hr := not_le.2 (hrecord record items rfl)
    simp only [formOk, decide_eq_true_eq, Bool.or_eq_true, hr, false_or] at h
    have h' : items = [] ∨ items.length = (itemTests record.toNat).length := by simpa using h
    simp [parseRequest, requestType, requestPayload, hr, readHalves_halfBytes, h']
  | join | reset | readStation | readPoles | readChannels | readIo | readChanges => rfl
  | readPeer | readAlarms | setAttnMask => rfl
  | setOutput o on => simp [parseRequest, requestType, requestPayload, flagOfCode_flagByte]
  | setDemand a => simp [parseRequest, requestType, requestPayload, halfBytes, twoBytes, readTwo_halfBytes]
  | setChannel k a =>
    simp [parseRequest, requestType, requestPayload, toNat_channelActionCode, channelActionOfCode_code]
  | sendNotice n => simp [parseRequest, requestType, requestPayload, readSentNotice_sendable h]
  | poleCommand a ps =>
    simp [parseRequest, requestType, requestPayload, toNat_actionCode, toNat_polesCode, actionOfCode_code, polesOfCode_code]

theorem parseRequest_of_not_formOk {r : Request} (h : formOk r = false) :
    parseRequest (requestType r) (requestPayload r) = .error .badForm := by
  cases r with
  | configWrite record items =>
    simp only [formOk, Bool.or_eq_false_iff, decide_eq_false_iff_not] at h
    obtain ⟨⟨hr, hempty⟩, hlen⟩ := h
    simp [parseRequest, requestType, requestPayload, hr, readHalves_halfBytes, hempty, hlen]
  | sendNotice n =>
    cases n with
    | clear c => cases c <;> rfl
    | ack | ackAll | clearLost | command => cases h
  | _ => cases h

/-- R198: a record that does not exist is refused whatever items come with it. -/
theorem takeRequest_noRecord (s : State) {record : Byte} (h : recordCount ≤ record.toNat) (items : List Half) :
    s.takeRequest (.configWrite record items) = s.takeRequest (.configWrite record []) := by
  obtain ⟨code, hj⟩ : ∃ code, ∀ l, s.judge (.configWrite record l) = some (code, 0) := by
    cases hm : modeOk (.configWrite record []) s.rsq.mode with
    | true =>
      refine ⟨.noSuch, fun l => ?_⟩
      have hl : modeOk (.configWrite record l) s.rsq.mode = true := hm
      simp [State.judge, formOk, h, roleOk, State.namesObject, hl]
    | false =>
      refine ⟨.wrongMode, fun l => ?_⟩
      have hl : modeOk (.configWrite record l) s.rsq.mode = false := hm
      simp [State.judge, formOk, h, hl]
  rw [takeRequest_of_refusal (hj items), takeRequest_of_refusal (hj [])]
  rfl

/-- R189, R205: the message of a request is taken as the request. -/
theorem takeParsed_request (s : State) (r : Request) :
    s.takeParsed (requestType r) (requestPayload r) = s.takeRequest r := by
  cases hform : formOk r with
  | false =>
    rw [takeParsed_error (parseRequest_of_not_formOk hform)]
    exact (takeRequest_of_refusal (by simp [State.judge, hform])).symm
  | true =>
    by_cases hrecord : ∀ record items, r = .configWrite record items → record.toNat < recordCount
    · exact takeParsed_ok (parseRequest_of_formOk hform hrecord)
    · push Not at hrecord
      obtain ⟨record, items, rfl, hr⟩ := hrecord
      have hp : parseRequest (requestType (.configWrite record items)) (requestPayload (.configWrite record items)) =
          .ok (.configWrite record []) := by
        simp [parseRequest, requestType, requestPayload, hr]
      rw [takeParsed_ok hp, takeRequest_noRecord s hr items]

/-- Settles O16: the assembler gathers the message, whose CHECK holds and which spells the request. -/
theorem bytesMakeRequest : Obligations.BytesMakeRequest := by
  intro r s hclear hlen
  have hw := linkBytes_whole hclear (requestType r) (linkCheck (requestType r) (requestPayload r)) hlen
  rw [if_pos rfl, takeParsed_request] at hw
  exact hw

end Codes

end Machine
end Sys2Proof

/-!
PROOFS. Messages refused and requests taken at a link that waits for one: what the answer adds, and what a read returns
(R187 to R195; O25, O26, O27, O28, O29, O32).
-/

namespace Sys2Proof
namespace Machine

section Answers

variable {s t : State}

/-! ### Answers (12.4) -/

theorem refusedMessage_eq (code : RefusalCode) (type : Option Byte) (n : Nat) :
    refusedMessage code type n = refusedBytes (byteOf (refusalCode code)) (type.getD 0xFF) (byteOf n) := by
  simp [refusedMessage, linkMessage, refusedBytes, linkCheck, Figures.start, byteOf]

theorem replyMessage_eq (type : Byte) (data : List Byte) : replyMessage type data = replyBytes type data := by
  simp [replyMessage, linkMessage, replyBytes, linkCheck, Figures.start]

/-- R183, R188: an answer at a clear link is all that the message leaves. -/
theorem answer_byteSeen (h : LinkClear s) (m : List Byte) : s.byteSeen.answer m = { s with sl := answered s.sl m } := by
  obtain ⟨ha, -, -, -, hbuffer, hdamaged⟩ := linkClear_iff.1 h
  simp [State.answer, State.byteSeen, State.withSl, answered, ha, hbuffer, hdamaged, Timer.started]

theorem refused_byteSeen (h : LinkClear s) (code : RefusalCode) (type : Byte) (n : Nat) :
    Refused (byteOf (refusalCode code)) type (byteOf n) s (s.byteSeen.answer (refusedMessage code (some type) n)) := by
  unfold Refused
  rw [answer_byteSeen h]
  rfl

/-! ### Messages that spell no request (R187, R189) -/

/-- R187: a LENGTH that no message has spoils it. -/
theorem linkByte_tooLong (h : LinkClear s) {n : Byte} (hn : Figures.payloadMax < n.toNat) :
    (s.gathering [Figures.start] .length).linkByte n true = s.byteSeen.answer (refusedMessage .badForm none 0) := by
  obtain ⟨ha, hrx, hrts, hroom, -, -⟩ := linkClear_iff.1 h
  rw [linkByte_good rfl (by simp [State.gathering]), attempt_complete]
  · simp [State.takeBuffer, State.byteTaken, StationLink.takeByte, State.gathering, StationLink.spoiled, not_le.2 hn,
      State.answer, State.byteSeen, State.withSl, hrx, hrts]
  · simp [State.byteTaken, StationLink.takeByte, State.gathering, StationLink.spoiled, not_le.2 hn]
  · simp only [State.byteTaken, StationLink.takeByte, State.gathering, withSl_sl, if_neg (not_le.2 hn)]
    exact hroom

/-- R184, R187: a byte lost in a message spoils it. -/
theorem linkByte_lost (h : LinkClear s) (bytes : List Byte) (b : Byte) :
    (s.gathering bytes .body).linkByte b false = s.byteSeen.answer (refusedMessage .badForm (bytes[2]?) 0) := by
  obtain ⟨ha, hrx, hrts, hroom, -, -⟩ := linkClear_iff.1 h
  rw [linkByte_bad rfl (by simp [State.gathering]), attempt_complete]
  · simp [State.takeBuffer, State.lossTaken, StationLink.takeLoss, State.gathering, StationLink.spoiled,
      State.answer, State.byteSeen, State.withSl, hrx, hrts]
  · rfl
  · exact hroom

theorem exec_badMessage_whole (h : LinkClear s) (type : Byte) {payload : List Byte} (check : Byte)
    (hlen : payload.length ≤ Figures.payloadMax) :
    exec (.badMessage (.whole type payload check)) s =
      .next (if linkCheck type payload = check then s.byteSeen.takeParsed type payload
        else s.byteSeen.answer (refusedMessage .badForm (some type) 0)) :=
  congrArg Host.Outcome.next (linkBytes_whole h type check hlen)

theorem exec_badMessage (m : LinkMessage) (s : State) :
    exec (.badMessage m) s = .next (if (messageBytes m).2 then (s.linkBytes (messageBytes m).1).linkByte 0 false
      else s.linkBytes (messageBytes m).1) := rfl

theorem exec_badMessage_damaged (h : LinkClear s) (type : Option Byte) :
    exec (.badMessage (.damaged type)) s = .next (s.byteSeen.answer (refusedMessage .badForm type 0)) := by
  obtain ⟨ha, hrx, -, -, -, -⟩ := linkClear_iff.1 h
  have hstart : s.linkByte Figures.start true = s.gathering [Figures.start] .length := linkByte_start hrx ha
  cases type with
  | none =>
    have hbytes : s.linkBytes [Figures.start, 0xFF] = (s.linkByte Figures.start true).linkByte 0xFF true := by
      simp only [State.linkBytes, List.foldl_cons, List.foldl_nil]
    rw [exec_badMessage, if_neg (by decide)]
    show Host.Outcome.next (s.linkBytes [Figures.start, 0xFF]) = _
    rw [hbytes, hstart]
    exact congrArg Host.Outcome.next (linkByte_tooLong h (by decide))
  | some type =>
    have hbytes : s.linkBytes [Figures.start, 0, type] =
        ((s.linkByte Figures.start true).linkByte 0 true).linkByte type true := by
      simp only [State.linkBytes, List.foldl_cons, List.foldl_nil]
    have hlength : (s.gathering [Figures.start] .length).linkByte 0 true = s.gathering [Figures.start, 0] .body :=
      linkByte_length (by decide)
    have hbody : (s.gathering [Figures.start, 0] .body).linkByte type true = s.gathering [Figures.start, 0, type] .body :=
      linkByte_body (by decide)
    rw [exec_badMessage, if_pos (show (messageBytes (.damaged (some type))).2 = true from rfl)]
    show Host.Outcome.next ((s.linkBytes [Figures.start, 0, type]).linkByte 0 false) = _
    rw [hbytes, hstart, hlength, hbody]
    exact congrArg Host.Outcome.next (linkByte_lost h _ _)

theorem linkCheck_eq_iff (type : Byte) (payload : List Byte) (check : Byte) :
    linkCheck type payload = check ↔ payload.foldl (· + ·) (byteOf payload.length + type) + check = 0 := by
  unfold linkCheck
  exact neg_eq_iff_add_eq_zero

/-- R189: a TYPE that no request has. -/
theorem parseRequest_unknown {type : Byte} (h : type.toNat = 0 ∨ 16 < type.toNat) (payload : List Byte) :
    parseRequest type payload = .error .unknownType := by
  unfold parseRequest
  obtain h | h := h
  · rw [h]; rfl
  · obtain ⟨n, hn⟩ := Nat.exists_eq_add_of_le' h
    rw [hn]; rfl

theorem parseRequest_badForm {type : Byte} {payload : List Byte} {code : RefusalCode}
    (h : parseRequest type payload = .error code) (h0 : 0 < type.toNat) (h16 : type.toNat ≤ 16) : code = .badForm := by
  have form (o : Option Request) (ho : (match o with | some r => .ok r | none => .error .badForm) =
      (.error code : Except RefusalCode Request)) : code = .badForm := by
    cases o with
    | none => cases ho; rfl
    | some r => cases ho
  unfold parseRequest at h
  interval_cases type.toNat
  all_goals exact form _ h

/-- Settles O25: a message is gathered whole, or spoiled on the way, and then judged. -/
theorem badMessagesAnswered : Obligations.BadMessagesAnswered := by
  intro s h
  refine ⟨⟨_, exec_badMessage_damaged h none, ?_⟩, fun type => ⟨_, exec_badMessage_damaged h (some type), ?_⟩,
    fun type payload check hlen => ⟨_, exec_badMessage_whole h type check hlen, fun hne => ?_, fun heq => ⟨fun htype => ?_,
      fun code hcode h0 h16 => ?_, fun r hr => ?_⟩⟩⟩
  · exact refused_byteSeen h .badForm 0xFF 0
  · exact refused_byteSeen h .badForm type 0
  · rw [if_neg (mt (linkCheck_eq_iff type payload check).1 hne)]
    exact refused_byteSeen h .badForm type 0
  · rw [if_pos ((linkCheck_eq_iff type payload check).2 heq), takeParsed_error (parseRequest_unknown htype payload)]
    exact refused_byteSeen h .unknownType type 0
  · obtain rfl := parseRequest_badForm hcode h0 h16
    rw [if_pos ((linkCheck_eq_iff type payload check).2 heq), takeParsed_error hcode]
    exact ⟨rfl, refused_byteSeen h .badForm type 0⟩
  · rw [if_pos ((linkCheck_eq_iff type payload check).2 heq), takeParsed_ok hr]

end Answers

end Machine
end Sys2Proof

/-!
PROOFS. Requests taken or refused at a link that waits for one: the answer each adds, and what a read returns (R188 to
R195; O26, O27, O28, O29, O32).
-/

namespace Sys2Proof
namespace Machine

section Taken

variable {s t : State}

/-! ### A request at a clear link (R188, R189) -/

/-- R188: what a request taken leaves: its effect `t` and its answer. -/
def State.replied (r : Request) (s t : State) : State :=
  { t with
    sl :=
      { answered s.sl (replyBytes (requestType r) (replyData r s t)) with
        summary := t.sl.summary, mask := t.sl.mask, attn := t.sl.attn } }

theorem deliverRequest_clear (h : LinkClear s) {r : Request} (hlen : (requestPayload r).length ≤ Figures.payloadMax) :
    s.deliverRequest r = s.byteSeen.takeRequest r := by
  obtain ⟨hready, -, -⟩ := h
  rw [State.deliverRequest, hready, Bool.true_and, if_pos (decide_eq_true hlen)]

theorem byteSeen_eq_relinked (s : State) : s.byteSeen = s.relinked { s.sl with idleTimer := Timer.started } := rfl

theorem takeRequest_refused (h : LinkClear s) {r : Request} {code : RefusalCode} {n : Nat}
    (hj : s.judge r = some (code, n)) : Refused (byteOf (refusalCode code)) (requestType r) (byteOf n) s (s.byteSeen.takeRequest r) := by
  rw [takeRequest_of_refusal (s := s.byteSeen) hj]
  exact refused_byteSeen h code (requestType r) n

theorem takeRequest_replied (h : LinkClear s) {r : Request} (hr : r ≠ .reset) (hj : s.judge r = none) :
    s.byteSeen.takeRequest r = s.replied r (s.effect r) := by
  obtain ⟨ha, -, -, -, hbuffer, hdamaged⟩ := linkClear_iff.1 h
  rw [takeRequest_of_judge (s := s.byteSeen) hj hr]
  rw [byteSeen_eq_relinked, effect_relinked _ _ hr, replyData_relinked, replyMessage_eq]
  simp [State.answer, State.withSl, State.relinked, State.replied, answered, ha, hbuffer, hdamaged, Timer.started]

/-- The request is no POLE_COMMAND, whose row also brings the level of the line. -/
def isBare : Request → Bool
  | .poleCommand _ _ => false
  | _ => true

theorem exec_commandOf {r : Request} (hr : isBare r = true) (line : LineLevel) (s : State) :
    exec (commandOf line r) s = .next (s.deliverRequest r) := by
  cases r with
  | setChannel k a => cases a <;> rfl
  | poleCommand a ps => cases hr
  | _ => rfl

theorem exec_poleCommand (a : PoleAction) (ps : PoleSel) (line : LineLevel) (s : State) :
    exec (.poleCommand a ps line) s = .next ((s.sense line).deliverRequest (.poleCommand a ps)).examineBreak := rfl

theorem exec_replied (h : LinkClear s) {r : Request} (hbare : isBare r = true) (hr : r ≠ .reset)
    (hlen : (requestPayload r).length ≤ Figures.payloadMax) (hj : s.judge r = none) (line : LineLevel) :
    exec (commandOf line r) s = .next (s.replied r (s.effect r)) := by
  rw [exec_commandOf hbare, deliverRequest_clear h hlen, takeRequest_replied h hr hj]

end Taken

section Refusals

variable {s : State} {r : Request}

/-! ### The tests of R189 in their order -/

theorem judge_wrongMode (hform : formOk r = true) (hmode : modeOk r s.rsq.mode = false) :
    s.judge r = some (.wrongMode, 0) := by
  simp [State.judge, hform, hmode]

theorem judge_wrongRole (hform : formOk r = true) (hmode : modeOk r s.rsq.mode = true) (hrole : roleOk r s.role = false) :
    s.judge r = some (.wrongRole, 0) := by
  simp [State.judge, hform, hmode, hrole]

theorem judge_noSuch (hform : formOk r = true) (hmode : modeOk r s.rsq.mode = true) (hrole : roleOk r s.role = true)
    (hnames : s.namesObject r = false) : s.judge r = some (.noSuch, 0) := by
  simp [State.judge, hform, hmode, hrole, hnames]

theorem judge_obstacle (hform : formOk r = true) (hmode : modeOk r s.rsq.mode = true) (hrole : roleOk r s.role = true)
    (hnames : s.namesObject r = true) : s.judge r = s.obstacle r := by
  simp [State.judge, hform, hmode, hrole, hnames]

theorem channelNamed_of_not {k : Byte} {a : ChannelAction}
    (h : 8 ≤ k.toNat ∨ a ≠ .setLowest ∧ ∃ j : Fin 8, j.val = k.toNat ∧ (s.channel j).state = .unused) :
    s.channelNamed k a = false := by
  unfold State.channelNamed
  obtain hk | ⟨ha, j, hj, hunused⟩ := h
  · rw [dif_neg (by omega)]
  · have hk : k.toNat < 8 := hj ▸ j.isLt
    obtain rfl : j = ⟨k.toNat, hk⟩ := Fin.ext hj
    rw [dif_pos hk, hunused]
    simp [ha]

theorem outputNamed_of_not {o : Byte} (h : ∀ p : Fin 16, p.val = o.toNat → s.outputFn p ≠ .general) :
    s.outputNamed o = false := by
  unfold State.outputNamed
  by_cases ho : o.toNat < 16
  · rw [dif_pos ho, beq_eq_false_iff_ne]
    exact h ⟨o.toNat, ho⟩ rfl
  · rw [dif_neg ho]

/-- R189: the answer to a request refused is all that its row leaves, where no break is wanted. -/
theorem exec_refused (h : LinkClear s) (hlen : (requestPayload r).length ≤ Figures.payloadMax) {line : LineLevel}
    (hline : s.sense line = s) (hbreak : s.breakWanted = false) {code : RefusalCode} {n : Nat}
    (hj : s.judge r = some (code, n)) :
    ∃ t, exec (commandOf line r) s = .next t ∧ Refused (byteOf (refusalCode code)) (requestType r) (byteOf n) s t := by
  have ht := takeRequest_refused h hj
  refine ⟨s.byteSeen.takeRequest r, ?_, ht⟩
  by_cases hbare : isBare r = true
  · rw [exec_commandOf hbare, deliverRequest_clear h hlen]
  · cases r with
    | poleCommand a ps =>
      have hnot : (s.byteSeen.takeRequest (.poleCommand a ps)).breakWanted = false := by rw [ht]; exact hbreak
      show exec (.poleCommand a ps line) s = _
      rw [exec_poleCommand, hline, deliverRequest_clear h hlen, examineBreak_of_not hnot]
    | _ => exact absurd rfl hbare

/-- Settles O26: the first test of R189 that fails names the code, and its answer is the request's whole effect. -/
theorem requestsRefused : Obligations.RequestsRefused := by
  intro s r line h hlen hline hbreak
  refine ⟨fun code n hj => exec_refused h hlen hline hbreak hj, fun hform => ⟨?_, ?_, ?_, ?_, ?_, ?_, ?_, ?_, ?_⟩⟩
  · rintro (rfl | ⟨x, y, rfl⟩) hmode <;> exact judge_wrongMode hform (beq_eq_false_iff_ne.2 hmode)
  · rintro (⟨x, rfl⟩ | ⟨x, y, rfl⟩ | ⟨x, rfl⟩ | ⟨x, y, rfl⟩) hmode <;>
      exact judge_wrongMode hform (by rw [hmode]; rfl)
  · rintro rfl hrole
    exact judge_wrongRole rfl rfl (beq_eq_false_iff_ne.2 hrole)
  · rintro ⟨x, y, rfl⟩ hmode hrole
    exact judge_wrongRole rfl (bne_iff_ne.2 hmode) (beq_eq_false_iff_ne.2 hrole)
  · rintro a rfl ha
    refine judge_noSuch rfl rfl rfl ?_
    obtain ha | ha := ha
    · simp [State.namesObject, not_lt.2 ha]
    · simp [State.namesObject, ha]
  · rintro i rfl hi
    exact judge_noSuch rfl rfl rfl (decide_eq_false (not_lt.2 hi))
  · rintro o on rfl ho
    exact judge_noSuch rfl rfl rfl (outputNamed_of_not ho)
  · rintro k a rfl hmode hk
    exact judge_noSuch rfl (bne_iff_ne.2 hmode) rfl (channelNamed_of_not hk)
  · rintro x y rfl hmode hx
    exact judge_noSuch hform (beq_iff_eq.2 hmode) rfl (decide_eq_false (not_lt.2 hx))

end Refusals

section Reads

variable {s : State}

/-! ### Reads (R192, R194, R195) -/

/-- R192: a request without effect leaves its answer alone. -/
theorem replied_self (r : Request) (s : State) :
    s.replied r s = { s with sl := answered s.sl (replyBytes (requestType r) (replyData r s s)) } := rfl

theorem length_alarmPage (i : Nat) (l : List AlarmEntry) : (alarmPage i l).length = min 8 (l.length - i) := by
  simp [alarmPage, Figures.readAlarmsMax]

/-- Settles O27: a read is taken without effect, and each record has the length of 12.5. -/
theorem readsReturnRecords : Obligations.ReadsReturnRecords := by
  intro s h
  have reads {r : Request} (hbare : isBare r = true) (hr : r ≠ .reset) (hlen : (requestPayload r).length ≤ Figures.payloadMax)
      (hj : s.judge r = none) (he : s.effect r = s) :
      exec (commandOf .recessive r) s =
        .next { s with sl := answered s.sl (replyBytes (requestType r) (replyData r s s)) } := by
    rw [exec_replied h hbare hr hlen hj, he, replied_self]
  refine ⟨reads (r := .readStation) rfl (by simp) (by decide) rfl rfl,
    reads (r := .readChannels) rfl (by simp) (by decide) rfl rfl,
    fun i hi => reads (r := .readAlarms i) rfl (by simp) (by simp [requestPayload, Figures.payloadMax]) ?_ rfl,
    fun hrole => reads (r := .readPoles) rfl (by simp) (by decide) ?_ rfl,
    length_stationRecord s, length_channelsRecord s, length_polesRecord s, length_ioRecord s,
    fun i => by rw [length_alarmsRecord, length_alarmPage]⟩
  · exact judge_obstacle rfl rfl rfl (decide_eq_true hi)
  · exact judge_obstacle rfl rfl (beq_iff_eq.2 hrole) rfl

/-! ### Requests that clear or set what they name (R166, R175, R180, R194, R195) -/

theorem getLsbD_flagBit {k : Nat} (b : Bool) (i : Nat) (hk : k < 8) : (flagBit k b).getLsbD i = (b && decide (i = k)) := by
  cases b <;> simp [flagBit, BitVec.getLsbD_twoPow, hk, eq_comm]

theorem topicByte_topicsOf (m : Byte) : topicByte (topicsOf m) = m := by
  apply BitVec.eq_of_getLsbD_eq
  intro i hi
  simp only [topicByte, topicsOf, BitVec.getLsbD_or, getLsbD_flagBit, Nat.reduceLT]
  interval_cases i <;> simp

theorem inter_without (a b : Topics) : (a.without (a.inter b)).inter b = {} := by
  obtain ⟨a1, a2, a3, a4, a5, a6, a7, a8⟩ := a
  obtain ⟨b1, b2, b3, b4, b5, b6, b7, b8⟩ := b
  have gone (x y : Bool) : ((x && !(x && y)) && y) = false := by cases x <;> cases y <;> rfl
  simp only [Topics.without, Topics.inter, gone]

/-- R166: what READ_PEER leaves. -/
theorem exec_readPeer (h : LinkClear s) {a : Fin 16} (ha : a ≠ s.own) :
    exec (.readPeer (byteOf a.val)) s =
      .next { s.clearRoleChanged a with sl := answered s.sl (replyBytes 0x05 (peerRecord a (s.peer a))) } := by
  have hval : (byteOf a.val).toNat = a.val := toNat_byteOf (by omega)
  have hmod : (⟨(byteOf a.val).toNat % 16, Nat.mod_lt _ (by decide)⟩ : Fin 16) = a :=
    Fin.ext (by simp only [hval]; omega)
  have hj : s.judge (.readPeer (byteOf a.val)) = none := by
    refine judge_obstacle rfl rfl rfl ?_
    simp only [State.namesObject, hval, a.isLt, decide_true, Bool.true_and, bne_iff_ne]
    exact fun heq => ha (Fin.ext heq)
  have heffect : s.effect (.readPeer (byteOf a.val)) = s.clearRoleChanged a :=
    congrArg (fun b => s.clearRoleChanged b) hmod
  have hdata (t : State) : replyData (.readPeer (byteOf a.val)) s t = peerRecord a (s.peer a) :=
    congrArg (fun b => peerRecord b (s.peer b)) hmod
  have hrun := exec_replied h (r := .readPeer (byteOf a.val)) rfl (by simp) (by simp [requestPayload, Figures.payloadMax]) hj
    .recessive
  rw [State.replied, heffect, hdata] at hrun
  exact hrun

theorem exec_readIo (h : LinkClear s) : exec .readIo s =
    .next { s with iou := { s.iou with changeSet := 0 }, sl := answered s.sl (replyBytes 0x09 (ioRecord s)) } :=
  exec_replied h (r := .readIo) rfl (by simp) (by decide) rfl .recessive

theorem exec_readChanges (h : LinkClear s) : exec .readChanges s =
    .next
      { s with
        sl :=
          { answered s.sl (replyBytes 0x0A [topicByte (s.sl.summary.inter s.sl.mask)]) with
            summary := s.sl.summary.without (s.sl.summary.inter s.sl.mask), attn := false } } := by
  have hattn : ((s.sl.summary.without (s.sl.summary.inter s.sl.mask)).inter s.sl.mask).nonempty = false := by
    rw [inter_without]; rfl
  have hrun := exec_replied h (r := .readChanges) rfl (by simp) (by decide) rfl .recessive
  rw [← hattn]
  exact hrun

theorem exec_setAttnMask (h : LinkClear s) (m : Byte) : exec (.setAttnMask m) s =
    .next
      { s with
        sl :=
          { answered s.sl (replyBytes 0x0B [m]) with
            mask := topicsOf m, attn := (s.sl.summary.inter (topicsOf m)).nonempty } } := by
  have hrun := exec_replied h (r := .setAttnMask m) rfl (by simp) (by simp [requestPayload, Figures.payloadMax]) rfl .recessive
  have hdata : replyData (.setAttnMask m) s (s.effect (.setAttnMask m)) = [m] := congrArg (· :: []) (topicByte_topicsOf m)
  rw [State.replied, hdata] at hrun
  exact hrun

/-- Settles O28: each of these requests is one record update with its answer, and ATTN follows by its own step lemma. -/
theorem readsThatClear : Obligations.ReadsThatClear := by
  refine ⟨fun s h => ⟨fun a ha => ⟨_, exec_readPeer h ha, ?_, fun b hb => ?_, rfl⟩, exec_readIo h, exec_readChanges h,
    exec_setAttnMask h⟩, fun s t hs ht => attnShown_step hs ht⟩
  · exact peer_withPeer_self s a _
  · exact peer_withPeer_ne s _ hb

theorem getLsbD_general (s : State) (o p : Fin 16) (on : Bool) :
    (s.setGeneral o.val on).iou.general.getLsbD p.val = if p = o then on else s.iou.general.getLsbD p.val := by
  have hgeneral : (s.setGeneral o.val on).iou.general =
      if on then addBit s.iou.general o.val else dropBit s.iou.general o.val := rfl
  rw [hgeneral]
  by_cases hp : p = o
  · subst hp
    cases on <;> simp [-BitVec.getLsbD_eq_getElem, getLsbD_addBit, getLsbD_dropBit]
  · have hne : p.val ≠ o.val := fun heq => hp (Fin.ext heq)
    cases on <;> simp [-BitVec.getLsbD_eq_getElem, getLsbD_addBit, getLsbD_dropBit, hp, hne]

/-- R174, R175: the levels after SET_OUTPUT. -/
theorem getLsbD_outputs_setGeneral (hs : OutputsShown s) {o : Fin 16} (ho : s.outputFn o = .general) (p : Fin 16) (on : Bool) :
    (s.setGeneral o.val on).iou.outputs.getLsbD p.val = if p = o then on else s.iou.outputs.getLsbD p.val := by
  have hshown : (s.setGeneral o.val on).iou.outputs.getLsbD p.val = (s.setGeneral o.val on).outputCondition p :=
    outputsShown_driveOutputs _ p
  have hfn : (s.setGeneral o.val on).outputFn p = s.outputFn p := rfl
  rw [hshown]
  by_cases hgeneral : s.outputFn p = .general
  · have hold := hs p
    simp only [State.outputCondition, hgeneral] at hold
    simp only [State.outputCondition, hfn, hgeneral, getLsbD_general, hold]
  · rw [if_neg (fun heq : p = o => hgeneral (by rw [heq, ho])), hs p]
    simp only [State.outputCondition, hfn]
    split <;> rename_i hcase
    · exact absurd hcase hgeneral
    all_goals rfl

/-- Settles O29: the GENERAL value is one bit, and driving the outputs moves the level of its output alone. -/
theorem outputSet : Obligations.OutputSet := by
  intro s o on h hs ho
  have hval : (byteOf o.val).toNat = o.val := toNat_byteOf (by omega)
  have hj : s.judge (.setOutput (byteOf o.val) on) = none := by
    refine judge_obstacle rfl rfl rfl ?_
    simp only [State.namesObject, State.outputNamed, hval, o.isLt, dif_pos, ho, beq_self_eq_true]
  have heffect : s.effect (.setOutput (byteOf o.val) on) = s.setGeneral o.val on := by
    simp only [State.effect, hval]
  have hdata : replyData (.setOutput (byteOf o.val) on) s (s.setGeneral o.val on) = [byteOf o.val, if on then 1 else 0] := by
    simp only [replyData, hval, getLsbD_outputs_setGeneral hs ho, if_true, flagByte]
  have hrun := exec_replied h (r := .setOutput (byteOf o.val) on) rfl (by simp) (by simp [requestPayload, Figures.payloadMax]) hj
    .recessive
  rw [State.replied, heffect, hdata] at hrun
  exact ⟨_, hrun, fun p => getLsbD_general s o p on, fun p => getLsbD_outputs_setGeneral hs ho p on, rfl⟩

/-! ### SEND_NOTICE (R128) -/

theorem judge_sendNotice {n : Notice} (hmode : s.rsq.mode ≠ .config) (hn : noticeSendable n = true) :
    s.judge (.sendNotice n) = if s.noticeWaiting n || s.queueRoom then none else some (.queueFull, 0) := by
  refine judge_obstacle ?_ (bne_iff_ne.2 hmode) rfl rfl
  cases n with
  | clear c => cases hn
  | _ => rfl

theorem noticeWaiting_iff {n : Notice} : s.noticeWaiting n = true ↔ n ∈ s.rsq.queue ∨ s.rsq.holding = some n := by
  simp [State.noticeWaiting]

theorem exec_sendNotice (h : LinkClear s) {n : Notice} (hj : s.judge (.sendNotice n) = none) : exec (.sendNotice n) s =
    .next (s.replied (.sendNotice n) (if s.noticeWaiting n then s else s.enqueueNotice n)) :=
  exec_replied h (r := .sendNotice n) rfl (by simp) (by simp [requestPayload, Figures.payloadMax]) hj .recessive

/-- Settles O32: a notice that waits is merged, another joins where there is room, and neither is refused otherwise. -/
theorem noticeSent : Obligations.NoticeSent := by
  intro s n h hmode hn
  have hj := judge_sendNotice hmode hn
  refine ⟨fun hwaits => ?_, fun hqueue hheld hroom => ?_, fun hqueue hheld hfull => ?_⟩
  · have hw : s.noticeWaiting n = true := noticeWaiting_iff.2 hwaits
    rw [exec_sendNotice h (by rw [hj, hw]; rfl), if_pos hw]
    simp only [State.replied, replyData, hw]
    rfl
  · have hw : s.noticeWaiting n = false := Bool.eq_false_iff.2 (fun hw => (noticeWaiting_iff.1 hw).elim hqueue hheld)
    have hr : s.queueRoom = true := decide_eq_true hroom
    rw [exec_sendNotice h (by rw [hj, hr, Bool.or_true]; rfl), hw]
    simp only [State.replied, replyData, hw]
    rfl
  · have hw : s.noticeWaiting n = false := Bool.eq_false_iff.2 (fun hw => (noticeWaiting_iff.1 hw).elim hqueue hheld)
    have hr : s.queueRoom = false := decide_eq_false (not_lt.2 hfull)
    have hjudge : s.judge (.sendNotice n) = some (.queueFull, 0) := by rw [hj, hw, hr]; rfl
    refine ⟨_, congrArg Host.Outcome.next (deliverRequest_clear h ?_), takeRequest_refused h hjudge⟩
    simp [requestPayload, Figures.payloadMax]

end Reads

end Machine
end Sys2Proof

/-!
PROOFS. The bytes of the station link: what a byte received, an idle interval and a byte sent leave (R183 to R188; O22,
O23, O24).
-/

namespace Sys2Proof
namespace Machine

section Seen

variable {s w : State}

/-! ### What the level of the line leaves (R44) -/

theorem sense_eq (s : State) (l : LineLevel) :
    s.sense l =
      { s with
        li := (s.sense l).li, rsq := (s.sense l).rsq, pins := { s.pins with line := (s.sense l).pins.line } } := by
  obtain ⟨h1, h2, h3, h4, h5, h6, h7, h8, h9⟩ := sense_frame s l
  have hpins : SamePins s (s.sense l) := samePins_sense s l
  rw [SamePins] at hpins
  calc s.sense l
      = State.mk (s.sense l).pending (s.sense l).cfs (s.sense l).li (s.sense l).rsq (s.sense l).pt (s.sense l).ps
          (s.sense l).alc (s.sense l).ca (s.sense l).ll (s.sense l).iou (s.sense l).sl (s.sense l).pins := rfl
    _ = _ := by rw [h1, h2, h3, h4, h5, h6, h7, h8, h9, hpins]

/-- The state that a byte of the link is met in: the line and the strap as the command shows them. -/
def State.seen (levels : LinkLevels) (s : State) : State := (s.sense levels.line).strapped levels.lrateHigh

theorem seen_sl (levels : LinkLevels) (s : State) : (s.seen levels).sl = s.sl := (sense_frame s levels.line).2.2.2.2.2.2.2.2

theorem seen_pins (levels : LinkLevels) (s : State) :
    (s.seen levels).pins = { s.pins with lrateHigh := levels.lrateHigh, line := (s.seen levels).pins.line } := by
  have hpins : SamePins s (s.sense levels.line) := samePins_sense s levels.line
  rw [SamePins] at hpins
  show { (s.sense levels.line).pins with lrateHigh := levels.lrateHigh } = _
  rw [hpins]
  rfl

/-- The state an event of the link leaves before the break condition is examined: the line as it was shown. -/
def LineShown (line : LineLevel) (s w : State) : Prop :=
  ∃ x p, w = { s with sl := x, li := (s.sense line).li, rsq := (s.sense line).rsq, pins := p }

theorem lineShown_seen (levels : LinkLevels) (s : State) (x : StationLink) :
    LineShown levels.line s ((s.seen levels).withSl x) := by
  refine ⟨x, (s.seen levels).pins, ?_⟩
  unfold State.seen
  obtain ⟨a, b, p, h⟩ : ∃ a b p, s.sense levels.line = { s with li := a, rsq := b, pins := p } := ⟨_, _, _, sense_eq s levels.line⟩
  rw [h]
  rfl

theorem examineBreak_cases (w : State) :
    w.examineBreak = w ∨ w.ownPending = true ∧
      w.examineBreak = { w with li := w.assertBreak.li, pins := { w.pins with line := .dominant } } := by
  cases hb : w.breakWanted with
  | false => exact .inl (examineBreak_of_not hb)
  | true =>
    obtain ⟨-, hpending, -⟩ := (breakWanted_iff w).1 hb
    exact .inr ⟨hpending, examineBreak_of_wanted hb⟩

/-- R44: an event of the link with the break condition examined. -/
theorem linkOnly_examineBreak {line : LineLevel} (h : LineShown line s w) :
    LinkOnly line s w.examineBreak ∧ w.examineBreak.sl = w.sl ∧
      w.examineBreak.pins = { w.pins with line := w.examineBreak.pins.line } ∧
      (s.ownPending = false → w.examineBreak.li = (s.sense line).li) := by
  unfold LinkOnly
  obtain ⟨x, p, rfl⟩ := h
  rcases examineBreak_cases { s with sl := x, li := (s.sense line).li, rsq := (s.sense line).rsq, pins := p } with
    e | ⟨hpending, e⟩ <;> rw [e]
  · exact ⟨rfl, rfl, rfl, fun _ => rfl⟩
  · refine ⟨rfl, rfl, rfl, fun hnone => ?_⟩
    have hsame : s.ownPending = true := hpending
    rw [hnone] at hsame
    cases hsame

end Seen

section Bytes

variable {s : State}

/-! ### A byte received (R183 to R187) -/

theorem exec_linkByteReceived {b : Byte} {stopOk : Bool} {levels : LinkLevels} {x : StationLink}
    (h : (s.seen levels).linkByte b stopOk = (s.seen levels).withSl x) :
    ∃ t, exec (.linkByteReceived b stopOk levels) s = .next t ∧ LinkOnly levels.line s t ∧ t.sl = x ∧
      t.pins = { s.pins with lrateHigh := levels.lrateHigh, line := t.pins.line } ∧
      (s.ownPending = false → t.li = (s.sense levels.line).li) := by
  obtain ⟨honly, hsl, hpins, hli⟩ := linkOnly_examineBreak (lineShown_seen levels s x)
  refine ⟨_, congrArg (fun w => Host.Outcome.next (State.examineBreak w)) h, honly, hsl, ?_, hli⟩
  rw [hpins, withSl_pins, seen_pins]

theorem storeByte_eq (b : Byte) (stopOk : Bool) (s : State) :
    s.storeByte b stopOk =
      s.withSl
        (if stopOk = true ∧ rxBytes s.sl.rx < 32 then
          { s.sl with
            idleTimer := some 0, rx := s.sl.rx ++ [.byte b], rts := s.sl.rts && decide (rxBytes s.sl.rx + 1 < 24) }
        else
          { s.sl with
            idleTimer := some 0
            rx := if s.sl.rx.getLast? = some .lossMark then s.sl.rx else s.sl.rx ++ [.lossMark] }) := by
  have hstored : (stopOk && decide (rxBytes s.sl.rx < Figures.rxCapacity)) = true ↔ stopOk = true ∧ rxBytes s.sl.rx < 32 := by
    rw [Bool.and_eq_true, decide_eq_true_iff]
    rfl
  unfold State.storeByte
  by_cases h : stopOk = true ∧ rxBytes s.sl.rx < 32
  · rw [if_pos h, if_pos (hstored.2 h)]
    rfl
  · rw [if_neg h, if_neg (mt hstored.1 h)]
    unfold State.placeMark tailIs
    by_cases htail : s.sl.rx.getLast? = some .lossMark
    · simp [htail, State.withSl, Timer.started]
    · simp [htail, State.withSl, Timer.started]

/-- R183, R184: while a complete message waits for room a byte is stored, or leaves a loss mark. -/
theorem linkByte_waiting (ha : s.sl.assembler = .complete) (hroom : s.answerRoom = false) (b : Byte) (stopOk : Bool) :
    s.linkByte b stopOk = s.storeByte b stopOk := by
  have hsl : (s.storeByte b stopOk).sl.assembler = s.sl.assembler ∧ (s.storeByte b stopOk).sl.tx = s.sl.tx := by
    rw [storeByte_eq, withSl_sl]
    split_ifs <;> exact ⟨rfl, rfl⟩
  refine pump_waits _ (hsl.1.trans ha) ?_
  simp only [State.answerRoom, hsl.2] at hroom ⊢
  exact hroom

/-- R184, R187: a damaged message is answered BAD_FORM with the TYPE it had reached. -/
theorem takeBuffer_damaged (hd : s.sl.damaged = true) :
    s.takeBuffer = s.answer (refusedMessage .badForm (s.sl.buffer[2]?) 0) := by
  unfold State.takeBuffer
  rw [hd]
  rfl

theorem linkByte_lossMark (hrx : s.sl.rx = []) (ha : s.sl.assembler ≠ .complete) (hroom : s.answerRoom = true) (b : Byte) :
    s.linkByte b false =
      s.withSl
        { s.sl with
          idleTimer := some 0, assembler := .hunting, buffer := [], damaged := false
          tx := s.sl.tx ++ refusedBytes 1 (if s.sl.assembler = .hunting then 0xFF else (s.sl.buffer[2]?).getD 0xFF) 0 } := by
  have hloss : s.lossTaken = s.withSl
      { s.sl with
        idleTimer := some 0, rx := [], assembler := .complete, damaged := true
        buffer := if s.sl.assembler = .hunting then [] else s.sl.buffer } := by
    cases h : s.sl.assembler with
    | complete => exact absurd h ha
    | _ => simp [State.lossTaken, StationLink.takeLoss, h, StationLink.spoiled, Timer.started]
  rw [linkByte_bad hrx ha, attempt_complete (by rw [hloss]; rfl) (by rw [hloss]; exact hroom),
    takeBuffer_damaged (by rw [hloss]; rfl), hloss, refusedMessage_eq]
  by_cases hh : s.sl.assembler = .hunting
  · simp [State.answer, State.withSl, hrx, hh, refusalCode, byteOf]
  · simp [State.answer, State.withSl, hrx, hh, refusalCode, byteOf]

/-- R185, R187: a byte in good form at an empty FIFO that completes nothing. -/
theorem linkByte_kept (hrx : s.sl.rx = []) {b : Byte} {l : StationLink} (ha : s.sl.assembler ≠ .complete)
    (hl : ({ s.sl with idleTimer := Timer.started, rx := [], rts := true } : StationLink).takeByte b = l)
    (hopen : l.assembler ≠ .complete) : s.linkByte b true = s.withSl l := by
  rw [linkByte_good hrx ha, State.byteTaken, hl]
  exact attempt_open hopen

theorem linkByte_spoiled (hrx : s.sl.rx = []) (ha : s.sl.assembler = .length) (hbuffer : s.sl.buffer = [0x7E]) {b : Byte}
    (hb : 48 < b.toNat) (hroom : s.answerRoom = true) :
    s.linkByte b true =
      s.withSl
        { s.sl with
          idleTimer := some 0, rts := true, assembler := .hunting, buffer := [], damaged := false
          tx := s.sl.tx ++ refusedBytes 1 0xFF 0 } := by
  have htaken : s.byteTaken b = s.withSl
      { s.sl with
        idleTimer := some 0, rx := [], rts := true, assembler := .complete, damaged := true, buffer := [0x7E, b] } := by
    simp [State.byteTaken, StationLink.takeByte, ha, hbuffer, Figures.payloadMax, not_le.2 hb, StationLink.spoiled, Timer.started]
  rw [linkByte_good hrx (by rw [ha]; decide), attempt_complete (by rw [htaken]; rfl) (by rw [htaken]; exact hroom),
    takeBuffer_damaged (by rw [htaken]; rfl), htaken, refusedMessage_eq]
  simp [State.answer, State.withSl, hrx, refusalCode, byteOf]

/-- A byte in good form at an empty FIFO, whatever the assembler makes of it. -/
theorem exec_linkByteReceived_good (b : Byte) (levels : LinkLevels) (s : State) :
    ∃ t, exec (.linkByteReceived b true levels) s = .next t ∧
      ∀ x, (s.seen levels).linkByte b true = (s.seen levels).withSl x → LinkOnly levels.line s t ∧ t.sl = x := by
  refine ⟨_, rfl, fun x hx => ?_⟩
  obtain ⟨t, ht, honly, hsl, -⟩ := exec_linkByteReceived hx
  injection ht with ht
  exact ht ▸ ⟨honly, hsl⟩

/-- Settles O22: the FIFO and the assembler by the assembler's state, and the line as the byte's event shows it. -/
theorem linkByteTaken : Obligations.LinkByteTaken := by
  refine ⟨fun b stopOk levels s ha hroom => ?_, fun b levels s hrx ha hroom => ?_, fun b levels s hrx => ?_⟩
  · have hsl := seen_sl levels s
    have hbyte : (s.seen levels).linkByte b stopOk = _ :=
      (linkByte_waiting (by rw [hsl]; exact ha) (by rw [State.answerRoom, hsl]; exact hroom) b stopOk).trans
        (storeByte_eq b stopOk _)
    obtain ⟨t, ht, honly, htsl, hpins, hli⟩ := exec_linkByteReceived hbyte
    rw [hsl] at htsl
    exact ⟨t, ht, honly, hpins, hli, htsl⟩
  · have hsl := seen_sl levels s
    have hbyte := linkByte_lossMark (s := s.seen levels) (by rw [hsl]; exact hrx) (by rw [hsl]; exact ha)
      (by rw [State.answerRoom, hsl]; exact hroom) b
    obtain ⟨t, ht, honly, htsl, -⟩ := exec_linkByteReceived hbyte
    rw [hsl] at htsl
    exact ⟨t, ht, honly, htsl⟩
  · have hsl := seen_sl levels s
    obtain ⟨t, ht, hbyte⟩ := exec_linkByteReceived_good b levels s
    have hempty : (s.seen levels).sl.rx = [] := by rw [hsl]; exact hrx
    have kept {l : StationLink} (ha : s.sl.assembler ≠ .complete) (hopen : l.assembler ≠ .complete)
        (hl : ({ s.sl with idleTimer := Timer.started, rx := [], rts := true } : StationLink).takeByte b = l) :
        LinkOnly levels.line s t ∧ t.sl = l :=
      hbyte l (linkByte_kept hempty (by rw [hsl]; exact ha) (by rw [hsl]; exact hl) hopen)
    refine ⟨t, ht, fun ha => ?_, fun ha hb => ?_, fun ha hbuffer hb hroom => ?_, fun ha hlen _ => ?_⟩
    · by_cases hb : b = 0x7E
      · rw [if_pos hb]
        exact kept (by rw [ha]; decide) (by simp) (by simp [StationLink.takeByte, ha, hb, Figures.start, Timer.started, hrx])
      · rw [if_neg hb]
        exact kept (by rw [ha]; decide) (show s.sl.assembler ≠ .complete by rw [ha]; decide)
          (by simpa [StationLink.takeByte, ha, Figures.start, Timer.started, hrx] using hb)
    · exact kept (by rw [ha]; decide) (show Assembler.body ≠ .complete by decide)
        (by simp [StationLink.takeByte, ha, Figures.payloadMax, hb, Timer.started, hrx])
    · have hspoiled := linkByte_spoiled hempty (by rw [hsl]; exact ha) (by rw [hsl]; exact hbuffer) hb
        (by rw [State.answerRoom, hsl]; exact hroom)
      rw [hsl] at hspoiled
      exact hbyte _ hspoiled
    · exact kept (by rw [ha]; decide) (show s.sl.assembler ≠ .complete by rw [ha]; decide)
        (by simp only [StationLink.takeByte, ha, List.length_append, List.length_singleton, if_neg hlen, Timer.started, hrx])

/-! ### The idle interval (R183, R187) -/

theorem exec_idleTimerExpiry (s : State) :
    exec .idleTimerExpiry s =
      .next (if s.linkIdleDue then ((s.withSl { s.sl with idleTimer := none }).placeMark .gapMark).runLink else s) := rfl

theorem gapMark_placed (hrx : s.sl.rx = []) :
    (s.withSl { s.sl with idleTimer := none }).placeMark .gapMark =
      s.withSl { s.sl with idleTimer := none, rx := [.gapMark] } := by
  simp [State.placeMark, tailIs, hrx, State.withSl]

/-- R187: a gap mark that the assembler takes at once. -/
theorem runLink_gapMark (ha : s.sl.assembler ≠ .complete) {l : StationLink}
    (hl : ({ s.sl with idleTimer := none, rx := [] } : StationLink).takeGap = l) (hrx : l.rx = []) (hopen : l.assembler ≠ .complete) :
    (s.withSl { s.sl with idleTimer := none, rx := [.gapMark] }).runLink = s.withSl l := by
  refine (pump_assembles 3 (i := .gapMark) (rest := []) ?_ ?_).trans ?_
  · exact ha
  · rfl
  · refine Eq.trans ?_ (pump_idle (s := s.withSl l) 3 hrx hopen)
    rw [← hl]
    rfl

/-- Settles O23: the gap mark reaches the assembler, or stands behind a message that waits. -/
theorem idleTimerDiscards : Obligations.IdleTimerDiscards := by
  refine ⟨fun s h => ?_, fun s h hrx => ⟨_, rfl, fun ha => ?_, fun ha => ?_, fun ha hroom => ?_⟩⟩
  · have hdue : ¬s.linkIdleDue = true := fun hd => h ((due_iff _ _).1 hd)
    rw [exec_idleTimerExpiry, if_neg hdue]
  all_goals
    have hdue : s.linkIdleDue = true := (due_iff _ _).2 h
    rw [if_pos hdue, gapMark_placed hrx]
  · have hl : ({ s.sl with idleTimer := none, rx := [] } : StationLink).takeGap = { s.sl with idleTimer := none, rx := [] } := by
      simp [StationLink.takeGap, ha]
    rw [runLink_gapMark (by rw [ha]; decide) hl rfl (by simp [ha]), ← hrx]
    rfl
  · have hl : ({ s.sl with idleTimer := none, rx := [] } : StationLink).takeGap =
        { s.sl with idleTimer := none, rx := [], assembler := .hunting, buffer := [], damaged := false } := by
      obtain ha | ha := ha <;> simp [StationLink.takeGap, StationLink.hunt, ha]
    rw [runLink_gapMark (by obtain ha | ha := ha <;> simp [ha]) hl rfl (by simp), ← hrx]
    rfl
  · exact pump_waits _ ha hroom

/-! ### A byte sent (R186, R188) -/

theorem samePins_effect {r : Request} (hr : r ≠ .reset) (s : State) : SamePins s (s.effect r) := by
  cases r with
  | configWrite record items =>
    show SamePins s (if items.isEmpty then s else (s.writeConfig record.toNat (items.map BitVec.toNat)).finish s)
    split
    · exact SamePins.of_pins rfl
    · exact (SamePins.of_pins (by simp)).trans (samePins_finish (s.writeConfig record.toNat (items.map BitVec.toNat)) s)
  | join => exact (SamePins.of_pins (by simp)).trans (samePins_finish s.join s)
  | reset => exact absurd rfl hr
  | setDemand a => exact (SamePins.of_pins (by simp)).trans (samePins_finish (s.takeDemand a.toNat) s)
  | setChannel k a =>
    have hpins (k : Fin 8) : SamePins s (s.channelAction k a) := .of_pins (by simp)
    exact (hpins _).trans (samePins_finishBut _ _ s)
  | sendNotice n =>
    show SamePins s (if s.noticeWaiting n then s else s.enqueueNotice n)
    split <;> exact SamePins.of_pins rfl
  | poleCommand a ps => exact (SamePins.of_pins (by simp)).trans (samePins_finish (s.commandPoles a ps) s)
  | _ => exact SamePins.of_pins rfl

/-- What a byte's start leaves, whatever is taken after it: the byte on STX with what waited behind it, or a link reset. -/
def SentOrReset (b : Byte) (rest : List Byte) (high : Bool) (t : State) : Prop :=
  t.sl.stx = some b ∧ (∃ more, t.sl.tx = rest ++ more) ∧ t.pins.lrateHigh = high ∨
    t.cfs.resetCause = .link ∧ t.rsq.mode = .config ∧ t.sl.rateHigh = high ∧ t.sl.rx = [] ∧ t.sl.assembler = .hunting

theorem SentOrReset.answer {b : Byte} {rest : List Byte} {high : Bool} {t : State}
    (h : t.sl.stx = some b ∧ (∃ more, t.sl.tx = rest ++ more) ∧ t.pins.lrateHigh = high) (m : List Byte) :
    SentOrReset b rest high (t.answer m) := by
  obtain ⟨hstx, ⟨more, htx⟩, hpin⟩ := h
  exact .inl ⟨hstx, ⟨more ++ m, by simp [State.answer, State.withSl, htx]⟩, hpin⟩

theorem sentOrReset_linkRun {b : Byte} {rest : List Byte} {high : Bool} {t : State} (h : LinkRun s t)
    (hs : SentOrReset b rest high s) : SentOrReset b rest high t := by
  have complete_not_hunting {u : State} (hc : u.sl.assembler = .complete) (hh : u.sl.assembler = .hunting) : False := by
    rw [hc] at hh; cases hh
  induction h with
  | start => exact hs
  | assembled _ _ hrx ih =>
    obtain ⟨hstx, ⟨more, htx⟩, hpin⟩ | ⟨-, -, -, hempty, -⟩ := ih
    · obtain ⟨-, htx', hstx'⟩ := assemble_fifos _ _ _
      exact .inl ⟨hstx'.trans hstx, ⟨more, htx'.trans htx⟩, hpin⟩
    · rw [hempty] at hrx; cases hrx
  | refused code type n _ hc _ ih =>
    obtain ih | ⟨-, -, -, -, hh⟩ := ih
    · exact SentOrReset.answer ih _
    · exact (complete_not_hunting hc hh).elim
  | @taken u r _ hc _ _ hr ih =>
    obtain ⟨hstx, hmore, hpin⟩ | ⟨-, -, -, -, hh⟩ := ih
    · refine SentOrReset.answer ⟨?_, ?_, ?_⟩ _
      · rw [effect_link hr]; exact hstx
      · rw [effect_link hr]; exact hmore
      · rw [samePins_effect hr u]; exact hpin
    · exact (complete_not_hunting hc hh).elim
  | reset _ hc ih =>
    obtain ⟨-, -, hpin⟩ | ⟨-, -, -, -, hh⟩ := ih
    · exact .inr ⟨rfl, rfl, hpin, rfl, rfl⟩
    · exact (complete_not_hunting hc hh).elim

theorem samePins_linkRun {t : State} (h : LinkRun s t) : SamePins s t := by
  induction h with
  | start => exact .of_pins rfl
  | assembled _ _ _ ih => exact ih.trans (.of_pins rfl)
  | refused _ _ _ _ _ _ ih => exact ih.trans (.of_pins rfl)
  | taken _ _ _ _ hr ih => exact ih.trans ((samePins_effect hr _).trans (.of_pins rfl))
  | reset _ _ ih => exact ih.trans ((samePins_iff _ _).2 ⟨rfl, rfl, rfl⟩)

/-- The state in which a byte may start: the line, the strap and CTS as the command shows them. -/
def State.offered (cts : Bool) (levels : LinkLevels) (s : State) : State :=
  (s.seen levels).withPins { (s.seen levels).pins with cts := cts }

theorem exec_transmitByteStart (cts : Bool) (levels : LinkLevels) (s : State) :
    exec (.transmitByteStart cts levels) s =
      .next (if cts then (s.offered cts levels).startByte else s.offered cts levels).examineBreak := rfl

theorem offered_sl (cts : Bool) (levels : LinkLevels) (s : State) : (s.offered cts levels).sl = s.sl := seen_sl levels s

theorem offered_pins (cts : Bool) (levels : LinkLevels) (s : State) :
    (s.offered cts levels).pins =
      { s.pins with cts := cts, lrateHigh := levels.lrateHigh, line := (s.offered cts levels).pins.line } := by
  show { (s.seen levels).pins with cts := cts } = _
  rw [seen_pins]
  rfl

theorem lineShown_offered (cts : Bool) (levels : LinkLevels) (s : State) (x : StationLink) :
    LineShown levels.line s ((s.offered cts levels).withSl x) := by
  obtain ⟨y, p, h⟩ := lineShown_seen levels s x
  refine ⟨y, { p with cts := cts }, ?_⟩
  show ((s.seen levels).withSl x).withPins { ((s.seen levels).withSl x).pins with cts := cts } = _
  rw [h]
  rfl

theorem startByte_of_not (h : s.sl.stx ≠ none ∨ s.sl.tx = []) : s.startByte = s := by
  unfold State.startByte
  split
  next hstx htx => simp [hstx, htx] at h
  · rfl

theorem startByte_of {b : Byte} {rest : List Byte} (hstx : s.sl.stx = none) (htx : s.sl.tx = b :: rest) :
    s.startByte = (s.withSl { s.sl with stx := some b, tx := rest }).runLink := by
  unfold State.startByte
  rw [hstx, htx]

theorem startByte_run (s : State) : ∃ w, LinkRun w s.startByte ∧ SamePins s w := by
  unfold State.startByte
  split
  · exact ⟨_, linkRun_runLink _, .of_pins rfl⟩
  · exact ⟨_, .start, .of_pins rfl⟩

/-- The byte at the head of the FIFO starts, and no request is taken after it. -/
theorem startByte_alone {b : Byte} {rest : List Byte} (hstx : s.sl.stx = none) (htx : s.sl.tx = b :: rest)
    (h : s.sl.assembler ≠ .complete ∧ s.sl.rx = [] ∨ s.sl.assembler = .complete ∧ 64 < rest.length + 52) :
    s.startByte = s.withSl { s.sl with stx := some b, tx := rest } := by
  rw [startByte_of hstx htx]
  obtain ⟨ha, hrx⟩ | ⟨ha, hroom⟩ := h
  · exact pump_idle _ hrx ha
  · exact pump_waits _ ha (decide_eq_false (not_le.2 hroom))

theorem sentOrReset_startByte {b : Byte} {rest : List Byte} (hstx : s.sl.stx = none) (htx : s.sl.tx = b :: rest) :
    SentOrReset b rest s.pins.lrateHigh s.startByte := by
  rw [startByte_of hstx htx]
  exact sentOrReset_linkRun (linkRun_runLink _) (.inl ⟨rfl, ⟨[], (List.append_nil _).symm⟩, rfl⟩)

/-- Settles O24: the head byte leaves the FIFO, and the link runs on with the place it frees. -/
theorem transmitterSends : Obligations.TransmitterSends := by
  intro s levels
  refine ⟨⟨_, rfl, rfl⟩, ⟨_, exec_transmitByteStart false levels s, ?_⟩, ⟨_, exec_transmitByteStart true levels s, ?_⟩⟩
  · obtain ⟨honly, hsl, hpins, hli⟩ := linkOnly_examineBreak (lineShown_offered false levels s (s.offered false levels).sl)
    have hpins' : (s.offered false levels).examineBreak.pins =
        { s.pins with
          cts := false, lrateHigh := levels.lrateHigh, line := (s.offered false levels).examineBreak.pins.line } := by
      refine hpins.trans ?_
      rw [withSl_pins, offered_pins]
      rfl
    exact ⟨hsl.trans (offered_sl false levels s), congrArg Pins.cts hpins', hpins', honly, hli⟩
  · set u := s.offered true levels with hu
    have husl : u.sl = s.sl := offered_sl true levels s
    obtain ⟨w, hrun, hwpins⟩ := startByte_run u
    have hpins : SamePins u u.startByte.examineBreak :=
      (hwpins.trans (samePins_linkRun hrun)).trans (samePins_examineBreak _)
    obtain ⟨hrate, hcts, -⟩ := (samePins_iff _ _).1 hpins
    have hupins := offered_pins true levels s
    have alone {x : StationLink} (hx : u.startByte = u.withSl x) :
        u.startByte.examineBreak.sl = x ∧ LinkOnly levels.line s u.startByte.examineBreak := by
      obtain ⟨honly, hsl, -⟩ := linkOnly_examineBreak (lineShown_offered true levels s x)
      rw [hx]
      exact ⟨hsl, honly⟩
    refine ⟨hcts.trans (congrArg Pins.cts hupins), hrate.trans (congrArg Pins.lrateHigh hupins), fun h => ?_,
      fun b rest hstx htx h => ?_, fun b rest hstx htx => ?_⟩
    · have hx : u.startByte = u.withSl u.sl := startByte_of_not (by rw [husl]; exact h)
      rw [husl] at hx
      exact alone hx
    · have hx := startByte_alone (s := u) (by rw [husl]; exact hstx) (by rw [husl]; exact htx) (by rw [husl]; exact h)
      rw [husl] at hx
      exact alone hx
    · have hsent := sentOrReset_startByte (s := u) (by rw [husl]; exact hstx) (by rw [husl]; exact htx)
      have hhigh : u.pins.lrateHigh = levels.lrateHigh := congrArg Pins.lrateHigh hupins
      rw [hhigh] at hsent
      obtain ⟨hstx', hmore, -⟩ | ⟨hcause, hmode, hlink, -⟩ := hsent
      · exact .inl ⟨by simpa using hstx', by simpa using hmore⟩
      · exact .inr ⟨by simpa using hcause, by simpa using hmode, by simpa using hlink⟩

end Bytes

end Machine
end Sys2Proof

/-!
PROOFS. Frames and what they state: a frame as sent is received as a valid one, and what a station states is what its
peers file (R140 to R143, R153, R158, R204; O17, O18).
-/

namespace Sys2Proof
namespace Machine

/-! ### The frame check (R140, R141) -/

theorem headerKind_headerByte (k : FrameKind) (a : Fin 16) : headerKind (headerByte k a) = some k := by
  cases k <;> revert a <;> decide

theorem length_bodyBytes (b : FrameBody) : (bodyBytes b).length + 4 = frameLength (frameKind b) := by
  cases b <;> rfl

theorem length_frameChars (a : Fin 16) (b : FrameBody) : (frameChars a b).length = frameLength (frameKind b) := by
  rw [← length_bodyBytes]
  simp [frameChars]

/-- What is checked of a frame: its header and its body. -/
def checkedBytes (a : Fin 16) (b : FrameBody) : List Byte := headerByte (frameKind b) a :: bodyBytes b

theorem frameChars_eq (a : Fin 16) (b : FrameBody) :
    frameChars a b = (Figures.sync :: checkedBytes a b) ++ halfBytes (frameCheck (checkedBytes a b)) := rfl

theorem length_checkedBytes (a : Fin 16) (b : FrameBody) : (checkedBytes a b).length + 3 = frameLength (frameKind b) :=
  length_bodyBytes b

/-- R141: two characters after the checked ones pass exactly where they are the check. -/
theorem checkPasses_append (l : List Byte) (hi lo : Byte) :
    checkPasses (l ++ [hi, lo]) = true ↔ [hi, lo] = halfBytes (frameCheck l) := by
  simp only [checkPasses, List.length_append, List.length_cons, List.length_nil, Nat.add_sub_cancel, List.drop_left,
    List.take_left, beq_iff_eq]

/-- R142, R143: a frame of full length is judged by its check alone. -/
theorem judgeRun_checked (a : Fin 16) (b : FrameBody) (hi lo : Byte) :
    judgeRun ((Figures.sync :: checkedBytes a b) ++ [hi, lo]) .reached =
      if [hi, lo] = halfBytes (frameCheck (checkedBytes a b)) then .valid else .error .crc := by
  have hlength : (checkedBytes a b ++ [hi, lo]).length + 1 = frameLength (frameKind b) := by
    rw [← length_checkedBytes a b]
    simp
  have htake : (checkedBytes a b ++ [hi, lo]).take (frameLength (frameKind b) - 1) = checkedBytes a b ++ [hi, lo] :=
    List.take_of_length_le (by omega)
  have hpass := checkPasses_append (checkedBytes a b) hi lo
  unfold checkedBytes at *
  simp only [List.cons_append] at *
  simp only [judgeRun, ne_eq, not_true_eq_false, if_false, headerKind_headerByte, hlength, lt_irrefl, htake, hpass]

/-- Settles O17: the check is over the very characters the receiver checks. -/
theorem sentFramesAreValid : Obligations.SentFramesAreValid := by
  intro a b
  refine ⟨?_, ?_, fun init hi lo hi' lo' h hne => ?_⟩
  · exact (judgeRun_checked a b _ _).trans (if_pos rfl)
  · rw [length_frameChars]
    cases b <;> rfl
  · rw [frameChars_eq] at h
    obtain ⟨rfl, hcheck⟩ := List.append_inj' h rfl
    refine (judgeRun_checked a b hi' lo').trans (if_neg fun heq => hne ?_)
    rw [hcheck] at heq
    injection heq with h1 h2
    injection h2 with h2
    rw [h1, h2]

/-! ### Stated fields laid out and read (R158, R204) -/

theorem toNat_ofNat_current {n : Nat} (h : n ≤ 2047) : min Figures.currentMax (BitVec.ofNat 16 n).toNat = n := by
  rw [BitVec.toNat_ofNat]
  simp only [Figures.currentMax]
  omega

/-- The flags byte of a STATUS (12.2). -/
theorem flags_read (o : Bool) (k : Fin 4) (c : LineCondition) :
    let flags := flagBit 7 o ||| (byteOf k.val <<< 4) ||| byteOf (lineConditionCode c)
    ((flags >>> 4) &&& 3).toNat % 4 = k.val ∧ (flags &&& 7).toNat = lineConditionCode c ∧ flags.getLsbD 7 = o := by
  cases c <;> revert o k <;> decide

/-- The first data byte of a POLE station (12.2). -/
theorem poleData_read (g : Bool) (b : Band) (q : Fin 4) :
    let data := flagBit 6 g ||| (byteOf (bandCode b) <<< 4) ||| byteOf q.val
    (data &&& 3).toNat = q.val ∧ ((data >>> 4) &&& 3).toNat = bandCode b ∧ data.getLsbD 6 = g := by
  cases b <;> revert g q <;> decide

theorem poleStateCode_lt (p : PoleState) : poleStateCode p < 8 := by cases p <;> decide

/-- The last data byte of a POLE station (12.2). -/
theorem poleStates_read (p n : PoleState) :
    let data := (byteOf (poleStateCode p) <<< 4) ||| byteOf (poleStateCode n)
    (data >>> 4).toNat = poleStateCode p ∧ (data &&& 15).toNat = poleStateCode n := by
  have codes : ∀ i j : Fin 8, ((byteOf i.val <<< 4) ||| byteOf j.val : Byte) >>> 4 = byteOf i.val ∧
      ((byteOf i.val <<< 4) ||| byteOf j.val : Byte) &&& 15 = byteOf j.val := by decide
  obtain ⟨hp, hn⟩ := codes ⟨_, poleStateCode_lt p⟩ ⟨_, poleStateCode_lt n⟩
  have lt (p : PoleState) : poleStateCode p < 256 := (poleStateCode_lt p).trans (by decide)
  exact ⟨(congrArg BitVec.toNat hp).trans (toNat_byteOf (lt p)), (congrArg BitVec.toNat hn).trans (toNat_byteOf (lt n))⟩

theorem causeSet_masked (f : Cause → Bool) : causeSet f &&& 0x1F = causeSet f := by
  simp only [causeSet, setCauses, List.foldl_cons, List.foldl_nil]
  generalize f .poleDropP = a
  generalize f .poleDropN = b
  generalize f .lineLoss = c
  generalize f .sensorLoss = d
  generalize f .deskStop = e
  revert a b c d e
  decide

theorem toNat_readTwo {n : Nat} (h : n < 65536) : (readTwo (byteOf (n / 256)) (byteOf n)).toNat = n := by
  have hn : (BitVec.ofNat 16 n).toNat = n := by rw [BitVec.toNat_ofNat]; omega
  have hread := readTwo_halfBytes (BitVec.ofNat 16 n)
  rw [hn] at hread
  rw [hread, hn]

/-! ### A STATUS as it is filed (R153, R158) -/

theorem readRoleData_pole {b : StatusBody} {v : Nat} (hv : v ≤ 1023) {p n : PoleState} {w : Band} {g : Bool}
    (h : (b.data0, b.data1, b.data2) = roleDataBytes (.pole v (some p) (some n) (some w) g)) :
    readRoleData (some .pole) b = .pole v (some p) (some n) (some w) g := by
  simp only [roleDataBytes, Prod.mk.injEq] at h
  obtain ⟨h0, h1, h2⟩ := h
  obtain ⟨hhigh, hband, hgap⟩ := poleData_read g w ⟨v / 256 % 4, Nat.mod_lt _ (by decide)⟩
  obtain ⟨hp, hn⟩ := poleStates_read p n
  have hlow : (byteOf v).toNat = v % 256 := BitVec.toNat_ofNat v 8
  simp only [readRoleData, h0, h1, h2, hhigh, hband, hgap, hp, hn, hlow, poleStateOfCode_code, bandOfCode_code]
  congr 1
  omega

theorem readRoleData_store {b : StatusBody} {o : Nat} {soc : Option Nat} (ho : o ≤ 2047) (hsoc : ∀ q ∈ soc, q ≤ 100)
    (h : (b.data0, b.data1, b.data2) = roleDataBytes (.store o soc)) : readRoleData (some .store) b = .store o soc := by
  simp only [roleDataBytes, Prod.mk.injEq] at h
  obtain ⟨h0, h1, h2⟩ := h
  have hoffer : min Figures.currentMax (readTwo b.data0 b.data1).toNat = o := by
    rw [h0, h1, toNat_readTwo (by omega)]
    exact min_eq_right ho
  have hcharge : (if b.data2 = 0xFF then none else some (min 100 b.data2.toNat)) = soc := by
    rw [h2]
    cases soc with
    | none => rfl
    | some q =>
      have hq := hsoc q rfl
      have hval : (byteOf q).toNat = q := toNat_byteOf (by omega)
      have hne : byteOf q ≠ 0xFF := fun heq => by
        have : q = 255 := hval.symm.trans (congrArg BitVec.toNat heq)
        omega
      simp only [if_neg hne, hval, min_eq_right hq]
  simp only [readRoleData, hoffer, hcharge]

/-- R100, R106: the role data of a station in range is read back from the bytes that state it. -/
theorem readRoleData_own {s : State} {b : StatusBody} (hv : s.ps.lineVoltage ≤ 1023)
    (hoffer : (s.latch battAvailChannel).value ≤ 2047) (hsoc : (s.latch socChannel).value ≤ 100)
    (h : (b.data0, b.data1, b.data2) = roleDataBytes s.ownRoleData) : readRoleData (some s.role) b = s.ownRoleData := by
  unfold State.ownRoleData at *
  cases hrole : s.role with
  | pole =>
    rw [hrole] at h
    exact readRoleData_pole hv h
  | store =>
    rw [hrole] at h
    refine readRoleData_store ?_ (fun q hq => ?_) h
    · unfold State.ownOffer
      split
      · exact hoffer
      · exact Nat.zero_le _
    · unfold State.ownSoc at hq
      split at hq
      · obtain rfl := Option.some.inj hq
        exact hsoc
      · cases hq
  | aux =>
    rw [hrole] at h
    simp only [roleDataBytes, Prod.mk.injEq] at h
    obtain ⟨h0, h1, -⟩ := h
    simp only [readRoleData, h0, h1]
  | traction => rfl
  | desk => rfl

/-- R158: a statement in range is filed as it was composed. -/
theorem readStatus_statusBody {t : Stated} {r : Role} {c : LineCondition} (hrole : t.role = some r)
    (hline : t.lineCondition = some c) (hsequence : t.sequence ≤ 255) (hcharge : t.charge ≤ 2047)
    (hallowance : t.allowance ≤ 2047) (hdrawn : t.drawn ≤ 2047) (hdepth : t.shedDepth ≤ 8)
    (hcauses : t.causes &&& 0x1F = t.causes) (hdata : readRoleData (some r) (statusBody t) = t.roleData) :
    readStatus (statusBody t) = t := by
  have hread : roleOfCode (statusBody t).role.toNat = some r := by
    simp only [statusBody, hrole]
    cases r <;> rfl
  obtain ⟨hcls, hcondition, hflag⟩ := flags_read t.overdrawFlag t.cls c
  have hflags : (statusBody t).flags =
      flagBit 7 t.overdrawFlag ||| (byteOf t.cls.val <<< 4) ||| byteOf (lineConditionCode c) := by
    simp only [statusBody, hline]
  have hseq : (statusBody t).sequence.toNat = t.sequence := toNat_byteOf (by omega)
  have hshed : min 8 (statusBody t).shedDepth.toNat = t.shedDepth := by
    show min 8 (byteOf t.shedDepth).toNat = t.shedDepth
    rw [toNat_byteOf (by omega)]
    exact min_eq_right hdepth
  have h1 : min Figures.currentMax (statusBody t).charge.toNat = t.charge := toNat_ofNat_current hcharge
  have h2 : min Figures.currentMax (statusBody t).allowance.toNat = t.allowance := toNat_ofNat_current hallowance
  have h3 : min Figures.currentMax (statusBody t).drawn.toNat = t.drawn := toNat_ofNat_current hdrawn
  have h4 : (statusBody t).causes &&& 0x1F = t.causes := hcauses
  simp only [readStatus, hread, hflags, hcls, hcondition, hflag, hseq, hshed, h1, h2, h3, h4, hdata,
    lineConditionOfCode_code]
  rw [← hrole, ← hline]

theorem shedDepth_le (s : State) : s.shedDepth ≤ 8 := List.length_filter_le _ eight

/-- Settles O18: each field of a STATUS by itself, its role data by the role. -/
theorem statedIsFiled : Obligations.StatedIsFiled := by
  refine ⟨fun n hn => readNotice_noticeBody ?_, fun s hsequence hcharge hallowance hdrawn hv hoffer hsoc => ?_⟩
  · rintro rfl
    cases hn
  · exact readStatus_statusBody (t := s.statement) rfl rfl hsequence hcharge hallowance hdrawn (shedDepth_le s)
      (causeSet_masked _) (readRoleData_own hv hoffer hsoc rfl)

end Machine
end Sys2Proof

/-!
PROOFS. What a reset leaves, and how the class fill divides a budget (R60, R61, R196, R202; O20, O21).
-/

namespace Sys2Proof
namespace Machine

/-! ### Resets (R196, R202) -/

theorem restarted_channel (c : ConfigStore) (high : Bool) (s : State) (k : Fin 8) :
    (s.restarted c high).channel k =
      ⟨false, false, if (cell c.settings.channels k).rating = 0 then .unused else .off, .none⟩ :=
  cell_mapCells _ _ k

theorem afterReset_restarted (c : ConfigStore) (high : Bool) (s : State) : AfterReset c high s (s.restarted c high) :=
  ⟨rfl, rfl, rfl, rfl, fun a => cell_replicate _ a, fun x => by cases x <;> rfl, rfl, rfl, rfl,
    fun i => cell_replicate _ i, fun k => cell_replicate _ k, rfl, rfl, rfl, restarted_channel c high s, rfl, rfl⟩

/-- R191: a RESET at a clear link is taken without an answer. -/
theorem exec_reset {s : State} (h : LinkClear s) : exec .reset s = .next (s.byteSeen.linkReset) :=
  congrArg Host.Outcome.next ((deliverRequest_clear (r := .reset) h (by decide)).trans rfl)

/-- Settles O21: each reset is the one restart over the configuration it keeps or clears. -/
theorem resetsLeaveValues : Obligations.ResetsLeaveValues := fun s _ =>
  ⟨⟨_, rfl, afterReset_restarted _ _ s⟩, ⟨_, rfl, afterReset_restarted _ _ s⟩, ⟨_, rfl, afterReset_restarted _ _ s⟩,
    fun h => ⟨_, exec_reset h, afterReset_restarted { s.cfs with resetCause := .link } s.pins.lrateHigh s⟩⟩

/-! ### The class fill (R61, R62) -/

/-- The charges of the classes before `c`. -/
def chargesBefore (l : List Demand) (c : Fin 4) : Nat := ((l.filter fun e => decide (e.cls < c)).map Demand.charge).sum

theorem classSum_cons (d : Demand) (l : List Demand) (c : Fin 4) :
    classSum (d :: l) c = (if d.cls = c then d.charge else 0) + classSum l c := by
  unfold classSum
  by_cases h : d.cls = c <;> simp [h]

theorem chargesBefore_cons (d : Demand) (l : List Demand) (c : Fin 4) :
    chargesBefore (d :: l) c = (if d.cls < c then d.charge else 0) + chargesBefore l c := by
  unfold chargesBefore
  by_cases h : d.cls < c <;> simp [h]

/-- The four classes, one after another. -/
theorem chargesBefore_eq (l : List Demand) :
    chargesBefore l 0 = 0 ∧ chargesBefore l 1 = classSum l 0 ∧ chargesBefore l 2 = classSum l 0 + classSum l 1 ∧
      chargesBefore l 3 = classSum l 0 + classSum l 1 + classSum l 2 ∧
      (l.map Demand.charge).sum = classSum l 0 + classSum l 1 + classSum l 2 + classSum l 3 := by
  induction l with
  | nil => exact ⟨rfl, rfl, rfl, rfl, rfl⟩
  | cons d l ih =>
    obtain ⟨charge, cls⟩ := d
    simp only [classSum_cons, chargesBefore_cons, List.map_cons, List.sum_cons]
    fin_cases cls <;> simp <;> omega

theorem remainderBefore_eq (l : List Demand) (budget : Nat) (c : Fin 4) :
    remainderBefore l budget c = budget - chargesBefore l c := by
  have hfill (r : Nat) (k : Fin 4) : fillClass l r k = r - classSum l k := by
    unfold fillClass
    split <;> omega
  obtain ⟨h0, h1, h2, h3, -⟩ := chargesBefore_eq l
  fin_cases c
  · exact (congrArg (budget - ·) h0).symm
  · exact (hfill budget 0).trans (congrArg (budget - ·) h1).symm
  · refine Eq.trans ?_ (congrArg (budget - ·) h2).symm
    show fillClass l (fillClass l budget 0) 1 = _
    rw [hfill, hfill, Nat.sub_sub]
  · refine Eq.trans ?_ (congrArg (budget - ·) h3).symm
    show fillClass l (fillClass l (fillClass l budget 0) 1) 2 = _
    rw [hfill, hfill, hfill, Nat.sub_sub, Nat.sub_sub, Nat.add_assoc]

theorem fillPart_eq (l : List Demand) (budget : Nat) (d : Demand) :
    fillPart l budget d =
      if classSum l d.cls ≤ budget - chargesBefore l d.cls then d.charge
      else d.charge * (budget - chargesBefore l d.cls) / classSum l d.cls := by
  rw [fillPart, remainderBefore_eq]

theorem sum_div_le (l : List Nat) (r n : Nat) : (l.map fun x => x * r / n).sum ≤ l.sum * r / n := by
  induction l with
  | nil => exact Nat.zero_le _
  | cons x l ih =>
    calc x * r / n + (l.map fun x => x * r / n).sum
        ≤ x * r / n + l.sum * r / n := Nat.add_le_add_left ih _
      _ ≤ (x * r + l.sum * r) / n := Nat.div_add_div_le_add_div
      _ = (x :: l).sum * r / n := by rw [List.sum_cons, Nat.add_mul]

/-- What the elements of a class receive together. -/
def classPart (l : List Demand) (budget : Nat) (c : Fin 4) : Nat :=
  ((l.filter fun e => e.cls == c).map (fillPart l budget)).sum

/-- R62: a class receives no more than its charges and no more than what is left for it. -/
theorem classPart_le (l : List Demand) (budget : Nat) (c : Fin 4) :
    classPart l budget c ≤ classSum l c ∧ classPart l budget c ≤ budget - chargesBefore l c := by
  set r := budget - chargesBefore l c with hr
  have hmap : (l.filter fun e => e.cls == c).map (fillPart l budget) =
      (l.filter fun e => e.cls == c).map fun d => if classSum l c ≤ r then d.charge else d.charge * r / classSum l c := by
    refine List.map_congr_left fun d hd => ?_
    obtain rfl : d.cls = c := beq_iff_eq.1 (List.mem_filter.1 hd).2
    exact fillPart_eq l budget d
  unfold classPart
  rw [hmap]
  by_cases h : classSum l c ≤ r
  · simp only [if_pos h]
    exact ⟨le_refl _, h⟩
  · simp only [if_neg h]
    have hsum := sum_div_le ((l.filter fun e => e.cls == c).map Demand.charge) r (classSum l c)
    rw [List.map_map] at hsum
    have hquot : classSum l c * r / classSum l c = r := Nat.mul_div_cancel_left r (by omega)
    have hle := hsum.trans_eq hquot
    exact ⟨hle.trans (by omega), hle⟩

theorem sum_classes (f : Demand → Nat) (l : List Demand) :
    (l.map f).sum = ((l.filter fun e => e.cls == 0).map f).sum + ((l.filter fun e => e.cls == 1).map f).sum +
      ((l.filter fun e => e.cls == 2).map f).sum + ((l.filter fun e => e.cls == 3).map f).sum := by
  induction l with
  | nil => rfl
  | cons d l ih =>
    obtain ⟨charge, cls⟩ := d
    fin_cases cls <;> simp [ih] <;> omega

theorem fillPart_sum_le (l : List Demand) (budget : Nat) : (l.map (fillPart l budget)).sum ≤ budget := by
  have hsum : (l.map (fillPart l budget)).sum =
      classPart l budget 0 + classPart l budget 1 + classPart l budget 2 + classPart l budget 3 := sum_classes _ l
  obtain ⟨h0, h1, h2, h3, -⟩ := chargesBefore_eq l
  have p0 := classPart_le l budget 0
  have p1 := classPart_le l budget 1
  have p2 := classPart_le l budget 2
  have p3 := classPart_le l budget 3
  omega

/-- The charges up to a class are among those before a later class, and among all. -/
theorem chargesBefore_add_le (l : List Demand) (c : Fin 4) :
    chargesBefore l c + classSum l c ≤ (l.map Demand.charge).sum ∧
      ∀ e : Fin 4, c < e → chargesBefore l c + classSum l c ≤ chargesBefore l e := by
  obtain ⟨h0, h1, h2, h3, h4⟩ := chargesBefore_eq l
  refine ⟨by fin_cases c <;> simp only [Fin.zero_eta, Fin.mk_one, Fin.reduceFinMk] <;> omega, fun e he => ?_⟩
  fin_cases c <;> fin_cases e <;> simp only [Fin.zero_eta, Fin.mk_one, Fin.reduceFinMk] at he ⊢ <;> omega

/-- Settles O20: a class's charges against what the earlier classes leave decide between whole charges and quotients. -/
theorem classFillFits : Obligations.ClassFillFits := by
  intro l budget
  refine ⟨fillPart_sum_le l budget, fun d _ => fillPart_le l budget d, fun hfits d _ => ?_, fun d _ hcut e he hlater => ?_,
    fun d hd => ?_⟩
  · rw [fillPart_eq, if_pos]
    obtain ⟨hall, -⟩ := chargesBefore_add_le l d.cls
    omega
  · have hover : ¬classSum l d.cls ≤ budget - chargesBefore l d.cls := by
      intro hfits
      rw [fillPart_eq, if_pos hfits] at hcut
      exact lt_irrefl _ hcut
    have hbefore := (chargesBefore_add_le l d.cls).2 e.cls hlater
    have hnone : budget - chargesBefore l e.cls = 0 := by omega
    have hcharge := charge_le_classSum l e he
    rw [fillPart_eq, hnone, Nat.mul_zero, Nat.zero_div]
    split <;> omega
  · have hcharge := charge_le_classSum l d hd
    have hown : ((l.filter fun e => decide (e.cls = d.cls)).map Demand.charge).sum = classSum l d.cls := rfl
    show fillPart l budget d =
      if chargesBefore l d.cls + ((l.filter fun e => decide (e.cls = d.cls)).map Demand.charge).sum ≤ budget then d.charge
      else d.charge * (budget - chargesBefore l d.cls) / ((l.filter fun e => decide (e.cls = d.cls)).map Demand.charge).sum
    rw [hown, fillPart_eq]
    by_cases hnone : classSum l d.cls = 0
    · have hzero : d.charge = 0 := by omega
      simp [hzero]
    · by_cases hfits : chargesBefore l d.cls + classSum l d.cls ≤ budget
      · rw [if_pos hfits, if_pos (by omega)]
      · rw [if_neg hfits, if_neg (by omega)]

end Machine
end Sys2Proof

/-!
PROOFS. The mode and the configuration: what a request makes of them, alone or in a run of the link's takings (R116,
R191, R198 to R202; O12, O13).
-/

namespace Sys2Proof
namespace Machine

section Modes

variable {s t : State} {r : Request}

/-! ### A request's effect on the mode (R190, R191, R201) -/

/-- What a JOIN taken leaves. -/
def JoinTaken (s t : State) : Prop :=
  s.rsq.mode = .config ∧ t.rsq.mode = .listen ∧ t.cfs.valid = true ∧ t.cfs.settings = s.cfs.settings ∧
    firstFailed (joinChecks t.cfs.settings) = none

/-- What a RESET taken leaves. -/
def ResetTaken (s t : State) : Prop :=
  t.rsq = State.reset.rsq ∧ t.cfs.resetCause = .link ∧ t.cfs.settings = s.cfs.settings

/-- The mode stands, and outside CONFIG the settings. -/
def ModeStands (s t : State) : Prop :=
  t.rsq.mode = s.rsq.mode ∧ (s.rsq.mode ≠ .config → t.cfs = s.cfs)

theorem effect_join (hj : s.judge .join = none) : JoinTaken s (s.effect .join) := by
  obtain ⟨-, hmode, -, -, hclear⟩ := (judge_eq_none_iff .join s).1 hj
  have hjoin : s.join.cfs = { s.cfs with valid := true } ∧ s.join.rsq.mode = .listen := by
    rw [join_eq]
    exact ⟨by simp, by simp⟩
  have hcfs : (s.effect .join).cfs = { s.cfs with valid := true } := by
    show (s.join.finish s).cfs = _
    simp [hjoin.1]
  refine ⟨beq_iff_eq.1 hmode, ?_, by rw [hcfs], by rw [hcfs], ?_⟩
  · show (s.join.finish s).rsq.mode = _
    simp [hjoin.2]
  · rw [hcfs]
    simpa [State.obstacle] using hclear

theorem effect_mode (hj : s.judge r = none) (hjoin : r ≠ .join) (hreset : r ≠ .reset) : ModeStands s (s.effect r) := by
  have kept {t : State} (hmode : t.rsq.mode = s.rsq.mode) (hcfs : t.cfs = s.cfs) : ModeStands s t :=
    ⟨hmode, fun _ => hcfs⟩
  cases r with
  | configWrite record items =>
    have hconfig : s.rsq.mode = .config := beq_iff_eq.1 (judge_mode hj)
    show ModeStands s (if items.isEmpty then s else (s.writeConfig record.toNat (items.map BitVec.toNat)).finish s)
    split
    · exact kept rfl rfl
    · exact ⟨by simp, fun h => absurd hconfig h⟩
  | join => exact absurd rfl hjoin
  | reset => exact absurd rfl hreset
  | setDemand a => exact kept (by simp [State.effect]) (by simp [State.effect])
  | setChannel k a => exact kept (by simp [State.effect]) (by simp [State.effect])
  | sendNotice n =>
    show ModeStands s (if s.noticeWaiting n then s else s.enqueueNotice n)
    split <;> exact kept rfl rfl
  | poleCommand a ps => exact kept (by simp [State.effect]) (by simp [State.effect])
  | _ => exact kept rfl rfl

theorem modeStands_answer (s : State) (m : List Byte) : ModeStands s (s.answer m) := ⟨rfl, fun _ => rfl⟩

theorem ModeStands.answer (h : ModeStands s t) (m : List Byte) : ModeStands s (t.answer m) := h

theorem JoinTaken.answer (h : JoinTaken s t) (m : List Byte) : JoinTaken s (t.answer m) := h

theorem resetTaken_linkReset (s : State) : ResetTaken s s.linkReset := ⟨rfl, rfl, rfl⟩

/-- What a request brought to the part makes of the mode. -/
def RequestMode (r : Request) (s t : State) : Prop :=
  ModeStands s t ∨ r = .reset ∧ ResetTaken s t ∨ r = .join ∧ JoinTaken s t

theorem takeRequest_mode (r : Request) (s : State) : RequestMode r s (s.takeRequest r) := by
  rcases takeRequest_cases r s with ⟨code, n, -, e⟩ | ⟨-, hr, e⟩ | ⟨hj, hr, e⟩ <;> rw [e]
  · exact .inl (modeStands_answer s _)
  · exact .inr (.inl ⟨hr, resetTaken_linkReset s⟩)
  · by_cases hjoin : r = .join
    · subst hjoin
      exact .inr (.inr ⟨rfl, (effect_join hj).answer _⟩)
    · exact .inl ((effect_mode hj hjoin hr).answer _)

theorem takeParsed_mode (type : Byte) (payload : List Byte) (s : State) :
    ModeStands s (s.takeParsed type payload) ∨
      ∃ r, parseRequest type payload = .ok r ∧ RequestMode r s (s.takeParsed type payload) := by
  cases h : parseRequest type payload with
  | error code =>
    rw [takeParsed_error h]
    exact .inl (modeStands_answer s _)
  | ok r =>
    rw [takeParsed_ok h]
    exact .inr ⟨r, rfl, takeRequest_mode r s⟩

/-! ### Whole messages -/

/-- What a message makes of the mode. -/
def MessageMode (c : Instr) (s t : State) : Prop :=
  ModeStands s t ∨ Brings .reset c ∧ ResetTaken s t ∨ Brings .join c ∧ JoinTaken s t

theorem RequestMode.message {c : Instr} (h : RequestMode r s t) (hreset : r = .reset → Brings .reset c)
    (hjoin : r = .join → Brings .join c) : MessageMode c s t :=
  h.imp id (Or.imp (And.imp_left hreset) (And.imp_left hjoin))

theorem delivered_mode {c : Instr} (h : LinkClear s) (hlen : (requestPayload r).length ≤ Figures.payloadMax)
    (hreset : r = .reset → c = .reset) (hjoin : r = .join → c = .join) : MessageMode c s (s.deliverRequest r) := by
  rw [deliverRequest_clear h hlen]
  exact RequestMode.message (s := s) (takeRequest_mode r s.byteSeen) (fun hr => .inr (.inl ⟨rfl, hreset hr⟩))
    (fun hr => .inl ⟨rfl, hjoin hr⟩)

theorem linkClear_sense (h : LinkClear s) (line : LineLevel) : LinkClear (s.sense line) := by
  rw [linkClear_iff] at *
  simpa [State.answerRoom] using h

/-- The mode stands in what a POLE_COMMAND leaves. -/
theorem poleCommand_mode (h : LinkClear s) (a : PoleAction) (ps : PoleSel) (line : LineLevel) :
    ModeStands s ((s.sense line).deliverRequest (.poleCommand a ps)).examineBreak := by
  rw [deliverRequest_clear (linkClear_sense h line) (by simp [requestPayload, Figures.payloadMax])]
  rcases takeRequest_mode (.poleCommand a ps) (s.sense line).byteSeen with ⟨hmode, hcfs⟩ | ⟨hr, -⟩ | ⟨hr, -⟩
  · have hseen : (s.sense line).byteSeen.rsq.mode = s.rsq.mode := (sense_rounds s line).1
    have hkept : (s.sense line).byteSeen.cfs = s.cfs := (sense_frame s line).2.1
    rw [hseen] at hmode hcfs
    rw [hkept] at hcfs
    exact ⟨by simpa using hmode, fun hm => by simpa using hcfs hm⟩
  · cases hr
  · cases hr

/-- The commands that bring a message: one that is no request, a POLE_COMMAND, or the row of another request. -/
theorem message_cases {c : Instr} (hm : isMessage c = true) (hwf : c.wf = true) :
    (∃ m, c = .badMessage m) ∨ (∃ a ps line, c = .poleCommand a ps line) ∨
      ∃ r, isBare r = true ∧ (requestPayload r).length ≤ Figures.payloadMax ∧ c = commandOf .recessive r := by
  have row {c : Instr} (r : Request) (hbare : isBare r = true) (hlen : (requestPayload r).length ≤ Figures.payloadMax)
      (hc : c = commandOf .recessive r) : (∃ m, c = .badMessage m) ∨ (∃ a ps line, c = .poleCommand a ps line) ∨
      ∃ r, isBare r = true ∧ (requestPayload r).length ≤ Figures.payloadMax ∧ c = commandOf .recessive r :=
    .inr (.inr ⟨r, hbare, hlen, hc⟩)
  have short {n : Nat} (h : n ≤ 4) : n ≤ Figures.payloadMax := h.trans (by decide)
  cases c with
  | badMessage m => exact .inl ⟨m, rfl⟩
  | poleCommand a ps line => exact .inr (.inl ⟨a, ps, line, rfl⟩)
  | configWrite record items =>
    refine row (.configWrite record items) rfl ?_ rfl
    have hfits : 2 * items.length + 1 ≤ Figures.payloadMax := of_decide_eq_true hwf
    simpa [requestPayload, Function.comp_def, Nat.mul_comm] using hfits
  | join => exact row .join rfl (short (by decide)) rfl
  | reset => exact row .reset rfl (short (by decide)) rfl
  | readStation => exact row .readStation rfl (short (by decide)) rfl
  | readPeer a => exact row (.readPeer a) rfl (short (by simp [requestPayload])) rfl
  | readAlarms i => exact row (.readAlarms i) rfl (short (by simp [requestPayload])) rfl
  | readPoles => exact row .readPoles rfl (short (by decide)) rfl
  | readChannels => exact row .readChannels rfl (short (by decide)) rfl
  | readIo => exact row .readIo rfl (short (by decide)) rfl
  | readChanges => exact row .readChanges rfl (short (by decide)) rfl
  | setAttnMask m => exact row (.setAttnMask m) rfl (short (by simp [requestPayload])) rfl
  | setOutput o on => exact row (.setOutput o on) rfl (short (by simp [requestPayload])) rfl
  | setDemand a => exact row (.setDemand a) rfl (short (by simp [requestPayload])) rfl
  | setChannelRequest k => exact row (.setChannel k .request) rfl (short (by simp [requestPayload])) rfl
  | setChannelRelease k => exact row (.setChannel k .release) rfl (short (by simp [requestPayload])) rfl
  | setChannelMask k => exact row (.setChannel k .mask) rfl (short (by simp [requestPayload])) rfl
  | setChannelUnmask k => exact row (.setChannel k .unmask) rfl (short (by simp [requestPayload])) rfl
  | setChannelShed k => exact row (.setChannel k .shed) rfl (short (by simp [requestPayload])) rfl
  | setLowest k => exact row (.setChannel k .setLowest) rfl (short (by simp [requestPayload])) rfl
  | sendNotice n => exact row (.sendNotice n) rfl (short (by simp [requestPayload])) rfl
  | _ => cases hm

theorem exec_message_mode {c : Instr} (hm : isMessage c = true) (h : LinkClear s) (hwf : c.wf = true)
    (ht : exec c s = .next t) : MessageMode c s t := by
  rcases message_cases hm hwf with ⟨m, rfl⟩ | ⟨a, ps, line, rfl⟩ | ⟨r, hbare, hlen, rfl⟩
  · cases m with
    | damaged type =>
      rw [exec_badMessage_damaged h] at ht
      injection ht with ht
      exact ht ▸ .inl (modeStands_answer s.byteSeen _)
    | whole type payload check =>
      rw [exec_badMessage_whole h type check (of_decide_eq_true hwf)] at ht
      injection ht with ht
      subst ht
      split
      · rcases takeParsed_mode type payload s.byteSeen with hstands | ⟨r, hr, hmode⟩
        · exact .inl hstands
        · exact RequestMode.message hmode (fun e => .inr (.inr (.inl ⟨type, payload, check, rfl, e ▸ hr⟩)))
            (fun e => .inr (.inr (.inl ⟨type, payload, check, rfl, e ▸ hr⟩)))
      · exact .inl (modeStands_answer s.byteSeen _)
  · rw [exec_poleCommand] at ht
    injection ht with ht
    exact ht ▸ .inl (poleCommand_mode h a ps line)
  · rw [exec_commandOf hbare] at ht
    injection ht with ht
    exact ht ▸ delivered_mode h hlen (fun e => by rw [e]; rfl) (fun e => by rw [e]; rfl)

/-! ### Runs of the link (R187, R188) -/

/-- What the takings of one event of the link make of the mode; after a RESET nothing is left to take. -/
def RunMode (s t : State) : Prop :=
  ModeStands s t ∨
    (t.rsq = State.reset.rsq ∧ t.cfs.resetCause = .link) ∧
      (s.rsq.mode ≠ .config → t.cfs.settings = s.cfs.settings) ∧ t.sl.rx = [] ∧ t.sl.assembler = .hunting ∨
    s.rsq.mode = .config ∧ t.rsq.mode = .listen ∧ t.cfs.valid = true ∧ firstFailed (joinChecks t.cfs.settings) = none

/-- What an event of the link makes of the mode. -/
def LinkMode (s t : State) : Prop :=
  ModeStands s t ∨
    (t.rsq = State.reset.rsq ∧ t.cfs.resetCause = .link) ∧ (s.rsq.mode ≠ .config → t.cfs.settings = s.cfs.settings) ∨
    s.rsq.mode = .config ∧ t.rsq.mode = .listen ∧ t.cfs.valid = true ∧ firstFailed (joinChecks t.cfs.settings) = none

theorem ModeStands.settings (h : ModeStands s t) (hm : s.rsq.mode ≠ .config) : t.cfs.settings = s.cfs.settings := by
  rw [h.2 hm]

theorem ModeStands.trans {u : State} (h : ModeStands s t) (g : ModeStands t u) : ModeStands s u :=
  ⟨g.1.trans h.1, fun hm => (g.2 (h.1 ▸ hm)).trans (h.2 hm)⟩

/-- A step of the run that moves no mode and, outside CONFIG, no setting. -/
theorem RunMode.stands {u : State} (h : RunMode s t) (g : ModeStands t u) (hwork : t.sl.rx ≠ [] ∨ t.sl.assembler = .complete) :
    RunMode s u := by
  rcases h with h | ⟨-, -, hrx, ha⟩ | ⟨hm, hlisten, hvalid, hchecks⟩
  · exact .inl (h.trans g)
  · simp [hrx, ha] at hwork
  · have hcfs : u.cfs = t.cfs := g.2 (by rw [hlisten]; decide)
    exact .inr (.inr ⟨hm, g.1.trans hlisten, by rw [hcfs, hvalid], by rw [hcfs, hchecks]⟩)

theorem RunMode.settings (h : RunMode s t) (hm : s.rsq.mode ≠ .config) : t.cfs.settings = s.cfs.settings := by
  rcases h with h | ⟨-, h, -⟩ | ⟨h, -⟩
  · exact h.settings hm
  · exact h hm
  · exact absurd h hm

theorem runMode_linkRun (h : LinkRun s t) : RunMode s t := by
  induction h with
  | start => exact .inl ⟨rfl, fun _ => rfl⟩
  | assembled _ _ hrx ih => exact ih.stands ⟨rfl, fun _ => rfl⟩ (.inl (by rw [hrx]; simp))
  | refused _ _ _ _ hc _ ih => exact ih.stands (modeStands_answer _ _) (.inr hc)
  | @taken t r _ hc _ hj hr ih =>
    by_cases hjoin : r = .join
    · subst hjoin
      obtain ⟨hm, hlisten, hvalid, -, hchecks⟩ :=
        (effect_join hj).answer (replyMessage (requestType .join) (replyData .join t (t.effect .join)))
      rcases ih with ⟨hmode, -⟩ | ⟨-, -, -, ha⟩ | ⟨-, hlisten', -⟩
      · exact .inr (.inr ⟨hmode.symm.trans hm, hlisten, hvalid, hchecks⟩)
      · rw [hc] at ha; cases ha
      · rw [hm] at hlisten'; cases hlisten'
    · exact ih.stands ((effect_mode hj hjoin hr).answer _) (.inr hc)
  | @reset t _ _ ih =>
    obtain ⟨hrsq, hcause, hsettings⟩ := resetTaken_linkReset t
    exact .inr (.inl ⟨⟨hrsq, hcause⟩, fun hm => hsettings.trans (ih.settings hm), rfl, rfl⟩)

theorem linkMode_of_run {w v : State} (hmode : w.rsq.mode = s.rsq.mode) (hcfs : w.cfs = s.cfs) (h : LinkRun w v) :
    LinkMode s v := by
  rcases runMode_linkRun h with hstands | ⟨hreset, hsettings, -⟩ | hjoin
  · exact .inl (ModeStands.trans ⟨hmode, fun _ => hcfs⟩ hstands)
  · rw [hmode, hcfs] at hsettings
    exact .inr (.inl ⟨hreset, hsettings⟩)
  · rw [hmode] at hjoin
    exact .inr (.inr hjoin)

theorem LinkMode.examineBreak (h : LinkMode s t) : LinkMode s t.examineBreak := by
  simpa only [LinkMode, ModeStands, examineBreak_frame] using h

theorem storeByte_blocks (b : Byte) (stopOk : Bool) (s : State) :
    (s.storeByte b stopOk).rsq = s.rsq ∧ (s.storeByte b stopOk).cfs = s.cfs := by
  rw [storeByte_eq]
  exact ⟨rfl, rfl⟩

theorem seen_blocks (levels : LinkLevels) (s : State) :
    (s.seen levels).rsq.mode = s.rsq.mode ∧ (s.seen levels).cfs = s.cfs := by
  simp [State.seen, State.strapped]

theorem exec_linkByte_mode {c : Instr} (hc : isLinkByte c = true) (ht : exec c s = .next t) : LinkMode s t := by
  cases c with
  | linkByteReceived b stopOk levels =>
    injection ht with ht
    obtain ⟨hmode, hcfs⟩ := seen_blocks levels s
    obtain ⟨hrsq, hcfs'⟩ := storeByte_blocks b stopOk (s.seen levels)
    exact ht ▸ (linkMode_of_run (by rw [hrsq, hmode]) (hcfs'.trans hcfs) (linkRun_runLink _)).examineBreak
  | idleTimerExpiry =>
    injection ht with ht
    subst ht
    split
    · have hmark : ((s.withSl { s.sl with idleTimer := none }).placeMark .gapMark).rsq = s.rsq ∧
          ((s.withSl { s.sl with idleTimer := none }).placeMark .gapMark).cfs = s.cfs := by
        unfold State.placeMark
        split <;> exact ⟨rfl, rfl⟩
      exact linkMode_of_run (congrArg Sequencer.mode hmark.1) hmark.2 (linkRun_runLink _)
    · exact .inl ⟨rfl, fun _ => rfl⟩
  | transmitByteStart cts levels =>
    rw [exec_transmitByteStart] at ht
    injection ht with ht
    subst ht
    have hoffered : (s.offered cts levels).rsq.mode = s.rsq.mode ∧ (s.offered cts levels).cfs = s.cfs := seen_blocks levels s
    split
    · have hrun : LinkMode s (s.offered cts levels).startByte := by
        unfold State.startByte
        split
        next b rest hstx htx =>
          exact linkMode_of_run (w := (s.offered cts levels).withSl { (s.offered cts levels).sl with stx := some b, tx := rest })
            hoffered.1 hoffered.2 (linkRun_runLink _)
        · exact .inl ⟨hoffered.1, fun _ => hoffered.2⟩
      exact hrun.examineBreak
    · exact LinkMode.examineBreak (.inl ⟨hoffered.1, fun _ => hoffered.2⟩)
  | stxByteEnd =>
    injection ht with ht
    exact ht ▸ .inl ⟨rfl, fun _ => rfl⟩
  | _ => cases hc

/-! ### Every command -/

/-- An event leaves the configuration, and moves the mode as its table has it. -/
theorem exec_event_mode {c : Instr} (hc : endsEvent c = true) (ht : exec c s = .next t) :
    t.cfs = s.cfs ∧ EventMode c s t := by
  rw [exec_event hc] at ht
  injection ht with ht
  subst ht
  cases hb : s.body c with
  | none =>
    rw [afterEvent_none hb]
    exact ⟨rfl, .inl rfl⟩
  | some u =>
    rw [afterEvent_some hb]
    obtain ⟨-, hcfs⟩ := body_pending hb
    have hmode := body_mode hb
    refine ⟨by simpa using hcfs, ?_⟩
    simpa only [EventMode, finish_rounds] using hmode

theorem exec_discarded_mode {n : Nat} (ht : exec (.sampleWordDiscarded n) s = .next t) : t.cfs = s.cfs ∧ t.rsq = s.rsq := by
  injection ht with ht
  subst ht
  split <;> exact ⟨rfl, rfl⟩

/-- The commands by what they bring. -/
theorem command_cases (c : Instr) :
    endsEvent c = true ∨ (∃ n, c = .sampleWordDiscarded n) ∨ isPinReset c = true ∨ isLinkByte c = true ∨ isMessage c = true := by
  cases c <;> simp [endsEvent, isPinReset, isLinkByte, isMessage, isEvent, isInput]

end Modes

/-- Settles O12: outside CONFIG no CONFIG_WRITE is taken, and no other command but a power-on reset replaces the settings. -/
theorem configFrozen : Obligations.ConfigFrozen := by
  intro c s t hm hmessage ht
  rcases command_cases c with hc | ⟨n, rfl⟩ | hc | hc | hc
  · exact .inl (by rw [(exec_event_mode hc ht).1])
  · exact .inl (by rw [(exec_discarded_mode ht).1])
  · cases c with
    | powerOnReset high =>
      injection ht with ht
      exact .inr ⟨.inl ⟨high, rfl⟩, ht ▸ rfl⟩
    | pinReset high inPowerOn =>
      injection ht with ht
      subst ht
      cases inPowerOn
      · exact .inl rfl
      · exact .inr ⟨.inr ⟨high, rfl⟩, rfl⟩
    | _ => cases hc
  · rcases exec_linkByte_mode hc ht with h | ⟨-, h⟩ | ⟨h, -⟩
    · exact .inl (h.settings hm)
    · exact .inl (h hm)
    · exact absurd h hm
  · obtain ⟨hclear, hwf⟩ := hmessage hc
    rcases exec_message_mode hc hclear hwf ht with h | ⟨-, -, -, h⟩ | ⟨-, h, -⟩
    · exact .inl (h.settings hm)
    · exact .inl h
    · exact absurd h hm

/-- Settles O13: the requests move the mode by JOIN and RESET, the events by their table. -/
theorem modeChanges : Obligations.ModeChanges := by
  intro c s t hmessage ht
  rcases command_cases c with hc | ⟨n, rfl⟩ | hc | hc | hc
  · rcases (exec_event_mode hc ht).2 with h | h
    · exact .inl h
    · exact .inr (.inr (.inr h))
  · exact .inl (by rw [(exec_discarded_mode ht).2])
  · refine .inr (.inl ⟨?_, .inl hc⟩)
    cases c with
    | powerOnReset high =>
      injection ht with ht
      exact ht ▸ rfl
    | pinReset high inPowerOn =>
      injection ht with ht
      subst ht
      cases inPowerOn <;> rfl
    | _ => cases hc
  · have brings (r : Request) : Brings r c := .inr (.inr (.inr hc))
    rcases exec_linkByte_mode hc ht with ⟨h, -⟩ | ⟨⟨hrsq, hcause⟩, -⟩ | ⟨hm, hlisten, hvalid, hchecks⟩
    · exact .inl h
    · exact .inr (.inl ⟨by rw [hrsq]; rfl, .inr ⟨brings _, hcause, hrsq⟩⟩)
    · exact .inr (.inr (.inl ⟨hm, hlisten, brings _, hvalid, hchecks, fun h => absurd hc (by rw [h]; decide)⟩))
  · obtain ⟨hclear, hwf⟩ := hmessage hc
    rcases exec_message_mode hc hclear hwf ht with ⟨h, -⟩ | ⟨hbrings, hrsq, hcause, -⟩ | ⟨hbrings, hm, hlisten, hvalid, hsame, hchecks⟩
    · exact .inl h
    · exact .inr (.inl ⟨by rw [hrsq]; rfl, .inr ⟨hbrings, hcause, hrsq⟩⟩)
    · exact .inr (.inr (.inl ⟨hm, hlisten, hbrings, hvalid, hchecks, fun _ => hsame⟩))

end Machine
end Sys2Proof

/-!
PROOFS. SET_DEMAND and SET_CHANNEL: what they ask of the current and of the channels, and the event's end that follows
(R53, R54, R77 to R89, R97; O30, O31).
-/

namespace Sys2Proof
namespace Machine

section Requests

variable {s t : State} {r : Request}

theorem replied_answered (s t : State) (r : Request) (hmask : t.sl.mask = s.sl.mask) :
    AnsweredWith (replyBytes (requestType r) (replyData r s t)) s (s.replied r t) := by
  unfold AnsweredWith State.replied
  simp [answered, hmask]

theorem finishBut_iou (skip : Option (Fin 8)) (u old : State) :
    (u.finishBut skip old).iou = { u.iou with outputs := (u.finishBut skip old).iou.outputs } := by
  have hb : (u.blocksEnd old).iou = u.iou := by simp
  have hi : (u.finishBut skip old).iou = (u.blocksEnd old).driveOutputs.iou := by simp [State.finishBut]
  rw [hi]
  simp only [State.driveOutputs, withIou_iou, hb]

/-- What a change of the poles, the alarms, the current or the channels leaves once its event has ended. -/
theorem currentFrame_finishBut {u : State} (skip : Option (Fin 8)) (hp : u.pending = s.pending) (hcfs : u.cfs = s.cfs)
    (hpt : u.pt = s.pt) (hiou : u.iou = s.iou) (hpins : u.pins = s.pins) (hrsq : RoundsKept s u) :
    CurrentFrame s (u.finishBut skip s) := by
  obtain ⟨fp, fcfs, fpt⟩ := finishBut_frame u skip s
  refine ⟨fp.trans hp, fcfs.trans hcfs, fpt.trans hpt, ?_, (SamePins.of_pins hpins).trans (samePins_finishBut skip u s),
    hrsq.trans (roundsKept_finishBut skip u s)⟩
  unfold SameInputs
  rw [finishBut_iou, hiou]

theorem finishBut_mask (skip : Option (Fin 8)) (u old : State) : (u.finishBut skip old).sl.mask = u.sl.mask := by
  obtain ⟨h, -⟩ := topicsGrow_finishBut skip u old
  rw [h]

/-- R53, R61, R62: the share is a part of the own charge. -/
theorem CurrentEnd.share_le {u t : State} (h : CurrentEnd u t) : t.ca.share ≤ t.ca.ownCharge := by
  rw [h.share]
  exact formShare_le _ _ _

/-- Settles O30: the demand is held clamped, and the event's end judges the current from it. -/
theorem demandSet : Obligations.DemandSet := by
  intro s amperes h hm
  have hj : s.judge (.setDemand amperes) = none := judge_obstacle rfl (bne_iff_ne.2 hm) rfl rfl
  have hrun := exec_replied h (r := .setDemand amperes) rfl (by simp) (by simp [requestPayload, Figures.payloadMax]) hj .recessive
  set u := s.takeDemand amperes.toNat with hu
  have hend : CurrentEnd u (u.finish s) := currentEnd_finish s hm
  have hdata : replyData (.setDemand amperes) s (u.finish s) = twoBytes (min 2047 amperes.toNat) :=
    congrArg twoBytes hend.demand
  have hzero : min Figures.currentMax amperes.toNat = 0 ↔ amperes = 0 := by
    simp only [Figures.currentMax, ← BitVec.toNat_inj, BitVec.ofNat_eq_ofNat, BitVec.toNat_ofNat]
    omega
  refine ⟨_, hrun, hend.demand, ?_, hend.chargeBefore, hend.share_le, hend.allowance, hend.sheds, ?_, ?_⟩
  · refine hend.hold.trans ?_
    simp only [hu, State.takeDemand, withCa_ca, hzero, Timer.started]
  · exact currentFrame_finishBut none rfl rfl rfl rfl rfl (.of_rsq rfl)
  · exact hdata ▸ replied_answered s (u.finish s) (.setDemand amperes) (finishBut_mask none u s)

/-! ### SET_CHANNEL (R77 to R89, R97) -/

/-- A channel that is not ON is shed by no rule. -/
theorem Shedding.eq_of_not_on {c d : Channel} (h : Shedding c d) (hc : c.state ≠ .on) : d = c := by
  rcases h with h | ⟨hon, -⟩
  · exact h
  · exact absurd hon hc

theorem onChannel_channel (k j : Fin 8) (f : Channel → Channel) (s : State) :
    (s.onChannel k f).channel j = if j = k then f (s.channel k) else s.channel j := by
  by_cases h : j = k
  · subst h
    simp [State.onChannel]
  · rw [if_neg h]
    exact channel_withChannel_ne s _ h

/-- The record that an action leaves its channel, before the event's end. -/
def actedChannel (k : Fin 8) (a : ChannelAction) (s : State) : Channel :=
  match a with
  | .request => if (s.channelCfg k).source = .inputLevel then s.channel k else (s.channel k).request
  | .release => if (s.channelCfg k).source = .inputLevel then s.channel k else (s.channel k).release
  | .mask => (s.channel k).mask
  | .unmask => (s.channel k).unmask
  | .shed => (s.channel k).shedOnRequest
  | .setLowest => s.channel k

theorem channelAction_channel (k j : Fin 8) (a : ChannelAction) (s : State) :
    (s.channelAction k a).channel j = if j = k then actedChannel k a s else s.channel j := by
  have same : s.channel j = if j = k then s.channel k else s.channel j := by
    split
    next h => rw [h]
    next => rfl
  cases a with
  | request =>
    simp only [State.channelAction, State.requestChannel, actedChannel]
    split
    · exact same
    · exact onChannel_channel k j _ s
  | release =>
    simp only [State.channelAction, State.releaseChannel, actedChannel]
    split
    · exact same
    · exact onChannel_channel k j _ s
  | mask | unmask | shed => exact onChannel_channel k j _ s
  | setLowest => exact same

section Acted

variable {k : Fin 8} {d : Channel}

theorem acted_request (hu : (s.channel k).state ≠ .unused) (h : Shedding (actedChannel k .request s) d) :
    if (s.channelCfg k).source = .inputLevel ∨ (s.channel k).requested = true then Shedding (s.channel k) d
    else
      ((s.channel k).state = .off → d = { s.channel k with requested := true, state := .waiting }) ∧
        ((s.channel k).state = .held → d = { s.channel k with requested := true }) := by
  simp only [actedChannel, Channel.request] at h
  by_cases hs : (s.channelCfg k).source = .inputLevel
  · rw [if_pos hs] at h
    rw [if_pos (.inl hs)]
    exact h
  · rw [if_neg hs] at h
    by_cases hr : (s.channel k).requested = true
    · rw [if_pos (.inr hr)]
      simpa [hr] using h
    · rw [if_neg (by simp [hs, hr])]
      rw [if_neg (by simp [hu, hr])] at h
      refine ⟨fun hoff => ?_, fun hheld => ?_⟩
      · rw [if_pos hoff] at h
        exact h.eq_of_not_on (by simp)
      · rw [if_neg (by rw [hheld]; decide)] at h
        exact h.eq_of_not_on (by rw [hheld]; decide)

theorem acted_release (hu : (s.channel k).state ≠ .unused) (h : Shedding (actedChannel k .release s) d) :
    if (s.channelCfg k).source = .inputLevel ∨ (s.channel k).requested = false then Shedding (s.channel k) d
    else
      d = if (s.channel k).state = .held ∨ (s.channel k).state = .off then { s.channel k with requested := false }
        else { s.channel k with requested := false, state := .off, shedCause := .none } := by
  simp only [actedChannel, Channel.release] at h
  by_cases hs : (s.channelCfg k).source = .inputLevel
  · rw [if_pos hs] at h
    rw [if_pos (.inl hs)]
    exact h
  · rw [if_neg hs] at h
    by_cases hr : (s.channel k).requested = true
    · rw [if_neg (by simp [hs, hr])]
      rw [if_pos hr] at h
      cases hstate : (s.channel k).state with
      | unused => exact absurd hstate hu
      | off | held => simp only [hstate] at h ⊢; exact h.eq_of_not_on (by simp)
      | waiting | on | shed => simp only [hstate] at h ⊢; exact h.eq_of_not_on (by simp)
    · rw [if_pos (.inr (by simpa using hr))]
      rwa [if_neg hr] at h

theorem acted_mask (hu : (s.channel k).state ≠ .unused) (h : Shedding (actedChannel k .mask s) d) :
    d = if (s.channel k).state = .held then s.channel k
      else { s.channel k with masked := true, state := .held, shedCause := .none } := by
  simp only [actedChannel, Channel.mask] at h
  by_cases hheld : (s.channel k).state = .held
  · rw [if_pos (by simp [hheld])] at h
    rw [if_pos hheld]
    exact h.eq_of_not_on (by rw [hheld]; decide)
  · rw [if_neg (by simp [hheld, hu])] at h
    rw [if_neg hheld]
    exact h.eq_of_not_on (by simp)

theorem acted_unmask (h : Shedding (actedChannel k .unmask s) d) :
    if (s.channel k).state = .held then
      d = { s.channel k with masked := false, state := if (s.channel k).requested then .waiting else .off }
    else Shedding (s.channel k) d := by
  simp only [actedChannel, Channel.unmask] at h
  split
  next hheld =>
    rw [if_pos hheld] at h
    refine h.eq_of_not_on ?_
    cases (s.channel k).requested <;> simp
  next hheld => rwa [if_neg hheld] at h

theorem acted_shed (hu : (s.channel k).state ≠ .unused) (h : Shedding (actedChannel k .shed s) d) :
    d = if (s.channel k).state = .off ∨ (s.channel k).state = .held then s.channel k
      else { s.channel k with state := .shed, shedCause := .request } := by
  simp only [actedChannel, Channel.shedOnRequest] at h
  cases hstate : (s.channel k).state with
  | unused => exact absurd hstate hu
  | off | held =>
    simp only [hstate] at h ⊢
    exact h.eq_of_not_on (by simp [hstate])
  | waiting | on | shed =>
    simp only [hstate] at h ⊢
    exact h.eq_of_not_on (by simp [Channel.shed])

end Acted

theorem channelAction_rest (k : Fin 8) {a : ChannelAction} (ha : a ≠ .setLowest) (s : State) :
    (s.channelAction k a).ll.lowest = s.ll.lowest ∧ (s.channelAction k a).ll.restoreTimer = s.ll.restoreTimer := by
  cases a with
  | request =>
    simp only [State.channelAction, State.requestChannel]
    split <;> exact ⟨rfl, rfl⟩
  | release =>
    simp only [State.channelAction, State.releaseChannel]
    split <;> exact ⟨rfl, rfl⟩
  | mask | unmask | shed => exact ⟨rfl, rfl⟩
  | setLowest => exact absurd rfl ha

theorem judge_setChannel {k : Fin 8} {a : ChannelAction} (hm : s.rsq.mode ≠ .config)
    (h : a = .setLowest ∨ (s.channel k).state ≠ .unused) : s.judge (.setChannel (byteOf k.val) a) = none := by
  have hval : (byteOf k.val).toNat = k.val := toNat_byteOf (by omega)
  refine judge_obstacle rfl (bne_iff_ne.2 hm) rfl ?_
  simp only [State.namesObject, State.channelNamed, hval, k.isLt, dif_pos]
  simpa using h

/-- What SET_CHANNEL leaves: its action and the event's end with its answer. -/
theorem exec_setChannel (h : LinkClear s) {k : Fin 8} {a : ChannelAction} (hm : s.rsq.mode ≠ .config)
    (hj : a = .setLowest ∨ (s.channel k).state ≠ .unused) :
    let t := (s.channelAction k a).finishBut (some k) s
    exec (commandOf .recessive (.setChannel (byteOf k.val) a)) s = .next (s.replied (.setChannel (byteOf k.val) a) t) ∧
      replyData (.setChannel (byteOf k.val) a) s t = byteOf k.val :: channelRecord k t ++ [byteOf t.ll.lowest.val] := by
  have hval : (byteOf k.val).toNat = k.val := toNat_byteOf (by omega)
  have hmod : (⟨(byteOf k.val).toNat % 8, Nat.mod_lt _ (by decide)⟩ : Fin 8) = k :=
    Fin.ext (by simp only [hval]; omega)
  have heffect : s.effect (.setChannel (byteOf k.val) a) = (s.channelAction k a).finishBut (some k) s := by
    simp only [State.effect, hmod]
  refine ⟨heffect ▸ exec_replied h rfl (by simp) (by simp [requestPayload, Figures.payloadMax]) (judge_setChannel hm hj) _, ?_⟩
  simp only [replyData, hmod]

/-- R97, R193: CHANNELS is set for another channel's change alone. -/
theorem channels_topic {k : Fin 8} {u : State} (hsl : u.sl = s.sl) :
    (u.finishBut (some k) s).sl.summary.channels = true ↔
      s.sl.summary.channels = true ∨ ∃ j, j ≠ k ∧ (s.channel j).state ≠ ((u.finishBut (some k) s).channel j).state := by
  rw [finishBut_summary, hsl]
  simp only [Topics.union, changedTopics, channelsMoved, Bool.or_eq_true, List.any_eq_true, mem_eight, true_and,
    Bool.and_eq_true, bne_iff_ne, ne_eq, Option.some.injEq]

theorem replied_topics (r : Request) (s t : State) : (s.replied r t).sl.summary = t.sl.summary := rfl

theorem replied_channel (r : Request) (s t : State) (k : Fin 8) : (s.replied r t).channel k = t.channel k := rfl

theorem channelRecord_replied (k : Fin 8) (r : Request) (s t : State) : channelRecord k (s.replied r t) = channelRecord k t :=
  rfl

theorem channelSet_action {k : Fin 8} {a : ChannelAction} (h : LinkClear s) (hm : s.rsq.mode ≠ .config)
    (hu : (s.channel k).state ≠ .unused) (ha : a ≠ .setLowest) :
    ∃ t, exec (commandOf .recessive (.setChannel (byteOf k.val) a)) s = .next t ∧
      Shedding (actedChannel k a s) (t.channel k) ∧
      (∀ j, j ≠ k → Shedding (s.channel j) (t.channel j)) ∧ t.ll.lowest = s.ll.lowest ∧
      t.ll.restoreTimer = s.ll.restoreTimer ∧ t.ca.demand = s.ca.demand ∧ CurrentFrame s t ∧
      (t.sl.summary.channels = true ↔
        s.sl.summary.channels = true ∨ ∃ j, j ≠ k ∧ (s.channel j).state ≠ (t.channel j).state) ∧
      AnsweredWith (replyBytes 0x0E (byteOf k.val :: channelRecord k t ++ [byteOf s.ll.lowest.val])) s t := by
  obtain ⟨hrun, hdata⟩ := exec_setChannel h hm (.inr hu) (a := a)
  set u := s.channelAction k a with hudef
  have hmode : u.rsq.mode ≠ .config := by simpa [hudef] using hm
  have hend : CurrentEnd u (u.finishBut (some k) s) := currentEnd_finishBut _ s hmode
  obtain ⟨hlow, hrestore⟩ := channelAction_rest k ha s
  have hlowest := hend.lowest.trans hlow
  rw [hlowest] at hdata
  refine ⟨_, hrun, ?_, fun j hj => ?_, hlowest, hend.restore.trans hrestore, ?_, ?_, ?_, ?_⟩
  · have hk := hend.sheds k
    rwa [channelAction_channel, if_pos rfl] at hk
  · have hk := hend.sheds j
    rwa [channelAction_channel, if_neg hj] at hk
  · exact hend.demand.trans (by simp [hudef])
  · exact currentFrame_finishBut (some k) (by simp [hudef]) (by simp [hudef]) (by simp [hudef]) (by simp [hudef])
      (by simp [hudef]) (.of_rsq (by simp [hudef]))
  · simp only [replied_topics, replied_channel]
    exact channels_topic (u := u) (by simp [hudef])
  · have hanswer := replied_answered s (u.finishBut (some k) s) (.setChannel (byteOf k.val) a)
      ((finishBut_mask (some k) u s).trans (by simp [hudef]))
    rw [hdata] at hanswer
    rw [channelRecord_replied]
    exact hanswer

end Requests

end Machine
end Sys2Proof

/-!
PROOFS. States whose event end has nothing to do: each rule of the event's end leaves them as they are, and leaves so a
state that differs in nothing the rules read (R4, R9, R10, R21 to R26, R34, R44, R65).
-/

namespace Sys2Proof
namespace Machine

section Own

variable {s : State} {c d : Cause}

/-! ### Own entries of a cause (R29, R32, R33, R42) -/

/-- The own entries of a cause. -/
def State.ownEntries (c : Cause) (s : State) : List AlarmEntry := s.alarms.filter (AlarmEntry.hasKey (.station s.own) c)

theorem ownEntries_congr {t : State} (halc : t.alc = s.alc) (hcfs : t.cfs = s.cfs) (c : Cause) :
    t.ownEntries c = s.ownEntries c := by
  simp only [State.ownEntries, State.alarms, halc, own_congr hcfs]

theorem ownEntries_ne_nil (h : s.ownAcknowledged c = true) : s.ownEntries c ≠ [] := by
  obtain ⟨e, he, hkey⟩ := List.any_eq_true.1 h
  rw [Bool.and_eq_true] at hkey
  exact List.ne_nil_of_mem (List.mem_filter.2 ⟨he, hkey.1⟩)

@[simp] theorem clearOwn_alarms (s : State) (c : Cause) :
    (s.clearOwn c).alarms = removeEntry (.station s.own) c s.alarms := by
  unfold State.clearOwn State.placeInternal
  split
  · rfl
  · split <;> rfl

theorem ownEntries_clearOwn (s : State) (c d : Cause) :
    (s.clearOwn c).ownEntries d = if d = c then [] else s.ownEntries d := by
  have hown : (s.clearOwn c).own = s.own := own_congr (by simp)
  unfold State.ownEntries
  rw [clearOwn_alarms, hown, removeEntry, List.filter_filter]
  split
  next h =>
    subst h
    simp
  next h =>
    refine List.filter_congr fun e _ => ?_
    unfold AlarmEntry.hasKey
    by_cases hd : e.cause = d
    · simp [hd, h]
    · simp [hd]

theorem filter_eraseP_of_not {α : Type} {p q : α → Bool} (l : List α) (h : ∀ e ∈ l, q e = true → p e = false) :
    (l.eraseP q).filter p = l.filter p := by
  induction l with
  | nil => rfl
  | cons a l ih =>
    have ih' := ih fun e he => h e (List.mem_cons_of_mem a he)
    cases hq : q a with
    | true => rw [List.eraseP_cons_of_pos hq, List.filter_cons, h a List.mem_cons_self hq]; rfl
    | false => rw [List.eraseP_cons_of_neg (by simp [hq]), List.filter_cons, List.filter_cons, ih']

/-- A change of the entries of another key, which keeps their keys. -/
theorem filter_updateEntry (src : Source) (x : Option SensorDetail) (h : d ≠ c) (l : List AlarmEntry) :
    (updateEntry src c (AlarmEntry.repeated .pending x) l).filter (AlarmEntry.hasKey src d) =
      l.filter (AlarmEntry.hasKey src d) := by
  have keep (e : AlarmEntry) :
      (if e.hasKey src c then AlarmEntry.repeated .pending x e else e).hasKey src d = e.hasKey src d := by
    split <;> rfl
  rw [updateEntry, List.filter_map]
  have hsame : (AlarmEntry.hasKey src d ∘ fun e => if e.hasKey src c then AlarmEntry.repeated .pending x e else e) =
      AlarmEntry.hasKey src d := funext keep
  rw [hsame]
  refine (List.map_congr_left fun e he => ?_).trans (List.map_id _)
  have hkey := (List.mem_filter.1 he).2
  have hnot : e.hasKey src c = false := by
    simp only [AlarmEntry.hasKey, Bool.and_eq_true, beq_iff_eq] at hkey
    simp [AlarmEntry.hasKey, hkey.2, h]
  rw [hnot]
  rfl

theorem ownEntries_raiseOwn (s : State) (x : Option SensorDetail) (h : d ≠ c) :
    (s.raiseOwn c x).ownEntries d = s.ownEntries d := by
  have hown : (s.raiseOwn c x).own = s.own := own_congr (by simp)
  have hnew (l : List AlarmEntry) : (l ++ [newEntry (.station s.own) c .pending .localRaise x]).filter
      (AlarmEntry.hasKey (.station s.own) d) = l.filter (AlarmEntry.hasKey (.station s.own) d) := by
    rw [List.filter_append]
    simp [AlarmEntry.hasKey, newEntry, Ne.symm h]
  unfold State.ownEntries
  rw [hown]
  unfold State.raiseOwn
  dsimp only
  split
  · exact filter_updateEntry _ _ h _
  · split
    · exact hnew _
    · split
      · refine (hnew _).trans (filter_eraseP_of_not _ fun e _ he => ?_)
        simp only [State.displaceable, Bool.and_eq_true, bne_iff_ne] at he
        obtain ⟨⟨-, hsrc⟩, -⟩ := he
        simp [AlarmEntry.hasKey, hsrc]
      · rfl

/-- An entry that a raise has made or renewed is PENDING. -/
theorem ownAcknowledged_raiseOwn {x : Option SensorDetail} (h : s.ownEntries c = []) :
    (s.raiseOwn c x).ownAcknowledged c = false := by
  have hnone : ∀ e ∈ s.alarms, e.hasKey (.station s.own) c = false := by
    intro e he
    exact Bool.eq_false_iff.2 (List.filter_eq_nil_iff.1 h e he)
  have hown : (s.raiseOwn c x).own = s.own := own_congr (by simp)
  have hnot (l : List AlarmEntry) (hl : ∀ e ∈ l, e ∈ s.alarms) :
      ((l ++ [newEntry (.station s.own) c .pending .localRaise x]).any
        fun e => e.hasKey (.station s.own) c && e.state == .acknowledged) = false := by
    rw [List.any_append, List.any_eq_false.2 (fun e he => by simp [hnone e (hl e he)])]
    simp [newEntry]
  unfold State.ownAcknowledged
  rw [hown]
  unfold State.raiseOwn
  dsimp only
  split
  next hlisted =>
    obtain ⟨e, he, hkey⟩ := List.any_eq_true.1 hlisted
    rw [hnone e he] at hkey
    cases hkey
  next =>
    split
    · exact hnot _ fun _ he => he
    · split
      · exact hnot _ fun _ he => List.mem_of_mem_eraseP he
      · exact List.any_eq_false.2 fun e he => by simp [hnone e he]

end Own

section Settled

variable {s u : State}

/-! ### Nothing to do at the event's end -/

theorem ownEntries_clearSensorLoss (t : State) {d : Cause} (h : d ≠ .sensorLoss) :
    t.clearSensorLoss.ownEntries d = t.ownEntries d := by
  unfold State.clearSensorLoss
  split
  · rw [ownEntries_clearOwn, if_neg h]
  · rfl

theorem ownEntries_clearDrop (t : State) (x : PoleId) {d : Cause} (h : d ≠ dropCause x) :
    (t.clearDrop x).ownEntries d = t.ownEntries d := by
  unfold State.clearDrop
  split
  · rw [ownEntries_clearOwn, if_neg h]
  · rfl

theorem ownEntries_clearStop (t : State) {d : Cause} (h : d ≠ .deskStop) : t.clearStop.ownEntries d = t.ownEntries d := by
  unfold State.clearStop
  split
  · rw [ownEntries_clearOwn, if_neg h]
  · rfl

theorem ownEntries_raiseSensorLoss (t old : State) {d : Cause} (h : d ≠ .sensorLoss) :
    (t.raiseSensorLoss old).ownEntries d = t.ownEntries d := by
  unfold State.raiseSensorLoss
  split
  · exact ownEntries_raiseOwn t _ h
  · rfl

/-- A clearing that leaves the entries of its cause as they were has not been made. -/
theorem clearStop_of_kept {t : State} (h : t.clearStop.ownEntries .deskStop = t.ownEntries .deskStop) : t.clearStop = t := by
  unfold State.clearStop at *
  split
  next hguard =>
    rw [if_pos hguard, ownEntries_clearOwn, if_pos rfl] at h
    rw [Bool.and_eq_true] at hguard
    exact absurd h.symm (ownEntries_ne_nil hguard.1)
  next => rfl

theorem clearDrop_of_kept {t : State} (x : PoleId)
    (h : (t.clearDrop x).ownEntries (dropCause x) = t.ownEntries (dropCause x)) : t.clearDrop x = t := by
  unfold State.clearDrop at *
  split
  next hguard =>
    rw [if_pos hguard, ownEntries_clearOwn, if_pos rfl] at h
    rw [Bool.and_eq_true] at hguard
    exact absurd h.symm (ownEntries_ne_nil hguard.1)
  next => rfl

theorem clearSensorLoss_of_kept {t old : State} (h : (t.raiseSensorLoss old).clearSensorLoss.ownEntries .sensorLoss = t.ownEntries .sensorLoss) :
    (t.raiseSensorLoss old).clearSensorLoss = t.raiseSensorLoss old := by
  set v := t.raiseSensorLoss old with hv
  unfold State.clearSensorLoss at *
  split
  next hguard =>
    rw [if_pos hguard, ownEntries_clearOwn, if_pos rfl] at h
    simp only [Bool.and_eq_true] at hguard
    obtain ⟨⟨⟨hack, -⟩, -⟩, -⟩ := hguard
    exfalso
    have hkept : v.ownEntries .sensorLoss ≠ [] := ownEntries_ne_nil hack
    unfold State.raiseSensorLoss at hv
    split at hv
    · rw [hv, ownAcknowledged_raiseOwn h.symm] at hack
      cases hack
    · rw [hv] at hkept
      exact hkept h.symm
  next => rfl

/-- The rules of the poles' entries, where the own entries end as they were: no entry has been cleared. -/
theorem polesListed_of_kept {t old : State} (h : ∀ c, (t.polesListed old).ownEntries c = t.ownEntries c) :
    let v := t.raiseSensorLoss old
    t.polesListed old = v ∧ v.clearSensorLoss = v ∧ ∀ x, v.clearDrop x = v := by
  have hn : (t.polesListed old) = ((t.raiseSensorLoss old).clearSensorLoss.clearDrop .p).clearDrop .n := rfl
  have hloss : (t.raiseSensorLoss old).clearSensorLoss = t.raiseSensorLoss old := by
    apply clearSensorLoss_of_kept
    rw [← h .sensorLoss, hn, ownEntries_clearDrop _ _ (by decide), ownEntries_clearDrop _ _ (by decide)]
  rw [hloss] at hn
  have hp : (t.raiseSensorLoss old).clearDrop .p = t.raiseSensorLoss old := by
    apply clearDrop_of_kept
    rw [ownEntries_raiseSensorLoss t old (by decide), ← h (dropCause .p), hn]
    exact (ownEntries_clearDrop _ _ (by decide)).symm
  rw [hp] at hn
  have hlast : (t.raiseSensorLoss old).clearDrop .n = t.raiseSensorLoss old := by
    apply clearDrop_of_kept
    rw [← hn, h, ownEntries_raiseSensorLoss t old (by decide)]
  refine ⟨hn.trans hlast, hloss, fun x => ?_⟩
  cases x
  · exact hp
  · exact hlast

/-- The rules of an event's end, each of which leaves the state. -/
structure EndsIdle (s : State) : Prop where
  placed : s.role = .pole → s.ps.supervising = true → s.polesPlaced s = s
  sensed : s.role = .pole → s.ps.supervising = true → s.raiseSensorLoss s = s
  cleared : s.role = .pole → s.ps.supervising = true → s.clearSensorLoss = s
  drops : s.role = .pole → s.ps.supervising = true → ∀ x, s.clearDrop x = s
  restore : s.role = .pole → s.ps.supervising = true → s.restoreQualifyRule = s
  stop : s.clearStop = s
  current : s.caSettle = s
  brk : s.breakWanted = false

theorem State.eq_of_blocks {s t : State} (h1 : t.pending = s.pending) (h2 : t.cfs = s.cfs) (h3 : t.li = s.li)
    (h4 : t.rsq = s.rsq) (h5 : t.pt = s.pt) (h6 : t.ps = s.ps) (h7 : t.alc = s.alc) (h8 : t.ca = s.ca) (h9 : t.ll = s.ll)
    (h10 : t.iou = s.iou) (h11 : t.sl = s.sl) (h12 : t.pins = s.pins) : t = s := by
  cases s
  cases t
  simp_all

theorem polesPlaced_restoreQualifyTimer (s old : State) :
    (s.polesPlaced old).ps.restoreQualifyTimer = s.ps.restoreQualifyTimer := by
  have withPole (t : State) (x : PoleId) (r : Pole) : (t.withPole x r).ps.restoreQualifyTimer = t.ps.restoreQualifyTimer := by
    cases x <;> rfl
  have habandon (t : State) (x : PoleId) : (t.abandonRaise old x).ps.restoreQualifyTimer = t.ps.restoreQualifyTimer := by
    unfold State.abandonRaise
    split
    · exact withPole t x _
    · rfl
  have hsettle (t : State) (x : PoleId) : (t.settle x).ps.restoreQualifyTimer = t.ps.restoreQualifyTimer := by
    unfold State.settle
    dsimp only
    split
    · split
      · exact withPole t x _
      · split <;> exact withPole t x _
    · rfl
  have hwait (t : State) (x : PoleId) : (t.endWait x).ps.restoreQualifyTimer = t.ps.restoreQualifyTimer := by
    unfold State.endWait
    split
    · exact withPole t x _
    · rfl
  have hgap (ps : PoleSupervisor) : ps.gapRule.restoreQualifyTimer = ps.restoreQualifyTimer := by
    unfold PoleSupervisor.gapRule
    split
    · split <;> rfl
    · split <;> rfl
  unfold State.polesPlaced
  dsimp only
  rw [withPs_ps, hgap, hwait, hwait, hsettle, hsettle, habandon, habandon]

theorem raiseSensorLoss_alc (t old : State) : t.raiseSensorLoss old = t.withAlc (t.raiseSensorLoss old).alc := by
  unfold State.raiseSensorLoss
  split
  · unfold State.raiseOwn
    dsimp only
    split
    · rfl
    · split
      · rfl
      · split <;> rfl
  · rfl

/-- The stop entry's rule and the poles' rules leave a state that they leave together. -/
theorem review_idle (h : (s.polesEnd s).clearStop = s) : s.clearStop = s ∧ s.polesEnd s = s := by
  have hcfs : (s.polesEnd s).cfs = s.cfs := by simp
  have hkept (c : Cause) (hc : c ≠ .deskStop) : (s.polesEnd s).ownEntries c = s.ownEntries c := by
    rw [← ownEntries_clearStop (s.polesEnd s) hc, h]
  have hstop : (s.polesEnd s).ownEntries .deskStop = s.ownEntries .deskStop := by
    by_cases hp : s.role = .pole ∧ s.ps.supervising = true
    · rw [polesEnd_of_supervising hp.1 hp.2, ownEntries_congr (s := (s.polesPlaced s).polesListed s) (by simp) (by simp)]
      show (((((s.polesPlaced s).raiseSensorLoss s).clearSensorLoss.clearDrop .p).clearDrop .n).ownEntries .deskStop) = _
      rw [ownEntries_clearDrop _ _ (by decide), ownEntries_clearDrop _ _ (by decide), ownEntries_clearSensorLoss _ (by decide),
        ownEntries_raiseSensorLoss _ _ (by decide), ownEntries_congr (s := s) (by simp) (by simp)]
    · rw [polesEnd_of_not hp]
  have hidle : (s.polesEnd s).clearStop = s.polesEnd s := by
    apply clearStop_of_kept
    rw [h, hstop]
  rw [hidle] at h
  rw [h] at hidle
  exact ⟨hidle, h⟩

theorem restoreQualifyTimer_kept {p q : PoleSupervisor} {x : Timer} (h : { q with restoreQualifyTimer := x } = p)
    (ht : q.restoreQualifyTimer = p.restoreQualifyTimer) : q = p := by
  subst h
  obtain rfl : q.restoreQualifyTimer = x := ht
  rfl

/-- The poles' rules one by one, where together they leave the state. -/
theorem polesEnd_idle (hp : s.role = .pole) (hs : s.ps.supervising = true) (h : s.polesEnd s = s) :
    s.polesPlaced s = s ∧ s.raiseSensorLoss s = s ∧ s.clearSensorLoss = s ∧ (∀ x, s.clearDrop x = s) ∧
      s.restoreQualifyRule = s := by
  rw [polesEnd_of_supervising hp hs] at h
  have hentries (c : Cause) : ((s.polesPlaced s).polesListed s).ownEntries c = (s.polesPlaced s).ownEntries c := by
    rw [← ownEntries_congr (s := (s.polesPlaced s).polesListed s) (t := ((s.polesPlaced s).polesListed s).restoreQualifyRule)
      (by simp) (by simp), h, ownEntries_congr (s := s) (t := s.polesPlaced s) (by simp) (by simp)]
  obtain ⟨hlisted, hsensor, hdrops⟩ := polesListed_of_kept hentries
  rw [hlisted] at h
  have hps : (s.polesPlaced s).ps = s.ps := by
    have hrule : ((s.polesPlaced s).raiseSensorLoss s).restoreQualifyRule.ps = s.ps := congrArg State.ps h
    have hraise : ((s.polesPlaced s).raiseSensorLoss s).ps = (s.polesPlaced s).ps := by simp
    have htimer := polesPlaced_restoreQualifyTimer s s
    unfold State.restoreQualifyRule at hrule
    rw [withPs_ps, hraise] at hrule
    exact restoreQualifyTimer_kept hrule htimer
  have hplaced : s.polesPlaced s = s := by
    refine State.eq_of_blocks ?_ ?_ ?_ ?_ ?_ hps ?_ ?_ ?_ ?_ ?_ ?_ <;> simp
  rw [hplaced] at h hsensor hdrops
  have hloss : s.raiseSensorLoss s = s := by
    have halc : (s.raiseSensorLoss s).alc = s.alc := by
      rw [← congrArg State.alc h]
      simp
    rw [raiseSensorLoss_alc, halc]
    rfl
  rw [hloss] at h hsensor hdrops
  exact ⟨hplaced, hloss, hsensor, hdrops, h⟩

/-- A state whose event end has nothing to do is left by each of its rules. -/
theorem endsIdle_of_settled (hm : s.rsq.mode ≠ .config) (h : Settled s) : EndsIdle s := by
  unfold Settled at h
  rw [blocksEnd_of_joined hm] at h
  set v := s.reviewed s with hv
  have hbrk : v.caSettle.breakWanted = false := by
    rw [Bool.eq_false_iff]
    intro hw
    rw [examineBreak_of_wanted hw] at h
    obtain ⟨-, -, -, -, hdriver, -⟩ := (breakWanted_iff _).1 hw
    have hli : v.caSettle.li = s.li := by simp [hv]
    rw [hli, ← h] at hdriver
    exact hdriver rfl
  rw [examineBreak_of_not hbrk] at h
  obtain ⟨-, -, -, hrsq, -, hps, halc, -⟩ := caSettle_frame v
  rw [h] at hrsq hps halc
  have hvs : v = s := by
    refine State.eq_of_blocks ?_ ?_ ?_ hrsq.symm ?_ hps.symm halc.symm ?_ ?_ ?_ ?_ ?_ <;> simp [hv]
  rw [hvs] at h hbrk
  rw [h] at hbrk
  obtain ⟨hstop, hpoles⟩ := review_idle (hv.symm.trans hvs)
  exact
    { placed := fun hp hs => (polesEnd_idle hp hs hpoles).1
      sensed := fun hp hs => (polesEnd_idle hp hs hpoles).2.1
      cleared := fun hp hs => (polesEnd_idle hp hs hpoles).2.2.1
      drops := fun hp hs => (polesEnd_idle hp hs hpoles).2.2.2.1
      restore := fun hp hs => (polesEnd_idle hp hs hpoles).2.2.2.2
      stop := hstop
      current := h
      brk := hbrk }

/-! ### A state that differs in nothing the rules read -/

/-- The two states agree in what the poles' rules and the stop entry's rule read. -/
structure ReviewedAlike (s u : State) : Prop where
  cfs : u.cfs = s.cfs
  ps : u.ps = s.ps
  alc : u.alc = { s.alc with windowClaimed := u.alc.windowClaimed }
  latches : u.iou.latches = s.iou.latches
  mode : u.rsq.mode = s.rsq.mode
  known : ∀ x, u.stowedKnown x = s.stowedKnown x
  closed : ∀ x, u.stowedClosed x = s.stowedClosed x
  stops : u.activeStops = s.activeStops

theorem endWait_withPs (s u : State) (q : PoleSupervisor) (x : PoleId) :
    (u.withPs q).endWait x = u.withPs ((s.withPs q).endWait x).ps := by
  have hpole (y : PoleId) : (u.withPs q).pole y = (s.withPs q).pole y := rfl
  unfold State.endWait
  rw [hpole, hpole]
  split <;> rfl

variable (h : ReviewedAlike s u)
include h

theorem ReviewedAlike.fresh (c : Fin 8) : u.fresh c = s.fresh c := by simp [State.fresh, State.latch, h.latches]

theorem ReviewedAlike.latch (c : Fin 8) : u.latch c = s.latch c := by simp [State.latch, h.latches]

theorem ReviewedAlike.abandonRaise (x : PoleId) : u.abandonRaise s x = u := by
  have hstop : u.newStop s = false := by
    refine List.any_eq_false.2 fun e he => ?_
    have hlisted : e.cause = .deskStop → s.listed e.source .deskStop = true := fun hc =>
      List.any_eq_true.2 ⟨e, (unclaimed_alc h.alc).1 ▸ he, by simp [AlarmEntry.hasKey, hc]⟩
    by_cases hc : e.cause = .deskStop
    · simp [hlisted hc]
    · simp [hc]
  unfold State.abandonRaise
  rw [hstop, h.mode]
  simp

theorem ReviewedAlike.settle (q : PoleSupervisor) (x : PoleId) :
    (u.withPs q).settle x = u.withPs ((s.withPs q).settle x).ps := by
  have hpole : (u.withPs q).pole x = (s.withPs q).pole x := rfl
  have hknown : (u.withPs q).stowedKnown x = (s.withPs q).stowedKnown x := h.known x
  have hclosed : (u.withPs q).stowedClosed x = (s.withPs q).stowedClosed x := h.closed x
  have hfresh : (u.withPs q).fresh (elevChannel x) = (s.withPs q).fresh (elevChannel x) := h.fresh _
  have hlatch : (u.withPs q).latch (elevChannel x) = (s.withPs q).latch (elevChannel x) := h.latch _
  have hcfg : (u.withPs q).poleCfg = (s.withPs q).poleCfg := congrArg (fun c => c.settings.pole) h.cfs
  unfold State.settle State.lower
  dsimp only
  have hsupervising : (u.withPs q).ps.supervising = (s.withPs q).ps.supervising := rfl
  rw [hpole, hknown, hclosed, hfresh, hlatch, hcfg, hsupervising]
  split
  · split
    · rfl
    · split <;> rfl
  · rfl

/-- The poles placed at an event's end, in terms of the supervisor alone. -/
theorem ReviewedAlike.polesPlaced_eq :
    u.polesPlaced s =
      u.withPs
        (let a := ((s.withPs s.ps).settle .p).ps
         let b := ((s.withPs a).settle .n).ps
         let c := ((s.withPs b).endWait .p).ps
         ((s.withPs c).endWait .n).ps.gapRule) := by
  have hu : u = u.withPs s.ps := by rw [← h.ps]; rfl
  unfold State.polesPlaced
  dsimp only
  rw [h.abandonRaise, h.abandonRaise]
  conv_lhs => rw [hu]
  rw [h.settle, h.settle, endWait_withPs s, endWait_withPs s]
  rfl

theorem ReviewedAlike.polesPlaced (hs : s.polesPlaced s = s) : u.polesPlaced s = u := by
  have self : ReviewedAlike s s := ⟨rfl, rfl, rfl, rfl, rfl, fun _ => rfl, fun _ => rfl, rfl⟩
  rw [self.polesPlaced_eq] at hs
  have hps := congrArg State.ps hs
  rw [withPs_ps] at hps
  rw [h.polesPlaced_eq, hps, ← h.ps]
  rfl

theorem ReviewedAlike.ownAcknowledged (c : Cause) : u.ownAcknowledged c = s.ownAcknowledged c := by
  simp [State.ownAcknowledged, (unclaimed_alc h.alc).1, own_congr h.cfs]

/-- A clearing that leaves the one state leaves the other: its guard is false. -/
theorem ReviewedAlike.clearSensorLoss (hs : s.clearSensorLoss = s) : u.clearSensorLoss = u := by
  have hguard : ¬((s.ownAcknowledged .sensorLoss && s.fresh elevPChannel && s.fresh elevNChannel && s.fresh lineVChannel) = true) := by
    intro hg
    rw [State.clearSensorLoss, if_pos hg] at hs
    have hgone := ownEntries_clearOwn s .sensorLoss .sensorLoss
    rw [hs, if_pos rfl] at hgone
    simp only [Bool.and_eq_true] at hg
    exact ownEntries_ne_nil hg.1.1.1 hgone
  rw [State.clearSensorLoss, h.ownAcknowledged, h.fresh, h.fresh, h.fresh, if_neg hguard]

theorem ReviewedAlike.clearDrop (x : PoleId) (hs : s.clearDrop x = s) : u.clearDrop x = u := by
  have hpole : u.pole x = s.pole x := congrArg (fun q => q.pole x) h.ps
  have hguard : ¬((s.ownAcknowledged (dropCause x) && (s.pole x).state == .stowed) = true) := by
    intro hg
    rw [State.clearDrop, if_pos hg] at hs
    have hgone := ownEntries_clearOwn s (dropCause x) (dropCause x)
    rw [hs, if_pos rfl] at hgone
    rw [Bool.and_eq_true] at hg
    exact ownEntries_ne_nil hg.1 hgone
  rw [State.clearDrop, h.ownAcknowledged, hpole, if_neg hguard]

theorem ReviewedAlike.clearStop (hs : s.clearStop = s) : u.clearStop = u := by
  have hguard : ¬((s.ownAcknowledged .deskStop && s.activeStops == 0) = true) := by
    intro hg
    rw [State.clearStop, if_pos hg] at hs
    have hgone := ownEntries_clearOwn s .deskStop .deskStop
    rw [hs, if_pos rfl] at hgone
    rw [Bool.and_eq_true] at hg
    exact ownEntries_ne_nil hg.1 hgone
  rw [State.clearStop, h.ownAcknowledged, h.stops, if_neg hguard]

theorem ReviewedAlike.raiseSensorLoss (hs : s.raiseSensorLoss s = s) : u.raiseSensorLoss s = u := by
  have hasked : u.sensorLoss s = s.sensorLoss s := by
    have hpole (x : PoleId) : u.pole x = s.pole x := congrArg (fun q => q.pole x) h.ps
    simp only [State.sensorLoss, State.somePoleOut, hpole, h.latch]
    rfl
  obtain ⟨b, hb⟩ : ∃ b, u.alc = { s.alc with windowClaimed := b } := ⟨_, h.alc⟩
  have hraise : (u.raiseSensorLoss s).alc = { (s.raiseSensorLoss s).alc with windowClaimed := b } := by
    have halarms : u.alarms = s.alarms := (unclaimed_alc h.alc).1
    have hown : u.own = s.own := own_congr h.cfs
    unfold State.raiseSensorLoss
    rw [hasked]
    split
    · unfold State.raiseOwn State.listed State.displaceable
      dsimp only
      rw [halarms, hown]
      split
      · simp [State.withAlarms, hb]
      · split
        · simp [State.withAlarms, hb]
        · split
          · simp [State.withAlarms, State.setUnlisted, hb]
          · simp [State.setUnlisted, hb]
    · exact hb
  rw [raiseSensorLoss_alc, hraise, hs, ← hb]
  rfl

theorem ReviewedAlike.restoreQualifyRule (hs : s.restoreQualifyRule = s) : u.restoreQualifyRule = u := by
  have hlisted : u.ownListed .lineLoss = s.ownListed .lineLoss := by
    simp [State.ownListed, State.listed, (unclaimed_alc h.alc).1, own_congr h.cfs]
  have hps := congrArg State.ps hs
  unfold State.restoreQualifyRule at *
  rw [withPs_ps] at hps
  rw [hlisted, h.ps, hps, ← h.ps]
  rfl

/-- The poles' rules and the stop entry's rule leave a state that is like one they leave. -/
theorem ReviewedAlike.reviewed (hs : EndsIdle s) : u.reviewed s = u := by
  have hpoles : u.polesEnd s = u := by
    by_cases hp : u.role = .pole ∧ u.ps.supervising = true
    · have hrole : s.role = .pole := (role_congr h.cfs).symm.trans hp.1
      have hsup : s.ps.supervising = true := by rw [← h.ps]; exact hp.2
      rw [polesEnd_of_supervising hp.1 hp.2, h.polesPlaced (hs.placed hrole hsup)]
      have hlisted : u.polesListed s = (((u.raiseSensorLoss s).clearSensorLoss).clearDrop .p).clearDrop .n := rfl
      rw [hlisted, h.raiseSensorLoss (hs.sensed hrole hsup), h.clearSensorLoss (hs.cleared hrole hsup),
        h.clearDrop _ (hs.drops hrole hsup _), h.clearDrop _ (hs.drops hrole hsup _),
        h.restoreQualifyRule (hs.restore hrole hsup)]
    · exact polesEnd_of_not hp s
  rw [State.reviewed, hpoles, h.clearStop hs.stop]

end Settled

section Current

variable {s u : State}

/-! ### A settled current (R53, R56 to R67, R69, R86, R87) -/

theorem lineSheds_idle (h : s.ca.lineCondition ≠ .available → ∀ k, s.isOn k = true → (s.channelCfg k).batteryFed = true) :
    s.lineSheds = s := by
  unfold State.lineSheds
  split
  · rfl
  next hline =>
    refine foldl_keeps (fun t => t = s) _ (fun t k ht => ?_) _ s rfl
    subst ht
    rw [if_neg]
    intro hk
    simp only [Bool.and_eq_true, Bool.not_eq_true'] at hk
    rw [h hline k hk.1] at hk
    cases hk.2

theorem allowanceSheds_idle (h : s.onSum ≤ s.ca.allowance) : s.allowanceSheds = s := by
  unfold State.allowanceSheds
  refine foldl_keeps (fun t => t = s) _ (fun t k ht => ?_) _ s rfl
  subst ht
  rw [if_neg]
  simp [not_lt.2 h]

/-- The current as its computation leaves it, with nothing to shed. -/
structure CurrentIdle (s : State) : Prop where
  charge : s.ca.ownCharge = s.formCharge
  line : s.ca.lineCondition = s.judgeLine
  voltage : s.ca.poleVoltage = s.sourceVoltage
  budget : s.ca.budget = s.formBudget s.judgeLine s.sourceVoltage
  share : s.ca.share = s.formShare s.formCharge (s.formBudget s.judgeLine s.sourceVoltage)
  allowance : s.ca.allowance = if s.rsq.mode = .run then min s.ca.allowance s.ca.share else 0
  lineFed : s.ca.lineCondition ≠ .available → ∀ k, s.isOn k = true → (s.channelCfg k).batteryFed = true
  grant : s.onSum + s.ca.grant = s.ca.allowance
  overTimer : s.ca.overdrawTimer = if s.overdrawn then s.ca.overdrawTimer <|> Timer.started else none
  overFlag : s.ca.overdrawFlag = (s.ca.overdrawFlag && s.overdrawn)

theorem currentIdle_of_caSettle (h : s.caSettle = s) : CurrentIdle s := by
  obtain ⟨h1, h2, h3, h4, h5, h6, -, -, -, h10, h11⟩ := caSettle_spec s
  have hover := follow_overdraw (s.compute.setAllowance
    (min s.ca.allowance (s.formShare s.formCharge (s.formBudget s.judgeLine s.sourceVoltage))))
  rw [← caSettle_eq, h, compute_setAllowance] at hover
  rw [h] at h1 h2 h3 h4 h5 h6 h10 h11
  exact ⟨h1, h2, h3, h4, h5, h6, fun hl => h11 (h2 ▸ hl), h10, hover.1, hover.2⟩

theorem caSettle_of_currentIdle (h : CurrentIdle s) : s.caSettle = s := by
  have hcomputed : s.compute.setAllowance
      (min s.ca.allowance (s.formShare s.formCharge (s.formBudget s.judgeLine s.sourceVoltage))) = s := by
    have hca : (s.compute.setAllowance
        (min s.ca.allowance (s.formShare s.formCharge (s.formBudget s.judgeLine s.sourceVoltage)))).ca = s.ca := by
      rw [compute_setAllowance, ← h.share, ← h.allowance, ← h.charge, ← h.budget, ← h.line, ← h.voltage]
    refine State.eq_of_blocks ?_ ?_ ?_ ?_ ?_ ?_ ?_ hca ?_ ?_ ?_ ?_ <;> simp
  have hgrant : s.grantRule = s := by
    have hg : s.ca.allowance - s.onSum = s.ca.grant := by have := h.grant; omega
    unfold State.grantRule
    rw [hg]
    rfl
  have hover : s.overdrawRule = s := by
    unfold State.overdrawRule
    rw [← h.overTimer, ← h.overFlag]
    rfl
  rw [caSettle_eq, hcomputed]
  unfold State.follow
  rw [lineSheds_idle h.lineFed, allowanceSheds_idle (h.grant ▸ Nat.le_add_right _ _), hgrant, hover]

/-- A state with the same inputs, current and channels is as settled. -/
theorem CurrentIdle.same (h : CurrentIdle s) (hin : SameInputsOfCurrent s u) (hca : u.ca = s.ca)
    (hll : u.ll.channels = s.ll.channels) (hm : u.rsq.mode = s.rsq.mode) : CurrentIdle u := by
  have hk (k : Fin 8) : u.channel k = s.channel k := by simp [State.channel, hll]
  have hcharge : u.formCharge = s.formCharge := formCharge_congr (by rw [hca]) hin.cfs fun k => .inl (hk k)
  have hsum : u.onSum = s.onSum := onSum_congr hll hin.cfs
  have hon (k : Fin 8) : u.isOn k = s.isOn k := isOn_congr hll k
  have hover : u.overdrawn = s.overdrawn := overdrawn_congr hin.cfs hin.latches (by rw [hca])
  have hcfg (k : Fin 8) : u.channelCfg k = s.channelCfg k := channelCfg_congr hin.cfs k
  constructor
  · rw [hca, hcharge]; exact h.charge
  · rw [hca, hin.judgeLine]; exact h.line
  · rw [hca, hin.sourceVoltage]; exact h.voltage
  · rw [hca, hin.judgeLine, hin.sourceVoltage, hin.formBudget]; exact h.budget
  · rw [hca, hcharge, hin.judgeLine, hin.sourceVoltage, hin.formBudget, hin.formShare]; exact h.share
  · rw [hca, hm]; exact h.allowance
  · intro hl k
    rw [hon, hcfg]
    exact h.lineFed (hca ▸ hl) k
  · rw [hca, hsum]; exact h.grant
  · rw [hca, hover]; exact h.overTimer
  · rw [hca, hover]; exact h.overFlag

/-- The event's end leaves a state that is like one it leaves, but for a break that the line may now ask for. -/
theorem blocksEnd_idle (hs : EndsIdle s) (h : ReviewedAlike s u) (hstuck : u.li.stuck = s.li.stuck) (hpt : u.pt = s.pt)
    (hca : u.ca = s.ca) (hll : u.ll.channels = s.ll.channels) (hm : s.rsq.mode ≠ .config) :
    u.blocksEnd s = u.examineBreak := by
  have hin : SameInputsOfCurrent s u := ⟨h.cfs, hstuck, hpt, h.ps, h.alc, h.latches⟩
  have hsettle : u.caSettle = u :=
    caSettle_of_currentIdle ((currentIdle_of_caSettle hs.current).same hin hca hll h.mode)
  rw [blocksEnd_of_joined (by rw [h.mode]; exact hm), h.reviewed hs, hsettle]

theorem finishBut_idle (skip : Option (Fin 8)) (he : u.blocksEnd s = u.examineBreak) :
    (u.finishBut skip s).rsq = u.rsq ∧ (u.finishBut skip s).ps = u.ps ∧ (u.finishBut skip s).alc = u.alc ∧
      (u.finishBut skip s).ca = u.ca ∧ (u.finishBut skip s).ll = u.ll := by
  obtain ⟨-, hrsq, hps, halc, hca, hll, -⟩ := finishBut_blocks skip u s
  rw [he] at hrsq hps halc hca hll
  simp only [examineBreak_frame] at hrsq hps halc hca hll
  exact ⟨hrsq, hps, halc, hca, hll⟩

theorem finishBut_idle_line (skip : Option (Fin 8)) (he : u.blocksEnd s = u.examineBreak) (hb : u.breakWanted = false) :
    (u.finishBut skip s).li = u.li ∧ (u.finishBut skip s).pins = u.pins := by
  obtain ⟨hli, -, -, -, -, -, hpins⟩ := finishBut_blocks skip u s
  rw [he, examineBreak_of_not hb] at hli hpins
  exact ⟨hli, hpins⟩

theorem changedTopics_self (skip : Option (Fin 8)) (s : State) : changedTopics skip s s = {} := by
  simp [changedTopics, channelsMoved]

theorem union_empty (a : Topics) : a.union {} = a := by simp [Topics.union]

end Current

/-! ### SET_LOWEST (R85, R98) -/

theorem exec_setLowest {s : State} (h : LinkClear s) (hm : s.rsq.mode ≠ .config) (hs : Settled s) (k : Fin 8) :
    ∃ t, exec (.setLowest (byteOf k.val)) s = .next t ∧ t.ll = { s.ll with lowest := k } ∧ t.ca = s.ca ∧
      t.alc = s.alc ∧ t.ps = s.ps ∧ t.li = s.li ∧ CurrentFrame s t ∧ t.sl.summary = s.sl.summary ∧
      AnsweredWith (replyBytes 0x0E (byteOf k.val :: channelRecord k s ++ [byteOf k.val])) s t := by
  have hidle := endsIdle_of_settled hm hs
  obtain ⟨hrun, hdata⟩ := exec_setChannel h hm (.inl rfl) (k := k) (a := .setLowest)
  set u := s.withLl { s.ll with lowest := k } with hu
  have hacted : s.channelAction k .setLowest = u := rfl
  rw [hacted] at hrun hdata
  have hlike : ReviewedAlike s u := ⟨rfl, rfl, rfl, rfl, rfl, fun _ => rfl, fun _ => rfl, rfl⟩
  have hend : u.blocksEnd s = u.examineBreak := blocksEnd_idle hidle hlike rfl rfl rfl rfl hm
  obtain ⟨hrsq, hps, halc, hca, hll⟩ := finishBut_idle (some k) hend
  obtain ⟨hli, hpins⟩ := finishBut_idle_line (some k) hend hidle.brk
  have hrecord : channelRecord k (u.finishBut (some k) s) = channelRecord k s := by
    have hchannel : (u.finishBut (some k) s).channel k = s.channel k := by simp only [State.channel, hll]; rfl
    have hcfg : (u.finishBut (some k) s).channelCfg k = s.channelCfg k := channelCfg_congr (by simp [hu]) k
    simp only [channelRecord, hchannel, hcfg]
  have hlowest : (u.finishBut (some k) s).ll.lowest = k := by rw [hll]; rfl
  rw [hrecord, hlowest] at hdata
  refine ⟨_, hrun, hll, hca, halc, hps, hli, ?_, ?_, ?_⟩
  · exact currentFrame_finishBut (some k) rfl rfl rfl rfl rfl (.of_rsq rfl)
  · rw [replied_topics, finishBut_summary]
    have htopics : changedTopics (some k) s (u.finishBut (some k) s) = {} := by
      simp only [changedTopics, channelsMoved, State.channel, State.pole, State.alarms, hrsq, hps, halc, hca, hll,
        finishBut_frame]
      simp [hu]
    rw [htopics, union_empty]
    rfl
  · have hanswer := replied_answered s (u.finishBut (some k) s) (.setChannel (byteOf k.val) .setLowest) (finishBut_mask (some k) u s)
    rw [hdata] at hanswer
    exact hanswer

/-- Settles O31: an action is one change of one channel, and the event's end sheds at most. -/
theorem channelSet : Obligations.ChannelSet := by
  refine ⟨fun s k a h hm hu ha => ?_, fun s k h hm hs => exec_setLowest h hm hs k⟩
  obtain ⟨t, ht, hacted, hrest⟩ := channelSet_action h hm hu ha
  refine ⟨t, ht, ?_, hrest⟩
  cases a with
  | request => exact acted_request hu hacted
  | release => exact acted_release hu hacted
  | mask => exact acted_mask hu hacted
  | unmask => exact acted_unmask hacted
  | shed => exact acted_shed hu hacted
  | setLowest => exact absurd rfl ha

end Machine
end Sys2Proof

/-!
PROOFS. What an event's end leaves of each pole, and the expiries of the poles' timers (R4, R8 to R18; O42, O43).
-/

namespace Sys2Proof
namespace Machine

section Placed

variable {u old : State}

/-! ### A pole at the end of an event (R4, R9, R10) -/

/-- R10: the event ends every raise. -/
def State.abandons (u old : State) : Bool := (old.rsq.mode = .run && u.rsq.mode ≠ .run) || u.newStop old

/-- R10: pole `x` with its raise ended where the event ends it. -/
def State.abandonedPole (u old : State) (x : PoleId) : Pole :=
  if u.abandons old && (u.pole x).state = .raising then (u.pole x).lowered (u.stowedClosed x) else u.pole x

/-- R4: the record `r` of pole `x` settled. -/
def State.settledPole (u : State) (x : PoleId) (r : Pole) : Pole :=
  if u.ps.supervising && r.state == .initial && !r.qualifying && u.stowedKnown x && u.fresh (elevChannel x) then
    if u.stowedClosed x then r.hooked
    else if poleWindow u.poleCfg (u.latch (elevChannel x)).value then { r with qualifying := true }
    else r.lowered (u.stowedClosed x)
  else r

/-- R4, R10: pole `x` before waits end. -/
def State.placedPole (u old : State) (x : PoleId) : Pole := u.settledPole x (u.abandonedPole old x)

/-- R9: the record `r` with its wait ended where the other pole, of record `o`, is not held. -/
def Pole.waited (r o : Pole) : Pole := if r.isQualifying && r.qualified && !o.isQualifying then r.qualifiedOn else r

theorem withPole_self (s : State) (x : PoleId) : s.withPole x (s.pole x) = s := by cases x <;> rfl

theorem withPole_pole (s : State) (x y : PoleId) (r : Pole) : (s.withPole x r).pole y = if y = x then r else s.pole y := by
  cases x <;> cases y <;> rfl

theorem withPole_supervising (s : State) (x : PoleId) (r : Pole) : (s.withPole x r).ps.supervising = s.ps.supervising := by
  cases x <;> rfl

theorem abandonRaise_eq (u old : State) (x : PoleId) : u.abandonRaise old x = u.withPole x (u.abandonedPole old x) := by
  unfold State.abandonRaise State.abandonedPole State.abandons
  split
  · rfl
  · exact (withPole_self u x).symm

theorem settle_eq (u : State) (x : PoleId) : u.settle x = u.withPole x (u.settledPole x (u.pole x)) := by
  unfold State.settle State.settledPole
  dsimp only
  split
  · split
    · rfl
    · split <;> rfl
  · exact (withPole_self u x).symm

theorem endWait_eq (u : State) (x : PoleId) : u.endWait x = u.withPole x ((u.pole x).waited (u.pole x.other)) := by
  unfold State.endWait Pole.waited
  split
  · rfl
  · exact (withPole_self u x).symm

theorem settledPole_withPole (u : State) (x y : PoleId) (q r : Pole) : (u.withPole y q).settledPole x r = u.settledPole x r := by
  unfold State.settledPole
  rw [withPole_supervising]
  rfl

theorem abandonedPole_withPole (u old : State) {x y : PoleId} (h : x ≠ y) (q : Pole) :
    (u.withPole y q).abandonedPole old x = u.abandonedPole old x := by
  unfold State.abandonedPole
  rw [withPole_pole, if_neg h]
  rfl

theorem qualifiedOn_isQualifying (r : Pole) : r.qualifiedOn.isQualifying = false := by simp [Pole.qualifiedOn, Pole.isQualifying]

/-- The two waits ended one after the other, as each pole's record by itself. -/
theorem waited_waited (r o : Pole) : o.waited (r.waited o) = o.waited r := by
  unfold Pole.waited
  by_cases h : (r.isQualifying && r.qualified && !o.isQualifying) = true
  · rw [if_pos h]
    simp only [Bool.and_eq_true, Bool.not_eq_true'] at h
    simp [h.2]
  · rw [if_neg h]

/-- R4, R9, R10, R21: the poles as an event's end places them. -/
theorem polesPlaced_pole (u old : State) (x : PoleId) :
    (u.polesPlaced old).pole x = (u.placedPole old x).waited (u.placedPole old x.other) := by
  have hgap (t : State) : (t.withPs t.ps.gapRule).pole x = t.pole x := by
    have h : t.ps.gapRule.poleP = t.ps.poleP ∧ t.ps.gapRule.poleN = t.ps.poleN := by
      unfold PoleSupervisor.gapRule
      split
      · split <;> exact ⟨rfl, rfl⟩
      · split <;> exact ⟨rfl, rfl⟩
    cases x
    · exact h.1
    · exact h.2
  unfold State.polesPlaced
  dsimp only
  rw [hgap]
  set b := (((u.abandonRaise old .p).abandonRaise old .n).settle .p).settle .n with hb
  have hbpole (y : PoleId) : b.pole y = u.placedPole old y := by
    unfold State.placedPole
    rw [hb, settle_eq, withPole_pole, settle_eq, settledPole_withPole, withPole_pole, withPole_pole]
    rw [abandonRaise_eq _ old .n, abandonRaise_eq u old .p, abandonedPole_withPole _ _ (by decide)]
    simp only [settledPole_withPole, withPole_pole]
    cases y <;> rfl
  rw [endWait_eq, endWait_eq, withPole_pole, withPole_pole]
  simp only [withPole_pole, hbpole]
  cases x
  · rfl
  · exact waited_waited _ _

/-- The poles after an event's end, in a POLE station under supervision. -/
theorem finishBut_pole (skip : Option (Fin 8)) (old : State) (hm : u.rsq.mode ≠ .config) (hp : u.role = .pole)
    (hs : u.ps.supervising = true) (x : PoleId) :
    ((u.finishBut skip old).pole x) = (u.placedPole old x).waited (u.placedPole old x.other) := by
  obtain ⟨-, -, hps, -⟩ := finishBut_blocks skip u old
  have hpole (t : State) (ht : t.ps = (u.finishBut skip old).ps) : (u.finishBut skip old).pole x = t.pole x :=
    congrArg (fun q => q.pole x) ht.symm
  rw [blocksEnd_of_joined hm] at hps
  simp only [examineBreak_frame, caSettle_frame, State.reviewed, clearStop_frame] at hps
  rw [hpole _ hps.symm, polesEnd_of_supervising hp hs, ← polesPlaced_pole]
  have hlisted : ((u.polesPlaced old).polesListed old).ps = (u.polesPlaced old).ps := by
    refine polesListed_keeps (P := fun t => t.ps = (u.polesPlaced old).ps) (fun t c d h => ?_) (fun t c h => ?_) rfl old
    · simpa using h
    · simpa using h
  have hrule (t : State) : t.restoreQualifyRule.pole x = t.pole x := by cases x <;> rfl
  rw [hrule]
  exact congrArg (fun q => q.pole x) hlisted

/-- The poles after an event's end that does not look at them. -/
theorem finishBut_ps_of_not (skip : Option (Fin 8)) (old : State)
    (h : ¬(u.rsq.mode ≠ .config ∧ u.role = .pole ∧ u.ps.supervising = true)) : (u.finishBut skip old).ps = u.ps := by
  obtain ⟨-, -, hps, -⟩ := finishBut_blocks skip u old
  by_cases hm : u.rsq.mode = .config
  · rw [hps, blocksEnd_of_config hm]
  · rw [hps, blocksEnd_of_joined hm]
    simp only [examineBreak_frame, caSettle_frame, State.reviewed, clearStop_frame]
    rw [polesEnd_of_not fun hp => h ⟨hm, hp⟩]

/-- A pole that no rule of the event's end moves: not raising in an event that ends raises, not to be settled, and not
waiting. -/
theorem finishBut_pole_steady (skip : Option (Fin 8)) (old : State) (x : PoleId)
    (ha : (u.pole x).state = .raising → u.abandons old = false)
    (hi : (u.pole x).state = .initial → (u.pole x).qualifying = true)
    (hw : (u.pole x).isQualifying = true → (u.pole x).qualified = true → (u.placedPole old x.other).isQualifying = true) :
    (u.finishBut skip old).pole x = u.pole x := by
  by_cases h : u.rsq.mode ≠ .config ∧ u.role = .pole ∧ u.ps.supervising = true
  · rw [finishBut_pole skip old h.1 h.2.1 h.2.2]
    have habandoned : u.abandonedPole old x = u.pole x := by
      unfold State.abandonedPole
      by_cases hr : (u.pole x).state = .raising
      · simp [ha hr]
      · simp [hr]
    have hplaced : u.placedPole old x = u.pole x := by
      unfold State.placedPole State.settledPole
      rw [habandoned]
      by_cases hr : (u.pole x).state = .initial
      · simp [hi hr]
      · simp [hr]
    rw [hplaced]
    unfold Pole.waited
    rw [if_neg]
    intro hq
    simp only [Bool.and_eq_true, Bool.not_eq_true'] at hq
    rw [hw hq.1.1 hq.1.2] at hq
    cases hq.2
  · exact congrArg (fun q => q.pole x) (finishBut_ps_of_not skip old h)

end Placed

section Expiries

variable {s u : State}

/-- What an event answers that occurs. -/
theorem exec_of_body {c : Instr} (hb : s.body c = some u) : exec c s = .next (u.finish s) := by
  have hc : endsEvent c = true := by
    unfold endsEvent
    cases c <;> first | rfl | cases hb
  rw [exec_event hc, afterEvent_some hb]

/-- An event that does not occur changes nothing. -/
theorem exec_of_no_body {c : Instr} (hc : endsEvent c = true) (hb : s.body c = none) : exec c s = .next s := by
  rw [exec_event hc, afterEvent_none hb]

theorem newStop_of_alc (h : u.alc = s.alc) : u.newStop s = false := by
  refine List.any_eq_false.2 fun e he => ?_
  by_cases hc : e.cause = .deskStop
  · have hlisted : s.listed e.source .deskStop = true :=
      List.any_eq_true.2 ⟨e, by simpa [State.alarms, h] using he, by simp [AlarmEntry.hasKey, hc]⟩
    simp [hlisted]
  · simp [hc]

theorem abandons_of_kept (hm : u.rsq.mode = s.rsq.mode) (h : u.newStop s = false) : u.abandons s = false := by
  unfold State.abandons
  rw [hm, h]
  simp

/-- A pole held for qualification stays so at an event's end that ends no raise. -/
theorem placedPole_of_qualifying (ha : u.abandons s = false) {x : PoleId} (hq : (u.pole x).isQualifying = true) :
    u.placedPole s x = u.pole x := by
  have habandoned : u.abandonedPole s x = u.pole x := by simp [State.abandonedPole, ha]
  unfold State.placedPole State.settledPole
  rw [habandoned]
  by_cases hr : (u.pole x).state = .initial
  · have hqualifying : (u.pole x).qualifying = true := by simpa [Pole.isQualifying, hr] using hq
    simp [hqualifying]
  · simp [hr]

theorem initial_qualifying {r : Pole} (hq : r.isQualifying = true) (hi : r.state = .initial) : r.qualifying = true := by
  simpa [Pole.isQualifying, hi] using hq

/-! ### The qualify timer (R8) -/

theorem qualifyDue_iff (s : State) (x : PoleId) : s.qualifyDue x = true ↔ Reached (s.pole x).qualifyTimer s.poleCfg.qualifyMs :=
  due_iff _ _

theorem pole_other_ne (x : PoleId) : x.other ≠ x := by cases x <;> decide

theorem other_other (x : PoleId) : x.other.other = x := by cases x <;> rfl

theorem qualifiedOn_steady {x : PoleId} (ha : u.abandons s = false) (h : (u.pole x).state = .onWire) :
    (u.finish s).pole x = u.pole x :=
  finishBut_pole_steady none s x (fun _ => ha) (fun hi => by rw [h] at hi; cases hi)
    (fun hq => by simp [Pole.isQualifying, h] at hq)

/-- Settles O42: a qualified pole goes on the wire alone, with the other, or waits for it. -/
theorem qualifyExpires : Obligations.QualifyExpires := by
  refine ⟨fun s x h => exec_of_no_body rfl (if_neg (mt (qualifyDue_iff s x).1 h)), fun s x h hq => ?_⟩
  have hbody : s.body (.qualifyTimerExpiry x) = some (s.qualifyExpired x) := if_pos ((qualifyDue_iff s x).2 h)
  refine ⟨_, exec_of_body hbody, ?_⟩
  have hruns : (s.pole x).qualifyTimer.isSome = true := by
    obtain ⟨n, hn, -⟩ := h
    rw [hn]; rfl
  have hguard : ((s.pole x).isQualifying && (s.pole x).qualifyTimer.isSome) = true := by rw [hq, hruns]; rfl
  dsimp only
  by_cases ho : (s.pole x.other).isQualifying = true
  · rw [if_neg (by rw [ho]; decide)]
    by_cases hoq : (s.pole x.other).qualified = true
    · rw [if_pos hoq]
      have hu : s.qualifyExpired x = (s.putOnWire x).putOnWire x.other := by
        simp only [State.qualifyExpired, hguard, ho, hoq, if_true, Bool.not_true, Bool.false_eq_true, if_false]
      have ha : (s.qualifyExpired x).abandons s = false :=
        abandons_of_kept (by rw [hu]; rfl) (newStop_of_alc (by rw [hu]; rfl))
      have hx : (s.qualifyExpired x).pole x = (s.pole x).qualifiedOn := by
        rw [hu, State.putOnWire, withPole_pole, if_neg (pole_other_ne x).symm, State.putOnWire, withPole_pole, if_pos rfl]
      have hother : (s.qualifyExpired x).pole x.other = (s.pole x.other).qualifiedOn := by
        rw [hu, State.putOnWire, withPole_pole, if_pos rfl, State.putOnWire, withPole_pole, if_neg (pole_other_ne x)]
      exact ⟨(qualifiedOn_steady ha (by rw [hx]; rfl)).trans hx, (qualifiedOn_steady ha (by rw [hother]; rfl)).trans hother⟩
    · rw [if_neg hoq]
      have hu : s.qualifyExpired x = s.withPole x { s.pole x with qualified := true, qualifyTimer := none, stateTimer := none } := by
        simp only [State.qualifyExpired, hguard, ho, hoq, if_true, Bool.not_true, Bool.false_eq_true, if_false]
      have ha : (s.qualifyExpired x).abandons s = false :=
        abandons_of_kept (by rw [hu]; rfl) (newStop_of_alc (by rw [hu]; rfl))
      have hx : (s.qualifyExpired x).pole x = { s.pole x with qualified := true, qualifyTimer := none, stateTimer := none } := by
        rw [hu, withPole_pole, if_pos rfl]
      have hother : (s.qualifyExpired x).pole x.other = s.pole x.other := by
        rw [hu, withPole_pole, if_neg (pole_other_ne x)]
      refine ⟨(finishBut_pole_steady none s x (fun _ => ha) ?_ ?_).trans hx,
        (finishBut_pole_steady none s x.other (fun _ => ha) ?_ ?_).trans hother⟩
      · rw [hx]
        exact fun hi => initial_qualifying hq hi
      · intro _ _
        rw [placedPole_of_qualifying ha (by rw [hother]; exact ho), hother, ho]
      · rw [hother]
        exact fun hi => initial_qualifying ho hi
      · rw [hother]
        exact fun _ hqualified => absurd hqualified hoq
  · have hof : (s.pole x.other).isQualifying = false := by simpa using ho
    rw [if_pos hof]
    have hu : s.qualifyExpired x = s.putOnWire x := by
      simp only [State.qualifyExpired, hguard, hof, if_true, Bool.not_false]
    have ha : (s.qualifyExpired x).abandons s = false :=
      abandons_of_kept (by rw [hu]; rfl) (newStop_of_alc (by rw [hu]; rfl))
    have hx : (s.qualifyExpired x).pole x = (s.pole x).qualifiedOn := by rw [hu, State.putOnWire, withPole_pole, if_pos rfl]
    exact (qualifiedOn_steady ha (by rw [hx]; rfl)).trans hx

end Expiries

end Machine
end Sys2Proof

/-!
PROOFS. What an event's end leaves of the alarm list, and the expiries of the poles' timers (R10 to R18, R22, R23, R32 to
R34; O43, O44).
-/

namespace Sys2Proof
namespace Machine

section ListEnd

variable {s t u old : State} {c : Cause}

/-! ### The alarm list at the end of an event (R24 to R26, R34) -/

/-- What depends on the rounds, the alarm list and the configuration alone, and what the event's raise of SENSOR_LOSS and the
clearing of an ACKNOWLEDGED own entry keep, an event's end keeps. -/
theorem finishBut_alarms_keep_of_loss {P : State → Prop} (skip : Option (Fin 8)) (old : State)
    (hsame : ∀ t v : State, v.rsq = t.rsq → v.alc = t.alc → v.cfs = t.cfs → P t → P v)
    (hloss : u.role = .pole → u.ps.supervising = true → P (u.polesPlaced old) → P ((u.polesPlaced old).raiseSensorLoss old))
    (hclear : ∀ t c, t.ownAcknowledged c = true → P t → P (t.clearOwn c)) (h : P u) : P (u.finishBut skip old) := by
  obtain ⟨-, hrsq, -, halc, -⟩ := finishBut_blocks skip u old
  have hsensor (t : State) (ht : P t) : P t.clearSensorLoss := by
    unfold State.clearSensorLoss
    split
    next hc =>
      simp only [Bool.and_eq_true] at hc
      obtain ⟨⟨⟨hc, -⟩, -⟩, -⟩ := hc
      exact hclear t _ hc ht
    · exact ht
  have hdrop (t : State) (x : PoleId) (ht : P t) : P (t.clearDrop x) := by
    unfold State.clearDrop
    split
    next hc =>
      rw [Bool.and_eq_true] at hc
      exact hclear t _ hc.1 ht
    · exact ht
  have hstop (t : State) (ht : P t) : P t.clearStop := by
    unfold State.clearStop
    split
    next hc =>
      rw [Bool.and_eq_true] at hc
      exact hclear t _ hc.1 ht
    · exact ht
  have hpoles : P (u.polesEnd old) := by
    by_cases hp : u.role = .pole ∧ u.ps.supervising = true
    · rw [polesEnd_of_supervising hp.1 hp.2]
      have hplaced : P (u.polesPlaced old) := hsame u _ (by simp) (by simp) (by simp) h
      have hlisted : P ((u.polesPlaced old).polesListed old) := hdrop _ .n (hdrop _ .p (hsensor _ (hloss hp.1 hp.2 hplaced)))
      exact hsame _ _ (by simp) (by simp) (by simp) hlisted
    · rw [polesEnd_of_not hp]
      exact h
  by_cases hm : u.rsq.mode = .config
  · rw [blocksEnd_of_config hm] at halc hrsq
    exact hsame u _ hrsq halc (by simp) h
  · rw [blocksEnd_of_joined hm] at halc hrsq
    exact hsame (u.reviewed old) _ (by simpa using hrsq) (by simpa using halc) (by simp [State.reviewed]) (hstop _ hpoles)

/-- What any raise of SENSOR_LOSS keeps, the raise of an event keeps. -/
theorem finishBut_alarms_keep {P : State → Prop} (skip : Option (Fin 8)) (old : State)
    (hsame : ∀ t v : State, v.rsq = t.rsq → v.alc = t.alc → v.cfs = t.cfs → P t → P v)
    (hraise : ∀ t d, P t → P (t.raiseOwn .sensorLoss d))
    (hclear : ∀ t c, t.ownAcknowledged c = true → P t → P (t.clearOwn c)) (h : P u) : P (u.finishBut skip old) := by
  refine finishBut_alarms_keep_of_loss skip old hsame (fun _ _ hplaced => ?_) hclear h
  unfold State.raiseSensorLoss
  split
  · exact hraise _ _ hplaced
  · exact hplaced

/-- The own entries of a cause stand PENDING, and one at least is listed. -/
def OwnPending (c : Cause) (s : State) : Prop := s.ownEntries c ≠ [] ∧ ∀ e ∈ s.ownEntries c, e.state = .pending

theorem mem_ownEntries {e : AlarmEntry} : e ∈ s.ownEntries c ↔ e ∈ s.alarms ∧ e.hasKey (.station s.own) c = true :=
  List.mem_filter

theorem ownEntries_eq_nil_iff : s.ownEntries c = [] ↔ s.ownListed c = false := by
  rw [State.ownEntries, State.ownListed, State.listed, List.filter_eq_nil_iff, List.any_eq_false]

theorem OwnPending.listed (h : OwnPending c s) : ListedPending (.station s.own) c s := by
  obtain ⟨hne, hall⟩ := h
  obtain ⟨e, he⟩ := List.exists_mem_of_ne_nil _ hne
  exact ⟨e, (mem_ownEntries.1 he).1, (mem_ownEntries.1 he).2, hall e he⟩

theorem OwnPending.congr (h : OwnPending c s) (halc : t.alc = s.alc) (hcfs : t.cfs = s.cfs) : OwnPending c t := by
  unfold OwnPending
  rw [ownEntries_congr halc hcfs]
  exact h

theorem ownEntries_withAlarms (s : State) (l : List AlarmEntry) :
    (s.withAlarms l).ownEntries c = l.filter (AlarmEntry.hasKey (.station s.own) c) := rfl

/-- The own entries of a cause that a raise has a place for are PENDING afterwards (R32, R33). -/
theorem ownPending_raiseOwn (d : Option SensorDetail) (h : HasPlace (.station s.own) c s) : OwnPending c (s.raiseOwn c d) := by
  unfold State.raiseOwn
  dsimp only
  split
  next hl =>
    refine ⟨fun hnil => ?_, fun e he => ?_⟩
    · obtain ⟨e, he, hk⟩ := List.any_eq_true.mp hl
      rw [ownEntries_withAlarms, List.filter_eq_nil_iff] at hnil
      refine hnil _ (List.mem_map.2 ⟨e, he, rfl⟩) ?_
      rw [if_pos hk]
      exact hk
    · rw [ownEntries_withAlarms, List.mem_filter] at he
      obtain ⟨hmem, hkey⟩ := he
      obtain ⟨e', -, rfl⟩ := List.mem_map.1 hmem
      by_cases hk : e'.hasKey (.station s.own) c = true
      · rw [if_pos hk]
        rfl
      · rw [if_neg hk] at hkey
        exact absurd hkey hk
  next hl =>
    have hroom : s.alarms.length < Figures.alarmCapacity := h.resolve_left hl
    have hnone : s.alarms.filter (AlarmEntry.hasKey (.station s.own) c) = [] :=
      ownEntries_eq_nil_iff.2 (by simpa [State.ownListed] using hl)
    rw [if_pos hroom, OwnPending, ownEntries_withAlarms, List.filter_append, hnone, List.nil_append,
      List.filter_cons_of_pos (by simp), List.filter_nil]
    exact ⟨List.cons_ne_nil _ _, fun e he => by rw [List.mem_singleton.1 he]; rfl⟩

theorem not_ownAcknowledged_of_pending (h : OwnPending c s) : s.ownAcknowledged c = false := by
  refine List.any_eq_false.2 fun e he hk => ?_
  rw [Bool.and_eq_true, beq_iff_eq] at hk
  have := h.2 e (mem_ownEntries.2 ⟨he, hk.1⟩)
  rw [hk.2] at this
  cases this

/-- A PENDING own entry stays PENDING to the end of the event. -/
theorem ownPending_finishBut (skip : Option (Fin 8)) (old : State) (h : OwnPending c u) :
    OwnPending c (u.finishBut skip old) := by
  refine finishBut_alarms_keep skip old (fun _ _ _ halc hcfs ht => ht.congr halc hcfs) (fun t d ht => ?_) (fun t x hx ht => ?_) h
  · by_cases hc : c = .sensorLoss
    · subst hc
      refine ownPending_raiseOwn d (.inl ?_)
      rw [← Bool.not_eq_false]
      exact fun hnot => ht.1 (ownEntries_eq_nil_iff.2 hnot)
    · unfold OwnPending
      rw [ownEntries_raiseOwn t d hc]
      exact ht
  · have hne : c ≠ x := fun hcx => by
      subst hcx
      rw [not_ownAcknowledged_of_pending ht] at hx
      cases hx
    unfold OwnPending
    rw [ownEntries_clearOwn, if_neg hne]
    exact ht

/-- A raise that has a place is listed PENDING when the event has ended. -/
theorem listedPending_raised (d : Option SensorDetail) (old : State) (h : HasPlace (.station s.own) c s) :
    ListedPending (.station s.own) c ((s.raiseOwn c d).finish old) := by
  have hown : ((s.raiseOwn c d).finish old).own = s.own := own_congr (by simp)
  rw [← hown]
  exact (ownPending_finishBut none old (ownPending_raiseOwn d h)).listed

/-- What a raise may add to the list is an own entry of its cause, PENDING. -/
theorem mem_raiseOwn (d : Option SensorDetail) {e : AlarmEntry} (he : e ∈ (s.raiseOwn c d).alarms) :
    e ∈ s.alarms ∨ e.key = (.station s.own, c) ∧ e.state = .pending := by
  have hnew (l : List AlarmEntry) (hl : ∀ e ∈ l, e ∈ s.alarms)
      (he : e ∈ l ++ [newEntry (.station s.own) c .pending .localRaise d]) :
      e ∈ s.alarms ∨ e.key = (.station s.own, c) ∧ e.state = .pending := by
    rcases List.mem_append.1 he with he | he
    · exact .inl (hl e he)
    · rw [List.mem_singleton.1 he]
      exact .inr ⟨rfl, rfl⟩
  unfold State.raiseOwn at he
  dsimp only at he
  split at he
  · obtain ⟨e', he', rfl⟩ := List.mem_map.1 he
    by_cases hk : e'.hasKey (.station s.own) c = true
    · rw [if_pos hk]
      exact .inr ⟨(hasKey_iff _ _ _).1 hk, rfl⟩
    · rw [if_neg hk]
      exact .inl he'
  · split at he
    · exact hnew _ (fun _ h => h) he
    · split at he
      · exact hnew _ (fun _ h => List.mem_of_mem_eraseP h) he
      · exact .inl he

/-- A raise of another cause lists no DESK_STOP anew. -/
theorem newStop_raiseOwn (d : Option SensorDetail) (hc : c ≠ .deskStop) (h : t.alc = s.alc) :
    (t.raiseOwn c d).newStop s = false := by
  refine List.any_eq_false.2 fun e he => ?_
  rcases mem_raiseOwn d he with he | ⟨hkey, -⟩
  · exact List.any_eq_false.1 (newStop_of_alc h) e he
  · have hcause : e.cause = c := congrArg Prod.snd hkey
    simp [hcause, hc]

theorem dropCause_ne (x : PoleId) : dropCause x ≠ .deskStop := by cases x <;> decide

end ListEnd

section PoleExpiries

variable {s u : State}

/-- A pole neither raising nor unsettled stays as it is to the end of the event. -/
theorem finish_pole_at_rest (old : State) (x : PoleId) (hr : (u.pole x).state ≠ .raising)
    (hi : (u.pole x).state ≠ .initial) : (u.finish old).pole x = u.pole x := by
  refine finishBut_pole_steady none old x (fun h => absurd h hr) (fun h => absurd h hi) (fun hq => ?_)
  simp [Pole.isQualifying, hr, hi] at hq

theorem placedPole_at_rest (old : State) (x : PoleId) (hr : (u.pole x).state ≠ .raising) (hi : (u.pole x).state ≠ .initial) :
    u.placedPole old x = u.pole x := by
  simp [State.placedPole, State.settledPole, State.abandonedPole, hr, hi]

theorem lowered_state (r : Pole) (stowed : Bool) :
    (r.lowered stowed).state ≠ .raising ∧ (r.lowered stowed).state ≠ .initial := by
  cases stowed <;> simp [Pole.lowered]

/-- R17: a pole lowered in an event. -/
theorem finish_pole_lowered (old : State) {x : PoleId} {r : Pole} {stowed : Bool} (h : u.pole x = r.lowered stowed) :
    (u.finish old).pole x = r.lowered stowed := by
  rw [← h]
  refine finish_pole_at_rest old x ?_ ?_
  · rw [h]; exact (lowered_state r stowed).1
  · rw [h]; exact (lowered_state r stowed).2

theorem lower_pole (s : State) (x : PoleId) : (s.lower x).pole x = (s.pole x).lowered (s.stowedClosed x) := by
  rw [State.lower, withPole_pole, if_pos rfl]

theorem stowedClosed_congr {t : State} (hcfs : t.cfs = s.cfs) (hiou : t.iou = s.iou) (x : PoleId) :
    t.stowedClosed x = s.stowedClosed x := by
  simp only [State.stowedClosed, State.stowedInput, State.inputActive, State.inputFn, hcfs, hiou]

theorem pole_congr {t : State} (h : t.ps = s.ps) (x : PoleId) : t.pole x = s.pole x := by
  cases x <;> simp [State.pole, h]

theorem drop_pole (s : State) (x : PoleId) :
    (s.drop x).pole x = ({ s.pole x with drops := min 255 ((s.pole x).drops + 1) } : Pole).lowered (s.stowedClosed x) := by
  unfold State.drop
  dsimp only
  rw [pole_congr (raiseOwn_frame _ _ _).2.2.2.2.2.1, lower_pole, withPole_pole, if_pos rfl]
  rfl

theorem due_isSome {timer : Timer} {n : Nat} (h : timer.due n = true) : timer.isSome = true := by
  obtain ⟨k, hk, -⟩ := (due_iff timer n).1 h
  rw [hk]
  rfl

/-! ### Raise, confirm, quiet, lower-wait and lower timers (R10, R12, R15 to R17) -/

/-- R10: a raise that fails leaves the pole lowered, and the other pole that waited on the wire. -/
theorem raiseMaxExpired_ends (x : PoleId) (hr : (s.pole x).state = .raising) (hd : Reached (s.pole x).stateTimer s.poleCfg.raiseMax) :
    ∃ t, exec (.raiseMaxExpiry x) s = .next t ∧
      t.pole x = { (s.pole x).lowered (s.stowedClosed x) with outcome := .raiseFailed } ∧
      (s.rsq.mode ≠ .config → s.role = .pole → s.ps.supervising = true → (s.pole x.other).isQualifying = true →
        (s.pole x.other).qualified = true → (t.pole x.other).state = .onWire) := by
  have hdue := (due_iff _ _).2 hd
  have hb : s.body (.raiseMaxExpiry x) = some (s.raiseMaxExpired x) := if_pos (by simp [State.raiseMaxDue, hr, hdue])
  have hu : s.raiseMaxExpired x = (s.withPole x { s.pole x with outcome := .raiseFailed }).lower x := by
    simp [State.raiseMaxExpired, hr, due_isSome hdue]
  set u := s.raiseMaxExpired x with hudef
  have hx : u.pole x = ({ s.pole x with outcome := .raiseFailed } : Pole).lowered (s.stowedClosed x) := by
    rw [hu, lower_pole, withPole_pole, if_pos rfl]
    rfl
  have hother : u.pole x.other = s.pole x.other := by
    rw [hu, State.lower, withPole_pole, if_neg (pole_other_ne x), withPole_pole, if_neg (pole_other_ne x)]
  refine ⟨_, exec_of_body hb, finish_pole_lowered s hx, fun hm hp hs hq hqualified => ?_⟩
  have hs' : u.ps.supervising = true := by
    rw [hu, State.lower, withPole_supervising, withPole_supervising]
    exact hs
  have ha : u.abandons s = false := abandons_of_kept (by rw [hu]; rfl) (newStop_of_alc (by rw [hu]; rfl))
  rw [State.finish, finishBut_pole none s (by rw [hu]; exact hm) (by rw [hu]; exact hp) hs', other_other,
    placedPole_of_qualifying ha (by rw [hother]; exact hq), hother,
    placedPole_at_rest s x (by rw [hx]; exact (lowered_state _ _).1) (by rw [hx]; exact (lowered_state _ _).2), hx]
  have hdown : (({ s.pole x with outcome := .raiseFailed } : Pole).lowered (s.stowedClosed x)).isQualifying = false := by
    simp [Pole.isQualifying, lowered_state]
  rw [Pole.waited, hq, hqualified, hdown]
  rfl

theorem confirmExpired_ends (x : PoleId) (line : LineLevel)
    (hr : (s.pole x).state = .suspect ∨ (s.pole x).state = .lowerWait) (hd : Reached (s.pole x).confirmTimer s.poleCfg.confirmMs) :
    ∃ t, exec (.confirmTimerExpiry x line) s = .next t ∧
      t.pole x =
        ({ s.pole x with drops := min 255 ((s.pole x).drops + 1) } : Pole).lowered (s.stowedClosed x) ∧
      (HasPlace (.station s.own) (dropCause x) s → ListedPending (.station s.own) (dropCause x) t) := by
  have hdue := (due_iff _ _).2 hd
  have hb : s.body (.confirmTimerExpiry x line) = some ((s.sense line).confirmExpired x) := if_pos hdue
  have hpole : (s.sense line).pole x = s.pole x := pole_congr (by simp) x
  have hu : (s.sense line).confirmExpired x = (s.sense line).drop x := by
    unfold State.confirmExpired
    rw [hpole]
    rcases hr with hr | hr <;> simp [hr, due_isSome hdue]
  have hx : ((s.sense line).drop x).pole x =
      ({ s.pole x with drops := min 255 ((s.pole x).drops + 1) } : Pole).lowered (s.stowedClosed x) := by
    rw [drop_pole, hpole, stowedClosed_congr (s := s) (by simp) (by simp)]
  refine ⟨_, exec_of_body hb, ?_, fun hplace => ?_⟩
  · rw [hu]
    exact finish_pole_lowered s hx
  · rw [hu, State.drop]
    set v := ((s.sense line).withPole x
      { (s.sense line).pole x with drops := satInc 255 ((s.sense line).pole x).drops }).lower x with hv
    have hown : v.own = s.own := own_congr (by simp [hv])
    rw [← hown]
    refine listedPending_raised none s ?_
    have halc : v.alc = s.alc := by simp [hv, State.lower]
    unfold HasPlace State.listed State.alarms at hplace ⊢
    rw [hown, halc]
    exact hplace

theorem loweredBy {c : Instr} {x : PoleId} (hb : s.body c = some (s.lower x)) :
    ∃ t, exec c s = .next t ∧ t.pole x = (s.pole x).lowered (s.stowedClosed x) :=
  ⟨_, exec_of_body hb, finish_pole_lowered s (lower_pole s x)⟩

theorem quietExpired_ends (x : PoleId) (hr : (s.pole x).state = .lowerWait) (hd : Reached (s.pole x).quietTimer 20) :
    ∃ t, exec (.quietTimerExpiry x) s = .next t ∧ t.pole x = (s.pole x).lowered (s.stowedClosed x) := by
  have hdue := (due_iff _ _).2 hd
  have hu : s.quietExpired x = s.lower x := by simp [State.quietExpired, hr, due_isSome hdue]
  exact loweredBy (by rw [State.body, if_pos (show s.quietDue x = true from hdue), hu])

theorem lowerWaitExpired_ends (x : PoleId) (hr : (s.pole x).state = .lowerWait)
    (hd : Reached (s.pole x).stateTimer s.poleCfg.lowerWaitMax) :
    ∃ t, exec (.lowerWaitMaxExpiry x) s = .next t ∧ t.pole x = (s.pole x).lowered (s.stowedClosed x) := by
  have hdue := (due_iff _ _).2 hd
  have hu : s.lowerWaitExpired x = s.lower x := by simp [State.lowerWaitExpired, hr, due_isSome hdue]
  exact loweredBy (by rw [State.body, if_pos (by simp [State.lowerWaitDue, hr, hdue]), hu])

theorem lowerMaxExpired_ends (x : PoleId) (hr : (s.pole x).state = .lowering)
    (hd : Reached (s.pole x).stateTimer s.poleCfg.lowerMax) :
    ∃ t, exec (.lowerMaxExpiry x) s = .next t ∧
      t.pole x = { s.pole x with state := .stuck, stateTimer := none, outcome := .lowerFailed } := by
  have hdue := (due_iff _ _).2 hd
  have hu : s.lowerMaxExpired x = s.withPole x { s.pole x with state := .stuck, stateTimer := none, outcome := .lowerFailed } := by
    simp [State.lowerMaxExpired, hr, due_isSome hdue]
  have hb : s.body (.lowerMaxExpiry x) = some (s.lowerMaxExpired x) := if_pos (by simp [State.lowerMaxDue, hr, hdue])
  have hx : (s.lowerMaxExpired x).pole x = { s.pole x with state := .stuck, stateTimer := none, outcome := .lowerFailed } := by
    rw [hu, withPole_pole, if_pos rfl]
  exact ⟨_, exec_of_body hb, (finish_pole_at_rest s x (by rw [hx]; simp) (by rw [hx]; simp)).trans hx⟩

/-- Settles O43: the five timers of a pole, each by itself. -/
theorem poleTimersExpire : Obligations.PoleTimersExpire := by
  intro s x line
  have state_and {p : PoleState} {timer : Timer} {n : Nat} (h : ¬((s.pole x).state = p ∧ Reached timer n)) :
      ¬((s.pole x).state == p && timer.due n) = true := by
    rw [Bool.and_eq_true, beq_iff_eq, due_iff]
    exact h
  exact ⟨fun h => exec_of_no_body rfl (if_neg (state_and h)), fun h => exec_of_no_body rfl (if_neg (mt (due_iff _ _).1 h)),
    fun h => exec_of_no_body rfl (if_neg (mt (due_iff _ _).1 h)), fun h => exec_of_no_body rfl (if_neg (state_and h)),
    fun h => exec_of_no_body rfl (if_neg (state_and h)), raiseMaxExpired_ends x, confirmExpired_ends x line,
    quietExpired_ends x, lowerWaitExpired_ends x, lowerMaxExpired_ends x⟩

end PoleExpiries

end Machine
end Sys2Proof

/-!
PROOFS. The Pole Supervisor as a whole at the end of an event, and the timers of the gap and of a restored line (R21 to
R23; O44).
-/

namespace Sys2Proof
namespace Machine

section SupervisorEnd

variable {s t u old : State} {c : Cause}

/-! ### The Pole Supervisor at the end of an event -/

/-- Pole `x` as an event's end leaves it, in a POLE station under supervision. -/
def State.endPole (u old : State) (x : PoleId) : Pole := (u.placedPole old x).waited (u.placedPole old x.other)

/-- R23: the restore-qualify timer as an event's end leaves it. -/
def State.endRestoreQualify (u : State) : Timer :=
  if u.ownListed .lineLoss && u.ps.band != .none then u.ps.restoreQualifyTimer <|> Timer.started else none

theorem withPole_ps (s : State) (x : PoleId) (r : Pole) :
    (s.withPole x r).ps = { s.ps with poleP := (s.withPole x r).pole .p, poleN := (s.withPole x r).pole .n } := by
  cases x <;> rfl

theorem gapRule_poles (ps : PoleSupervisor) : ps.gapRule.poleP = ps.poleP ∧ ps.gapRule.poleN = ps.poleN := by
  unfold PoleSupervisor.gapRule
  split
  · split <;> exact ⟨rfl, rfl⟩
  · split <;> exact ⟨rfl, rfl⟩

theorem gapRule_frame (ps : PoleSupervisor) :
    ps.gapRule.band = ps.band ∧ ps.gapRule.lineVoltage = ps.lineVoltage ∧ ps.gapRule.supervising = ps.supervising ∧
      ps.gapRule.restoreQualifyTimer = ps.restoreQualifyTimer := by
  unfold PoleSupervisor.gapRule
  split
  · split <;> exact ⟨rfl, rfl, rfl, rfl⟩
  · split <;> exact ⟨rfl, rfl, rfl, rfl⟩

theorem gapRule_restoreQualifyTimer (ps : PoleSupervisor) (x : Timer) :
    { ps with restoreQualifyTimer := x }.gapRule = { ps.gapRule with restoreQualifyTimer := x } := by
  unfold PoleSupervisor.gapRule
  split
  · split <;> rfl
  · split <;> rfl

/-- R4, R9, R10, R21: the Pole Supervisor once the poles have been placed. -/
theorem polesPlaced_ps (u old : State) :
    (u.polesPlaced old).ps = { u.ps with poleP := u.endPole old .p, poleN := u.endPole old .n }.gapRule := by
  have hp := polesPlaced_pole u old .p
  have hn := polesPlaced_pole u old .n
  unfold State.polesPlaced at hp hn ⊢
  dsimp only at hp hn ⊢
  set b := ((((u.abandonRaise old .p).abandonRaise old .n).settle .p).settle .n).endWait .p |>.endWait .n with hb
  have hps : b.ps = { u.ps with poleP := b.pole .p, poleN := b.pole .n } := by
    rw [hb, endWait_eq, endWait_eq, settle_eq, settle_eq, abandonRaise_eq, abandonRaise_eq]
    simp only [withPole_ps]
  have hbp : b.pole .p = u.endPole old .p := (gapRule_poles b.ps).1.symm.trans hp
  have hbn : b.pole .n = u.endPole old .n := (gapRule_poles b.ps).2.symm.trans hn
  rw [withPs_ps, hps, hbp, hbn]

theorem ownListed_congr (h : t.ownEntries c = s.ownEntries c) : t.ownListed c = s.ownListed c := by
  have hiff : t.ownListed c = false ↔ s.ownListed c = false := by
    rw [← ownEntries_eq_nil_iff, ← ownEntries_eq_nil_iff, h]
  cases hs : s.ownListed c with
  | false => exact hiff.2 hs
  | true => simpa [hs] using hiff

/-- The listing of the poles' entries leaves the LINE_LOSS entry alone. -/
theorem ownEntries_polesListed (d old : State) (h : c ≠ .sensorLoss) (hx : ∀ x, c ≠ dropCause x) :
    (d.polesListed old).ownEntries c = d.ownEntries c := by
  rw [State.polesListed, ownEntries_clearDrop _ _ (hx .n), ownEntries_clearDrop _ _ (hx .p), ownEntries_clearSensorLoss _ h,
    ownEntries_raiseSensorLoss _ _ h]

/-- The Pole Supervisor after an event's end, in a POLE station under supervision (R4, R9, R10, R21, R23). -/
theorem finishBut_ps (skip : Option (Fin 8)) (old : State) (hm : u.rsq.mode ≠ .config) (hp : u.role = .pole)
    (hs : u.ps.supervising = true) :
    (u.finishBut skip old).ps =
      { u.ps with
        poleP := u.endPole old .p
        poleN := u.endPole old .n
        restoreQualifyTimer := u.endRestoreQualify }.gapRule := by
  obtain ⟨-, -, hps, -⟩ := finishBut_blocks skip u old
  rw [hps, blocksEnd_of_joined hm]
  simp only [examineBreak_frame, caSettle_frame, State.reviewed, clearStop_frame]
  rw [polesEnd_of_supervising hp hs]
  have hlisted : ((u.polesPlaced old).polesListed old).ps = (u.polesPlaced old).ps := by
    refine polesListed_keeps (P := fun t => t.ps = (u.polesPlaced old).ps) (fun t c d h => ?_) (fun t c h => ?_) rfl old
    · simpa using h
    · simpa using h
  have hloss : ((u.polesPlaced old).polesListed old).ownListed .lineLoss = u.ownListed .lineLoss := by
    refine ownListed_congr ?_
    rw [ownEntries_polesListed _ _ (by decide) (fun x => by cases x <;> decide), ownEntries_congr (s := u) (by simp) (by simp)]
  have hband : (u.polesPlaced old).ps.band = u.ps.band ∧
      (u.polesPlaced old).ps.restoreQualifyTimer = u.ps.restoreQualifyTimer := by
    rw [polesPlaced_ps]
    obtain ⟨hb, -, -, ht⟩ := gapRule_frame { u.ps with poleP := u.endPole old .p, poleN := u.endPole old .n }
    exact ⟨hb, ht⟩
  rw [State.restoreQualifyRule, withPs_ps, hlisted, hloss, hband.1, hband.2, polesPlaced_ps]
  exact (gapRule_restoreQualifyTimer { u.ps with poleP := u.endPole old .p, poleN := u.endPole old .n } _).symm

/-- A cause that no own entry has, and that no event's end raises. -/
theorem not_ownListed_finishBut (skip : Option (Fin 8)) (old : State) (hc : c ≠ .sensorLoss) (h : u.ownListed c = false) :
    (u.finishBut skip old).ownListed c = false := by
  rw [← ownEntries_eq_nil_iff] at h ⊢
  refine finishBut_alarms_keep (P := fun t => t.ownEntries c = []) skip old (fun t v _ halc hcfs ht => ?_) (fun t d ht => ?_)
    (fun t x _ ht => ?_) h
  · exact (ownEntries_congr halc hcfs c).trans ht
  · exact (ownEntries_raiseOwn t d hc).trans ht
  · show (t.clearOwn x).ownEntries c = []
    rw [ownEntries_clearOwn, ht, ite_self]

theorem mem_queue_placeInternal {n : Notice} (m : Notice) (h : n ∈ s.rsq.queue) : n ∈ (s.placeInternal m).rsq.queue := by
  unfold State.placeInternal
  split
  · exact h
  · split
    · exact List.mem_append_left _ h
    · exact h

/-- A notice queued stays queued to the event's end. -/
theorem mem_queue_finishBut {n : Notice} (skip : Option (Fin 8)) (old : State) (h : n ∈ u.rsq.queue) :
    n ∈ (u.finishBut skip old).rsq.queue := by
  refine finishBut_alarms_keep (P := fun t => n ∈ t.rsq.queue) skip old (fun t v hrsq _ _ ht => ?_) (fun t d ht => ?_)
    (fun t x _ ht => ?_) h
  · simpa only [hrsq] using ht
  · simpa using ht
  · exact mem_queue_placeInternal _ (by simpa using ht)

/-- R42: a cleared cause with room in the queue and none held: its notice is queued. -/
theorem mem_queue_clearOwn (h : s.queueRoom = true) (hh : s.rsq.holding = none) (c : Cause) :
    .clear c ∈ (s.clearOwn c).rsq.queue := by
  unfold State.clearOwn State.placeInternal
  split
  next hw => simpa [State.noticeWaiting, hh] using hw
  · rw [if_pos (show (s.withAlarms (removeEntry (.station s.own) c s.alarms)).queueRoom = true from h)]
    exact List.mem_append_right _ (List.mem_singleton.2 rfl)

theorem alarmEffect_of_listed {src : Source} (hc : givesAlarm c = true) (h : ListedPending src c s) : s.alarmEffect = true := by
  obtain ⟨e, he, hkey, -⟩ := h
  rw [hasKey_iff, AlarmEntry.key, Prod.mk.injEq] at hkey
  have : s.alarms.any (fun e => givesAlarm e.cause) = true := List.any_eq_true.2 ⟨e, he, by rw [hkey.2]; exact hc⟩
  simp [State.alarmEffect, this]

theorem judgeLine_of_alarm (h : s.alarmEffect = true) : s.judgeLine = .alarm := by
  unfold State.judgeLine
  rw [if_pos h]

/-- A pole on the wire or in doubt, and one raised or settled by no rule, stays through the event's end. -/
theorem endPole_of_onOrSuspect (old : State) {x : PoleId} (h : (u.pole x).onOrSuspect = true) : u.endPole old x = u.pole x := by
  have hstate : (u.pole x).state = .onWire ∨ (u.pole x).state = .suspect := by simpa [Pole.onOrSuspect] using h
  have hr : (u.pole x).state ≠ .raising := by rcases hstate with hs | hs <;> simp [hs]
  have hi : (u.pole x).state ≠ .initial := by rcases hstate with hs | hs <;> simp [hs]
  unfold State.endPole
  rw [placedPole_at_rest old x hr hi, Pole.waited]
  simp [Pole.isQualifying, hr, hi]

/-- R21: a gap that still holds keeps its flag and leaves the timer as it is. -/
theorem finish_gap_kept (old : State) (hf : u.ps.gapFlag = true) (hb : u.ps.band = .none)
    (hx : ∀ x, (u.pole x).onOrSuspect = true) :
    (u.finish old).ps.gapFlag = true ∧ (u.finish old).ps.gapTimer = u.ps.gapTimer := by
  by_cases h : u.rsq.mode ≠ .config ∧ u.role = .pole ∧ u.ps.supervising = true
  · rw [State.finish, finishBut_ps none old h.1 h.2.1 h.2.2, endPole_of_onOrSuspect old (hx .p),
      endPole_of_onOrSuspect old (hx .n)]
    have hp := hx .p
    have hn := hx .n
    simp [PoleSupervisor.gapRule, hf, hb, hp, hn]
  · rw [State.finish, finishBut_ps_of_not none old h]
    exact ⟨hf, rfl⟩

end SupervisorEnd

section GapTimers

variable {s : State}

/-! ### The gap timer and the restore-qualify timer (R22, R23) -/

theorem gapExpired_ends (line : LineLevel) (h : Reached s.ps.gapTimer s.poleCfg.gapMax)
    (hplace : HasPlace (.station s.own) .lineLoss s) (hm : s.rsq.mode ≠ .config) :
    ∃ t, exec (.gapTimerExpiry line) s = .next t ∧ ListedPending (.station s.own) .lineLoss t ∧
      t.ca.lineCondition = .alarm ∧
      (s.ps.gapFlag = true → s.ps.band = .none → (∀ x, (s.pole x).onOrSuspect = true) →
        t.ps.gapFlag = true ∧ t.ps.gapTimer = none) := by
  have hdue := (due_iff _ _).2 h
  have hb : s.body (.gapTimerExpiry line) = some (s.sense line).gapExpired := if_pos hdue
  set v := (s.sense line).withPs { (s.sense line).ps with gapTimer := none } with hv
  have hps : (s.sense line).ps = s.ps := by simp
  have hu : (s.sense line).gapExpired = v.raiseOwn .lineLoss none := by
    unfold State.gapExpired
    rw [if_pos (by rw [hps]; exact due_isSome hdue)]
  rw [hu] at hb
  have hown : v.own = s.own := own_congr (by simp [hv])
  have hplace' : HasPlace (.station v.own) .lineLoss v := by
    have halc : v.alc = s.alc := by simp [hv]
    unfold HasPlace State.listed State.alarms at hplace ⊢
    rw [hown, halc]
    exact hplace
  have hlisted := listedPending_raised none s hplace'
  rw [hown] at hlisted
  have hmode : (v.raiseOwn .lineLoss none).rsq.mode ≠ .config := by
    have : (v.raiseOwn .lineLoss none).rsq.mode = s.rsq.mode := by simp [hv]
    rwa [this]
  refine ⟨_, exec_of_body hb, hlisted, ?_, fun hf hband hx => ?_⟩
  · rw [(currentEnd_finish s hmode).line]
    exact judgeLine_of_alarm (alarmEffect_of_listed rfl hlisted)
  · have hraised : (v.raiseOwn .lineLoss none).ps = { s.ps with gapTimer := none } := by
      rw [← hps]
      simp [hv]
    obtain ⟨hflag, htimer⟩ := finish_gap_kept (u := v.raiseOwn .lineLoss none) s (by rw [hraised]; exact hf)
      (by rw [hraised]; exact hband) (fun x => by
        have hpole : (v.raiseOwn .lineLoss none).pole x = s.pole x := by cases x <;> simp only [State.pole, PoleSupervisor.pole, hraised]
        rw [hpole]
        exact hx x)
    exact ⟨hflag, htimer.trans (by rw [hraised])⟩

theorem restoreQualifyExpired_ends (h : Reached s.ps.restoreQualifyTimer s.poleCfg.qualifyMs)
    (hl : s.ownListed .lineLoss = true) (hq : s.queueRoom = true) (hh : s.rsq.holding = none) :
    ∃ t, exec .restoreQualifyExpiry s = .next t ∧ t.ownListed .lineLoss = false ∧
      t.ps.restoreQualifyTimer = none ∧ .clear .lineLoss ∈ t.rsq.queue := by
  have hdue := (due_iff _ _).2 h
  set v := s.withPs { s.ps with restoreQualifyTimer := none } with hv
  have hb : s.body .restoreQualifyExpiry = some (v.clearOwn .lineLoss) := by
    have hu : s.restoreQualifyExpired = v.clearOwn .lineLoss := by
      unfold State.restoreQualifyExpired
      rw [if_pos (due_isSome hdue)]
      exact if_pos hl
    rw [← hu]
    exact if_pos hdue
  have hnone : (v.clearOwn .lineLoss).ownListed .lineLoss = false :=
    ownEntries_eq_nil_iff.1 ((ownEntries_clearOwn v _ _).trans (if_pos rfl))
  refine ⟨_, exec_of_body hb, not_ownListed_finishBut none s (by decide) hnone, ?_,
    mem_queue_finishBut none s (mem_queue_clearOwn (s := v) hq hh _)⟩
  set u := v.clearOwn .lineLoss
  by_cases hp : u.rsq.mode ≠ .config ∧ u.role = .pole ∧ u.ps.supervising = true
  · rw [State.finish, finishBut_ps none s hp.1 hp.2.1 hp.2.2, (gapRule_frame _).2.2.2, State.endRestoreQualify, hnone]
    rfl
  · rw [State.finish, finishBut_ps_of_not none s hp]
    simp [u, hv]

/-- Settles O44: the gap timer lists LINE_LOSS, the restore-qualify timer clears it. -/
theorem lineLossListedAndCleared : Obligations.LineLossListedAndCleared := fun _ line =>
  ⟨fun h => exec_of_no_body rfl (if_neg (mt (due_iff _ _).1 h)), fun h => exec_of_no_body rfl (if_neg (mt (due_iff _ _).1 h)),
    fun h => gapExpired_ends line h, restoreQualifyExpired_ends⟩

end GapTimers

end Machine
end Sys2Proof

/-!
PROOFS. The holds of the alarm list and of the demand, the overdraw timer and the restore timer (R49, R55, R67, R69, R70,
R84, R88, R90 to R93; O45, O46).
-/

namespace Sys2Proof
namespace Machine

section Order

variable {s : State}

/-! ### The priority order (R84) -/

/-- The first element of an ordered list for which `p` holds is the one that no other such element goes before. -/
theorem find?_eq_of_first {α : Type} {r : α → α → Prop} {p : α → Bool} {k : α} {l : List α} (hl : l.Pairwise r)
    (hk : k ∈ l) (hp : p k = true) (hfirst : ∀ j ∈ l, p j = true → ¬r j k) : l.find? p = some k := by
  induction l with
  | nil => cases hk
  | cons a l ih =>
    rw [List.pairwise_cons] at hl
    cases ha : p a with
    | true =>
      rcases List.mem_cons.1 hk with rfl | hk
      · exact List.find?_cons_of_pos ha
      · exact absurd (hl.1 k hk) (hfirst a List.mem_cons_self ha)
    | false =>
      rw [List.find?_cons_of_neg (by simp [ha])]
      refine ih hl.2 ?_ fun j hj => hfirst j (List.mem_cons_of_mem a hj)
      exact (List.mem_cons.1 hk).resolve_left fun h => by rw [h, ha] at hp; cases hp

theorem turn_ranked : ∀ l : Fin 8,
    (eight.map fun j => l + 1 + j).Pairwise fun a b => (a.val + 7 - l.val) % 8 < (b.val + 7 - l.val) % 8 := by decide

/-- The used channels stand in the order of their ranks. -/
theorem ring_ranked (s : State) : s.ring.Pairwise fun a b => rank s a < rank s b := (turn_ranked s.ll.lowest).filter _

/-- A used channel stands in the priority order. -/
theorem mem_ring_of_used {k : Fin 8} (h : (s.channel k).state ≠ .unused) : k ∈ s.ring :=
  List.mem_filter.2 ⟨List.mem_map.2 ⟨k - s.ll.lowest - 1, mem_eight _, ring_turn k s.ll.lowest⟩, bne_iff_ne.2 h⟩

/-- The ON channel that an overdraw sheds: the last in the priority order. -/
theorem lastOn_eq {k : Fin 8} (hk : (s.channel k).state = .on) (hlast : ∀ j, (s.channel j).state = .on → rank s j ≤ rank s k) :
    s.ring.reverse.find? s.isOn = some k := by
  refine find?_eq_of_first (List.pairwise_reverse.2 (ring_ranked s)) (List.mem_reverse.2 (mem_ring_of_used (by simp [hk])))
    (by simp [State.isOn, hk]) fun j _ hj => not_lt.2 (hlast j ?_)
  simpa [State.isOn] using hj

theorem lastOn_none (h : ∀ k, (s.channel k).state ≠ .on) : s.ring.reverse.find? s.isOn = none :=
  List.find?_eq_none.2 fun k _ hk => h k (by simpa [State.isOn] using hk)

end Order

section Holds

variable {s u : State}

/-! ### The unclaimed hold (R49) -/

/-- The raise of SENSOR_LOSS has a place in a list within its bound. -/
def SensorPlace (s : State) : Prop := HasPlace (.station s.own) .sensorLoss s ∧ s.alarms.length ≤ 24

theorem SensorPlace.same {t v : State} (h : SensorPlace t) (halc : v.alc = t.alc) (hcfs : v.cfs = t.cfs) : SensorPlace v := by
  have hown : v.own = t.own := own_congr hcfs
  have halarms : v.alarms = t.alarms := by simp only [State.alarms, halc]
  unfold SensorPlace HasPlace State.listed at h ⊢
  rw [hown, halarms]
  exact h

theorem SensorPlace.raiseOwn (h : SensorPlace s) (d : Option SensorDetail) : SensorPlace (s.raiseOwn .sensorLoss d) := by
  obtain ⟨hp, hl⟩ := h
  have hown : (s.raiseOwn .sensorLoss d).own = s.own := own_congr (by simp)
  refine ⟨.inl ?_, ?_⟩
  · obtain ⟨x, hx, hkey, -⟩ := (ownPending_raiseOwn d hp).listed
    exact List.any_eq_true.2 ⟨x, hx, hkey⟩
  · unfold State.raiseOwn
    dsimp only
    split
    next hin => simpa [State.alarms, State.withAlarms] using hl
    next hin =>
      have hroom : s.alarms.length < Figures.alarmCapacity := hp.resolve_left hin
      rw [if_pos hroom]
      have hlength : (s.alarms ++ [newEntry (.station s.own) .sensorLoss .pending .localRaise d]).length = s.alarms.length + 1 := by
        simp
      exact hlength.trans_le hroom

theorem SensorPlace.clearOwn (h : SensorPlace s) (c : Cause) : SensorPlace (s.clearOwn c) := by
  obtain ⟨hp, hl⟩ := h
  have hown : (s.clearOwn c).own = s.own := own_congr (by simp)
  have halarms : (s.clearOwn c).alarms = removeEntry (.station s.own) c s.alarms := clearOwn_alarms s c
  have hle : (s.clearOwn c).alarms.length ≤ s.alarms.length := by
    rw [halarms]
    exact List.length_filter_le _ _
  refine ⟨?_, hle.trans hl⟩
  rcases hp with hp | hp
  · by_cases hcause : c = .sensorLoss
    · right
      subst hcause
      have hshort : (removeEntry (.station s.own) .sensorLoss s.alarms).length < s.alarms.length :=
        List.length_filter_lt_length_iff_exists.2 (by simpa [State.listed] using hp)
      rw [halarms]
      exact hshort.trans_le hl
    · left
      have hsame : (s.clearOwn c).ownListed .sensorLoss = s.ownListed .sensorLoss :=
        ownListed_congr ((ownEntries_clearOwn s c _).trans (if_neg (Ne.symm hcause)))
      exact hsame.trans hp
  · exact .inr (hle.trans_lt hp)

/-- A raise of SENSOR_LOSS that has a place displaces no entry of another source and leaves the unlisted flag. -/
theorem SensorPlace.raiseOwn_keeps (h : SensorPlace s) (d : Option SensorDetail) :
    (∀ e ∈ s.alarms, e.source ≠ .station s.own → e ∈ (s.raiseOwn .sensorLoss d).alarms) ∧
      (s.raiseOwn .sensorLoss d).alc.unlisted = s.alc.unlisted := by
  unfold State.raiseOwn
  dsimp only
  split
  next hin =>
    refine ⟨fun e he hsrc => List.mem_map.2 ⟨e, he, ?_⟩, rfl⟩
    rw [if_neg]
    rw [hasKey_iff, AlarmEntry.key, Prod.mk.injEq]
    exact fun hk => hsrc hk.1
  next hin =>
    have hroom : s.alarms.length < Figures.alarmCapacity := h.1.resolve_left hin
    rw [if_pos hroom]
    exact ⟨fun e he _ => List.mem_append_left _ he, rfl⟩

/-- An entry of another source stays through an event's end that has a place for the raise of SENSOR_LOSS. -/
theorem mem_alarms_finishBut {e : AlarmEntry} (skip : Option (Fin 8)) (old : State) (hplace : HasPlace (.station u.own) .sensorLoss u)
    (hlen : u.alarms.length ≤ 24) (hsrc : e.source ≠ .station u.own) (he : e ∈ u.alarms) :
    e ∈ (u.finishBut skip old).alarms := by
  refine (finishBut_alarms_keep (P := fun t => t.own = u.own ∧ SensorPlace t ∧ e ∈ t.alarms) skip old
    (fun t v _ halc hcfs ht => ?_) (fun t d ht => ?_) (fun t c hc ht => ?_) ⟨rfl, ⟨hplace, hlen⟩, he⟩).2.2
  · obtain ⟨hown, hp, hmem⟩ := ht
    exact ⟨(own_congr hcfs).trans hown, hp.same halc hcfs, by simpa only [State.alarms, halc] using hmem⟩
  · obtain ⟨hown, hp, hmem⟩ := ht
    exact ⟨(own_congr (by simp)).trans hown, hp.raiseOwn d, (hp.raiseOwn_keeps d).1 e hmem (by rw [hown]; exact hsrc)⟩
  · obtain ⟨hown, hp, hmem⟩ := ht
    refine ⟨(own_congr (by simp)).trans hown, hp.clearOwn c, ?_⟩
    rw [clearOwn_alarms, mem_removeEntry, hown]
    exact ⟨hmem, fun hk => hsrc (congrArg Prod.fst hk)⟩

/-- No event's end lists UNCLAIMED. -/
theorem not_listed_unclaimed_finishBut (skip : Option (Fin 8)) (old : State) (h : u.listed .unknown .unclaimed = false) :
    (u.finishBut skip old).listed .unknown .unclaimed = false := by
  refine finishBut_alarms_keep (P := fun t => t.listed .unknown .unclaimed = false) skip old (fun t v _ halc _ ht => ?_)
    (fun t d ht => ?_) (fun t c _ ht => ?_) h
  · simpa only [State.listed, State.alarms, halc] using ht
  · refine List.any_eq_false.2 fun e he hk => ?_
    rcases mem_raiseOwn d he with he | ⟨hkey, -⟩
    · exact List.any_eq_false.1 ht e he hk
    · rw [hasKey_iff, hkey] at hk
      exact absurd (congrArg Prod.snd hk) (by simp)
  · refine List.any_eq_false.2 fun e he => List.any_eq_false.1 ht e ?_
    rw [clearOwn_alarms] at he
    exact (List.mem_filter.1 he).1

theorem raiseOwn_flags (s : State) (c : Cause) (d : Option SensorDetail) :
    (s.raiseOwn c d).alc.unclaimedHoldTimer = s.alc.unclaimedHoldTimer ∧ (s.raiseOwn c d).alc.breakHold = s.alc.breakHold ∧
      (s.raiseOwn c d).alc.windowClaimed = s.alc.windowClaimed := by
  unfold State.raiseOwn
  dsimp only
  split
  · exact ⟨rfl, rfl, rfl⟩
  · split
    · exact ⟨rfl, rfl, rfl⟩
    · split <;> exact ⟨rfl, rfl, rfl⟩

theorem clearOwn_timers (s : State) (c : Cause) :
    (s.clearOwn c).alc.unclaimedHoldTimer = s.alc.unclaimedHoldTimer ∧ (s.clearOwn c).alc.breakHold = s.alc.breakHold ∧
      (s.clearOwn c).alc.windowClaimed = s.alc.windowClaimed := by
  unfold State.clearOwn State.placeInternal
  split
  · exact ⟨rfl, rfl, rfl⟩
  · split <;> exact ⟨rfl, rfl, rfl⟩

/-- An event's end leaves the unclaimed hold, the break hold and the claim of a window as they are. -/
theorem finishBut_holds (skip : Option (Fin 8)) (u old : State) :
    (u.finishBut skip old).alc.unclaimedHoldTimer = u.alc.unclaimedHoldTimer ∧
      (u.finishBut skip old).alc.breakHold = u.alc.breakHold ∧
      (u.finishBut skip old).alc.windowClaimed = u.alc.windowClaimed := by
  refine finishBut_alarms_keep (P := fun t => t.alc.unclaimedHoldTimer = u.alc.unclaimedHoldTimer ∧
    t.alc.breakHold = u.alc.breakHold ∧ t.alc.windowClaimed = u.alc.windowClaimed) skip old (fun t v _ halc _ ht => ?_)
    (fun t d ht => ?_) (fun t c _ ht => ?_) ⟨rfl, rfl, rfl⟩
  · rw [halc]
    exact ht
  · obtain ⟨h1, h2, h3⟩ := raiseOwn_flags t .sensorLoss d
    exact ⟨h1.trans ht.1, h2.trans ht.2.1, h3.trans ht.2.2⟩
  · obtain ⟨h1, h2, h3⟩ := clearOwn_timers t c
    exact ⟨h1.trans ht.1, h2.trans ht.2.1, h3.trans ht.2.2⟩

theorem unclaimedExpired_ends (h : Reached s.alc.unclaimedHoldTimer s.cfs.settings.alarm.unclaimedHold) :
    ∃ t, exec .unclaimedHoldExpiry s = .next t ∧ t.listed .unknown .unclaimed = false ∧
      t.alc.unclaimedHoldTimer = none ∧
      (s.alarms.length < 24 → ∀ e ∈ s.alarms, e.source ≠ .station s.own → e.hasKey .unknown .unclaimed = false →
        e ∈ t.alarms) ∧ SameRounds s.rsq t ∧ t.pt = s.pt := by
  have hb : s.body .unclaimedHoldExpiry = some s.unclaimedExpired := if_pos ((due_iff _ _).2 h)
  set u := s.unclaimedExpired with hu
  have hent : u.alarms = removeEntry .unknown .unclaimed s.alarms := rfl
  refine ⟨_, exec_of_body hb, ?_, ?_, fun hlen e he hsrc hkey => ?_, ?_, by simp [hu, State.unclaimedExpired]⟩
  · refine not_listed_unclaimed_finishBut none s (List.any_eq_false.2 fun e he => ?_)
    rw [hent, mem_removeEntry] at he
    simpa using he.2
  · exact (finishBut_holds none u s).1
  · have hle : u.alarms.length ≤ s.alarms.length := by
      rw [hent]
      exact List.length_filter_le _ _
    have hroom : u.alarms.length < Figures.alarmCapacity := hle.trans_lt hlen
    refine mem_alarms_finishBut none s (.inr hroom) hroom.le hsrc ?_
    rw [hent]
    exact List.mem_filter.2 ⟨he, by rw [hkey]; rfl⟩
  · exact (RoundsKept.of_rsq rfl).trans (roundsKept_finishBut none u s)

/-! ### The demand hold and the overdraw timer (R55, R69, R70, R88) -/

theorem CurrentEnd.allowance_le_charge {t : State} (h : CurrentEnd u t) : t.ca.allowance ≤ t.ca.ownCharge := by
  rw [h.allowance]
  split
  · exact (min_le_right _ _).trans h.share_le
  · exact Nat.zero_le _

theorem demandHoldExpired_ends (h : Reached s.ca.demandHoldTimer s.cfs.settings.apportion.demandHold) (hm : s.rsq.mode ≠ .config) :
    ∃ t, exec .demandHoldExpiry s = .next t ∧ t.ca.demand = 0 ∧ t.ca.demandHoldTimer = none ∧
      t.ca.ownCharge =
        min 2047 (eight.map fun k => if (s.channel k).requested && !(s.channel k).masked then s.rating k else 0).sum ∧
      t.ca.allowance ≤ t.ca.ownCharge ∧ t.sl.summary.allowance = true ∧ (∀ k, Shedding (s.channel k) (t.channel k)) ∧
      CurrentFrame s t := by
  have hdue := (due_iff _ _).2 h
  set u := (s.withCa { s.ca with demand := 0, demandHoldTimer := none }).setTopics { allowance := true } with hu
  have hb : s.body .demandHoldExpiry = some u := by
    have hx : s.demandHoldExpired = u := if_pos (due_isSome hdue)
    rw [← hx]
    exact if_pos hdue
  have hend : CurrentEnd u (u.finish s) := currentEnd_finish s hm
  refine ⟨_, exec_of_body hb, hend.demand, hend.hold, ?_, hend.allowance_le_charge, ?_, hend.sheds, ?_⟩
  · rw [hend.chargeBefore]
    exact congrArg (min 2047) (Nat.zero_add _)
  · rw [finish_summary]
    exact Bool.or_eq_true_iff.2 (.inl (Bool.or_true _))
  · exact currentFrame_finishBut none rfl rfl rfl rfl rfl (.of_rsq rfl)

/-- R88: what an overdraw sheds. -/
theorem overdrawShed_channel (s : State) (j : Fin 8) :
    s.overdrawShed.channel j =
      if s.ring.reverse.find? s.isOn = some j then (s.channel j).shed .overdraw else s.channel j := by
  unfold State.overdrawShed
  cases hf : s.ring.reverse.find? s.isOn with
  | none => rfl
  | some k =>
    dsimp only
    rw [channel_onChannel]
    by_cases hj : j = k
    · subst hj
      simp
    · simp [hj, Ne.symm hj]

theorem channels_eq {t : State} (h : ∀ k, t.channel k = s.channel k) : t.ll.channels = s.ll.channels :=
  Vector.ext fun i hi => h ⟨i, hi⟩

theorem overdrawExpired_ends (h : Reached s.ca.overdrawTimer s.cfs.settings.apportion.overdrawMs) (hm : s.rsq.mode ≠ .config)
    (ho : s.overdrawn = true) :
    ∃ t, exec .overdrawTimerExpiry s = .next t ∧ t.ca.overdrawFlag = true ∧ t.ca.overdrawTimer = some 0 ∧
      t.ca.demand = s.ca.demand ∧ t.ca.ownCharge = s.formCharge ∧ CurrentFrame s t ∧
      (∀ k, (s.channel k).state = .on → (∀ j, (s.channel j).state = .on → rank s j ≤ rank s k) →
        t.channel k = { s.channel k with state := .shed, shedCause := .overdraw } ∧
          ∀ j, j ≠ k → (s.channel j).state ≠ .on → t.channel j = s.channel j) ∧
      ((∀ k, (s.channel k).state ≠ .on) → t.ll.channels = s.ll.channels) ∧
      ∀ k, Shedding (s.channel k) (t.channel k) := by
  have hdue := (due_iff _ _).2 h
  set v := s.withCa { s.ca with overdrawFlag := true, overdrawTimer := Timer.started } with hv
  have hb : s.body .overdrawTimerExpiry = some v.overdrawShed := by
    have hx : s.overdrawExpired = v.overdrawShed := if_pos (due_isSome hdue)
    rw [← hx]
    exact if_pos hdue
  set u := v.overdrawShed with hu
  have hmode : u.rsq.mode = s.rsq.mode := by simp [hu, hv]
  have hca : u.ca = v.ca := by simp [hu]
  have hend : CurrentEnd u (u.finish s) := currentEnd_finish s (by rw [hmode]; exact hm)
  have hover : (u.finish s).overdrawn = true := by
    have hcfs : (u.finish s).cfs = s.cfs := by simp [hu, hv]
    have hlatches : (u.finish s).iou.latches = s.iou.latches := by
      rw [State.finish, finishBut_iou]
      simp [hu, hv]
    have hle : (u.finish s).ca.allowance ≤ s.ca.allowance := by
      rw [hend.allowance, hca]
      split
      · exact min_le_left _ _
      · exact Nat.zero_le _
    have hdrawn : (u.finish s).drawnCurrent = s.drawnCurrent := by simp [State.drawnCurrent, State.fresh, State.latch, hlatches]
    simp only [State.overdrawn, decide_eq_true_eq] at ho ⊢
    rw [hcfs, hdrawn]
    omega
  have hsheds (k : Fin 8) : Shedding (s.channel k) (u.channel k) := (overdrawShed_onlySheds v).1 k
  have hchannel (j : Fin 8) : u.channel j = if s.ring.reverse.find? s.isOn = some j then (s.channel j).shed .overdraw else s.channel j :=
    overdrawShed_channel v j
  have hkept (j : Fin 8) (hj : (s.channel j).state ≠ .on) : (u.finish s).channel j = s.channel j :=
    ((hsheds j).trans (hend.sheds j)).eq_of_not_on hj
  refine ⟨_, exec_of_body hb, ?_, ?_, ?_, ?_, ?_, fun k hk hlast => ⟨?_, fun j _ => hkept j⟩, fun hnone => ?_, fun k => ?_⟩
  · rw [hend.overFlag, hover, hca]
    rfl
  · rw [hend.overTimer, if_pos hover, hca]
    rfl
  · rw [hend.demand, hca]
    rfl
  · rw [hend.chargeBefore]
    exact formCharge_congr (by rw [hca]; rfl) (by simp [hu, hv]) hsheds
  · refine currentFrame_finishBut none ?_ ?_ ?_ ?_ ?_ (.of_rsq ?_) <;> simp [hu, hv]
  · have hshed := hchannel k
    rw [lastOn_eq hk hlast, if_pos rfl] at hshed
    rw [(hend.sheds k).eq_of_not_on (by rw [hshed]; exact (by simp [Channel.shed])), hshed]
    rfl
  · exact channels_eq fun k => hkept k (hnone k)
  · exact (hsheds k).trans (hend.sheds k)

/-- Settles O45: the unclaimed hold, the demand hold and the overdraw timer. -/
theorem holdsExpire : Obligations.HoldsExpire :=
  ⟨fun _ => ⟨fun h => exec_of_no_body rfl (if_neg (mt (due_iff _ _).1 h)),
    fun h => exec_of_no_body rfl (if_neg (mt (due_iff _ _).1 h)), fun h => exec_of_no_body rfl (if_neg (mt (due_iff _ _).1 h)),
    unclaimedExpired_ends, demandHoldExpired_ends⟩, fun _ => overdrawExpired_ends⟩

end Holds

section Restore

variable {s u : State}

/-! ### The restore timer (R90 to R93) -/

theorem mayRestore_iff (s : State) (k : Fin 8) : MayRestore s k ↔ s.restorable k = true := by
  have hsum : (eight.map fun j => if (s.channel j).state = .on then s.rating j else 0) =
      eight.map fun j => if s.isOn j then s.rating j else 0 := by
    simp [State.isOn]
  have hband : (∀ d ∈ s.poleSources, d.band ≠ some .low) ↔ s.bandAllows = true := by
    simp [State.bandAllows]
  unfold MayRestore State.restorable
  rw [hsum, hband]
  dsimp only
  simp only [State.onSum, and_assoc, Bool.and_eq_true, Bool.or_eq_true, beq_iff_eq]
  exact and_congr Iff.rfl (and_congr decide_eq_true_iff.symm Iff.rfl)

theorem reviewedAlike_of_inputs (hcfs : u.cfs = s.cfs) (hps : u.ps = s.ps)
    (halc : u.alc = { s.alc with windowClaimed := u.alc.windowClaimed }) (hiou : u.iou = s.iou)
    (hm : u.rsq.mode = s.rsq.mode) : ReviewedAlike s u where
  cfs := hcfs
  ps := hps
  alc := halc
  latches := by rw [hiou]
  mode := hm
  known x := by simp only [State.stowedKnown, State.stowedInput, State.inputFn, hcfs, hiou]
  closed := stowedClosed_congr hcfs hiou
  stops := by simp only [State.activeStops, State.inputFn, State.inputActive, hcfs, hiou]

/-- R67, R86, R87: a computation that finds nothing to shed leaves the channels, whatever allowance it forms. -/
theorem computed_ll_of_fit (a : Nat) (hline : u.judgeLine ≠ .available → ∀ k, u.isOn k = true → (u.channelCfg k).batteryFed = true)
    (hfit : u.onSum ≤ if u.rsq.mode = .run then a else 0) : (u.compute.setAllowance a).follow.ll = u.ll := by
  set v := u.compute.setAllowance a with hv
  have hll : v.ll = u.ll := by simp [hv]
  have hcfs : v.cfs = u.cfs := by simp [hv]
  have hca := compute_setAllowance u a
  rw [← hv] at hca
  have hlines : v.lineSheds = v := by
    refine lineSheds_idle fun hl k hk => ?_
    rw [channelCfg_congr hcfs]
    rw [hca] at hl
    rw [isOn_congr (s := u) (by rw [hll])] at hk
    exact hline hl k hk
  have hallowance : v.allowanceSheds = v := by
    refine allowanceSheds_idle ?_
    rw [hca, onSum_congr (s := u) (by rw [hll]) hcfs]
    exact hfit
  unfold State.follow
  rw [hlines, hallowance]
  simpa [State.grantRule, State.overdrawRule] using hll

theorem caSettle_ll_of_fit (hline : u.judgeLine ≠ .available → ∀ k, u.isOn k = true → (u.channelCfg k).batteryFed = true)
    (hfit : u.onSum ≤
      if u.rsq.mode = .run then
        min u.ca.allowance (u.formShare u.formCharge (u.formBudget u.judgeLine u.sourceVoltage))
      else 0) :
    u.caSettle.ll = u.ll := by
  rw [caSettle_eq]
  exact computed_ll_of_fit _ hline hfit

/-- What an event's end leaves where the event has changed no more than channels of a settled state, in a way that the
current bears. -/
theorem finish_restored (hm : s.rsq.mode ≠ .config) (hs : Settled s) (hcfs : u.cfs = s.cfs) (hli : u.li = s.li)
    (hrsq : u.rsq = s.rsq) (hpt : u.pt = s.pt) (hps : u.ps = s.ps) (halc : u.alc = s.alc) (hca : u.ca = s.ca)
    (hiou : u.iou = s.iou) (hwanted : ∀ k, (u.channel k).wanted = (s.channel k).wanted)
    (hline : s.ca.lineCondition ≠ .available → ∀ k, u.isOn k = true → (s.channelCfg k).batteryFed = true)
    (hfit : u.onSum ≤ s.ca.allowance) :
    (u.finish s).ll = u.ll ∧ (u.finish s).ca.allowance = s.ca.allowance := by
  have hends := endsIdle_of_settled hm hs
  have hidle := currentIdle_of_caSettle hends.current
  have hm' : u.rsq.mode ≠ .config := by rw [hrsq]; exact hm
  have hin : SameInputsOfCurrent s u := ⟨hcfs, by rw [hli], hpt, hps, by rw [halc], by rw [hiou]⟩
  have hreviewed : u.reviewed s = u := (reviewedAlike_of_inputs hcfs hps (by rw [halc]) hiou (by rw [hrsq])).reviewed hends
  have hcharge : u.formCharge = s.formCharge := by simp only [State.formCharge, hca, hwanted, rating_congr hcfs]
  have hshare : u.formShare u.formCharge (u.formBudget u.judgeLine u.sourceVoltage) = s.ca.share := by
    rw [hcharge, hin.judgeLine, hin.sourceVoltage, hin.formBudget, hin.formShare, hidle.share]
  have hallowance : (if u.rsq.mode = .run then
      min u.ca.allowance (u.formShare u.formCharge (u.formBudget u.judgeLine u.sourceVoltage)) else 0) = s.ca.allowance := by
    rw [hshare, hrsq, hca]
    exact hidle.allowance.symm
  obtain ⟨-, -, -, -, hfca, hfll, -⟩ := finishBut_blocks none u s
  rw [blocksEnd_of_joined hm', hreviewed] at hfca hfll
  obtain ⟨-, -, -, -, -, -, hbca, hbll, -⟩ := examineBreak_frame u.caSettle
  constructor
  · rw [State.finish, hfll, hbll]
    refine caSettle_ll_of_fit (fun hl k hk => ?_) (hallowance.symm ▸ hfit)
    rw [channelCfg_congr hcfs]
    exact hline (by rw [hidle.line, ← hin.judgeLine]; exact hl) k hk
  · rw [State.finish, hfca, hbca]
    obtain ⟨-, -, -, -, h5, h6, -⟩ := caSettle_spec u
    rw [h6, h5]
    exact hallowance

theorem sum_one (k : Fin 8) (n : Nat) : (eight.map fun j => if j = k then n else 0).sum = n := by
  fin_cases k <;> simp [eight]

theorem wanted_restored (c : Channel) : c.restored.wanted = c.wanted := rfl

/-- R91: a channel restored adds its rating to the ON ratings. -/
theorem onSum_restored {k : Fin 8} (hk : s.isOn k = false) (hc : ∀ j, u.channel j = if j = k then (s.channel k).restored else s.channel j)
    (hcfs : u.cfs = s.cfs) : u.onSum = s.onSum + s.rating k := by
  have hterm : (fun j => if u.isOn j then u.rating j else 0) =
      fun j => (if s.isOn j then s.rating j else 0) + if j = k then s.rating k else 0 := by
    funext j
    rw [State.isOn, hc j, rating_congr hcfs]
    by_cases hj : j = k
    · subst hj
      simp [hk, Channel.restored]
    · simp [hj, State.isOn]
  rw [State.onSum, hterm, List.sum_map_add, sum_one]
  rfl

/-- The candidate that a restore timer restores: the first in the priority order. -/
theorem firstRestorable_eq {k : Fin 8} (hk : MayRestore s k) (hfirst : ∀ j, MayRestore s j → rank s k ≤ rank s j) :
    s.ring.find? s.restorable = some k := by
  refine find?_eq_of_first (ring_ranked s) (mem_ring_of_used ?_) ((mayRestore_iff s k).1 hk) fun j _ hj =>
    not_lt.2 (hfirst j ((mayRestore_iff s j).2 hj))
  rcases hk.1 with h | h <;> simp [h]

/-- Settles O46: the first channel that may be restored is restored, and the restore timer starts again. -/
theorem restoreExpires : Obligations.RestoreExpires := by
  refine ⟨fun s h => exec_of_no_body rfl (if_neg (mt (due_iff _ _).1 h)), fun s h hm hs => ?_⟩
  have hdue := (due_iff _ _).2 h
  set v := s.withLl { s.ll with restoreTimer := Timer.started } with hv
  have hb : s.body .restoreTimerExpiry = some v.restoreOne := by
    have hx : s.restoreExpired = v.restoreOne := if_pos (due_isSome hdue)
    rw [← hx]
    exact if_pos hdue
  have hidle := currentIdle_of_caSettle (endsIdle_of_settled hm hs).current
  have hframe : CurrentFrame s (v.restoreOne.finish s) := by
    refine currentFrame_finishBut none ?_ ?_ ?_ ?_ ?_ (.of_rsq ?_) <;> simp [hv]
  have hend : CurrentEnd v.restoreOne (v.restoreOne.finish s) := by
    have hmode : v.restoreOne.rsq.mode = s.rsq.mode := by simp [hv]
    exact currentEnd_finish s (by rw [hmode]; exact hm)
  have hfind : v.ring.find? v.restorable = s.ring.find? s.restorable := rfl
  cases hf : s.ring.find? s.restorable with
  | none =>
    have hu : v.restoreOne = v := by rw [State.restoreOne, hfind, hf]
    have hnone (k : Fin 8) : ¬MayRestore s k := fun hk => by
      have hused : (s.channel k).state ≠ .unused := by rcases hk.1 with h | h <;> simp [h]
      exact List.find?_eq_none.1 hf k (mem_ring_of_used hused) ((mayRestore_iff s k).1 hk)
    obtain ⟨hll, ha⟩ := finish_restored (u := v) hm hs rfl rfl rfl rfl rfl rfl rfl rfl (fun _ => rfl) hidle.lineFed
      (hidle.grant ▸ Nat.le_add_right s.onSum s.ca.grant)
    rw [hu] at hb hframe
    refine ⟨_, exec_of_body hb, by rw [hll]; rfl, ha, hframe, fun _ => by rw [hll]; exact ⟨rfl, rfl⟩, fun k hk => ?_⟩
    exact absurd hk (hnone k)
  | some k =>
    have hk : MayRestore s k := (mayRestore_iff s k).2 (List.find?_some hf)
    have hoff : s.isOn k = false := by rcases hk.1 with h | h <;> simp [State.isOn, h]
    set u := v.restoreOne with hu
    have huc (j : Fin 8) : u.channel j = if j = k then (s.channel k).restored else s.channel j := by
      have hone : u.ll.channels = (v.onChannel k Channel.restored).ll.channels := by
        rw [hu, State.restoreOne, hfind, hf]
        dsimp only
        split <;> rfl
      have hchannel : u.channel j = (v.onChannel k Channel.restored).channel j := by simp only [State.channel, hone]
      rw [hchannel, channel_onChannel]
      rfl
    have hlowest : u.ll.lowest = if s.cfs.settings.ladder.rotate then k else s.ll.lowest := by
      rw [hu, State.restoreOne, hfind, hf]
      dsimp only
      rw [apply_ite (fun t : State => t.ll.lowest)]
      rfl
    have htimer : u.ll.restoreTimer = some 0 := by
      rw [hu, State.restoreOne, hfind, hf]
      dsimp only
      split <;> rfl
    have hcfs : u.cfs = s.cfs := by simp [hu, hv]
    have hsum : u.onSum = s.onSum + s.rating k := onSum_restored hoff huc hcfs
    have hfits : u.onSum ≤ s.ca.allowance := by
      have hroom := hk.2.1
      have hsame : (eight.map fun j => if (s.channel j).state = .on then s.rating j else 0).sum = s.onSum := by
        simp [State.onSum, State.isOn]
      rw [hsame] at hroom
      omega
    obtain ⟨hll, ha⟩ := finish_restored (u := u) hm hs hcfs (by simp [hu, hv]) (by simp [hu, hv]) (by simp [hu, hv])
      (by simp [hu, hv]) (by simp [hu, hv]) (by simp [hu, hv]) (by simp [hu, hv])
      (fun j => by
        rw [huc]
        split
        next hj => rw [hj]; rfl
        next => rfl)
      (fun hl j hj => by
        rw [State.isOn, huc] at hj
        by_cases hjk : j = k
        · rw [hjk]
          exact hk.2.2.1.resolve_left hl
        · rw [if_neg hjk] at hj
          exact hidle.lineFed hl j hj)
      hfits
    have hchannel (j : Fin 8) : (u.finish s).channel j = if j = k then (s.channel k).restored else s.channel j :=
      (channel_congr hll j).trans (huc j)
    refine ⟨_, exec_of_body hb, by rw [hll]; exact htimer, ha, hframe, fun hnone => absurd hk (hnone k), fun k' hk' hfirst => ?_⟩
    have hkk : k' = k := by
      have := firstRestorable_eq hk' hfirst
      rw [hf] at this
      exact (Option.some.inj this).symm
    subst hkk
    refine ⟨?_, fun j hj => ?_, ?_, ?_, hend.grant⟩
    · rw [hchannel, if_pos rfl]
      rfl
    · rw [hchannel, if_neg hj]
    · rw [hll]
      exact hlowest
    · rw [onSum_congr (s := u) (by rw [hll]) (by simp), hsum]

end Restore

end Machine
end Sys2Proof

/-!
PROOFS. What an event's end leaves of the PENDING own entries and of the break they ask for, the limits of ageing, and the
end of a mute and of the idle count (R24, R44, R118, R119, R135, R148, R155 to R157; O47, O48).
-/

namespace Sys2Proof
namespace Machine

section Pending

variable {s t u old : State} {c : Cause}

/-! ### PENDING own entries to the end of an event (R33, R34, R44) -/

theorem ownPending_iff : s.ownPending = true ↔ ∃ e ∈ s.alarms, e.source = .station s.own ∧ e.state = .pending := by
  simp [State.ownPending]

theorem ownPending_congr (halc : t.alc = s.alc) (hcfs : t.cfs = s.cfs) : t.ownPending = s.ownPending := by
  simp only [State.ownPending, State.alarms, halc, own_congr hcfs]

/-- A raise leaves a PENDING own entry PENDING. -/
theorem pending_raiseOwn (d : Option SensorDetail) (h : s.ownPending = true) : (s.raiseOwn c d).ownPending = true := by
  have hown : (s.raiseOwn c d).own = s.own := own_congr (by simp)
  obtain ⟨e, he, hsrc, hpending⟩ := ownPending_iff.1 h
  rw [ownPending_iff, hown]
  unfold State.raiseOwn
  dsimp only
  split
  · refine ⟨_, List.mem_map.2 ⟨e, he, rfl⟩, ?_⟩
    split
    · exact ⟨hsrc, rfl⟩
    · exact ⟨hsrc, hpending⟩
  · split
    · exact ⟨e, List.mem_append_left _ he, hsrc, hpending⟩
    · split
      · refine ⟨e, List.mem_append_left _ ((List.mem_eraseP_of_neg ?_).2 he), hsrc, hpending⟩
        simp [State.displaceable, hpending]
      · exact ⟨e, he, hsrc, hpending⟩

/-- The clearing of an ACKNOWLEDGED own entry leaves every PENDING one, keys being distinct. -/
theorem pending_clearOwn (hk : ListKept s) (hc : s.ownAcknowledged c = true) (h : s.ownPending = true) :
    (s.clearOwn c).ownPending = true := by
  have hown : (s.clearOwn c).own = s.own := own_congr (by simp)
  obtain ⟨e, he, hsrc, hpending⟩ := ownPending_iff.1 h
  obtain ⟨x, hx, hxkey⟩ := List.any_eq_true.1 hc
  rw [Bool.and_eq_true, hasKey_iff, beq_iff_eq] at hxkey
  refine ownPending_iff.2 ⟨e, ?_, by rw [hown]; exact hsrc, hpending⟩
  rw [clearOwn_alarms, mem_removeEntry]
  refine ⟨he, fun hkey => ?_⟩
  have hex : e = x := List.inj_on_of_nodup_map hk.2 he hx (hkey.trans hxkey.1.symm)
  rw [hex, hxkey.2] at hpending
  cases hpending

/-- A PENDING own entry outlasts the event's end. -/
theorem pending_finishBut (skip : Option (Fin 8)) (old : State) (hk : ListKept u) (h : u.ownPending = true) :
    (u.finishBut skip old).ownPending = true := by
  refine (finishBut_alarms_keep (P := fun t => ListKept t ∧ t.ownPending = true) skip old (fun t v _ halc hcfs ht => ?_)
    (fun t d ht => ⟨listKept_raiseOwn ht.1 _ d, pending_raiseOwn d ht.2⟩)
    (fun t c hc ht => ⟨listKept_clearOwn ht.1 c, pending_clearOwn ht.1 hc ht.2⟩) ⟨hk, h⟩).2
  rw [listKept_congr halc, ownPending_congr halc hcfs]
  exact ht

/-- What an event's end has reviewed is what it leaves of the alarm list. -/
theorem ownPending_reviewed (skip : Option (Fin 8)) (old : State) (hm : u.rsq.mode ≠ .config) :
    (u.finishBut skip old).ownPending = (u.reviewed old).ownPending := by
  obtain ⟨-, -, -, halc, -⟩ := finishBut_blocks skip u old
  rw [blocksEnd_of_joined hm] at halc
  exact ownPending_congr (by simpa using halc) (by simp [State.reviewed])

/-! ### The break an event's end asserts (R44, R148, R149) -/

theorem breakWanted_reviewed (hm : u.rsq.mode = .run) (hw : u.rsq.phase ≠ .window) (hl : u.pins.line = .recessive)
    (hd : u.li.driver ≠ .brk) (ha : u.li.abortPending = false) (h : (u.reviewed old).ownPending = true) :
    (u.reviewed old).caSettle.breakWanted = true := by
  obtain ⟨h1, -, h3, -⟩ := (roundsKept_reviewed u old).items
  rw [breakWanted_iff]
  refine ⟨by simp [h1, hm], ?_, by simpa [h3] using hw, by simpa using hl, by simpa using hd, by simpa using ha⟩
  rw [ownPending_congr (s := u.reviewed old) (by simp) (by simp)]
  exact h

/-- A PENDING own entry of a station in RUN asks for a break on a recessive line, at whose end the driver is in BREAK. -/
theorem finishBut_break (skip : Option (Fin 8)) (old : State) (hm : u.rsq.mode = .run) (hw : u.rsq.phase ≠ .window)
    (hl : u.pins.line = .recessive) (hd : u.li.driver ≠ .brk) (ha : u.li.abortPending = false) (hk : ListKept u)
    (h : u.ownPending = true) :
    (u.finishBut skip old).li = u.assertBreak.li ∧ (u.finishBut skip old).pins = u.assertBreak.pins := by
  have hm' : u.rsq.mode ≠ .config := by rw [hm]; decide
  have hreviewed : (u.reviewed old).ownPending = true := by
    rw [← ownPending_reviewed skip old hm']
    exact pending_finishBut skip old hk h
  obtain ⟨hli, -, -, -, -, -, hpins⟩ := finishBut_blocks skip u old
  rw [blocksEnd_of_joined hm', examineBreak_of_wanted (breakWanted_reviewed hm hw hl hd ha hreviewed)] at hli hpins
  rw [hli, hpins]
  constructor
  · simp [State.assertBreak]
  · simp [State.assertBreak]

theorem assertBreak_fields (u : State) :
    u.assertBreak.li.driver = .brk ∧ u.assertBreak.li.ownFrame = none ∧ u.assertBreak.pins.line = .dominant := ⟨rfl, rfl, rfl⟩

theorem assertBreak_receiver (h : u.li.driver ≠ .frame) : u.assertBreak.li.receiver = u.li.receiver := by
  rw [assertBreak_li, if_neg h]

/-- A PENDING own entry of a station in RUN leaves the driver in BREAK on a recessive line. -/
theorem finish_driver_brk (old : State) (hm : u.rsq.mode = .run) (hw : u.rsq.phase ≠ .window)
    (hl : u.pins.line = .recessive) (ha : u.li.abortPending = false) (hk : ListKept u) (h : u.ownPending = true) :
    (u.finish old).li.driver = .brk := by
  by_cases hd : u.li.driver = .brk
  · rw [(finish_line_of_not old (.inr (.inr (.inr (.inl hd))))).1, hd]
  · rw [State.finish, (finishBut_break none old hm hw hl hd ha hk h).1]
    rfl

theorem finish_receiver (old : State) (h : u.li.driver ≠ .frame) : (u.finish old).li.receiver = u.li.receiver := by
  rcases finish_line u old with ⟨hli, -⟩ | ⟨-, -, -, -, -, -, hli, -⟩
  · rw [hli]
  · rw [hli, assertBreak_receiver h]

theorem finishBut_supervising (skip : Option (Fin 8)) (u old : State) :
    (u.finishBut skip old).ps.supervising = u.ps.supervising := by
  by_cases h : u.rsq.mode ≠ .config ∧ u.role = .pole ∧ u.ps.supervising = true
  · rw [finishBut_ps skip old h.1 h.2.1 h.2.2, (gapRule_frame _).2.2.1]
  · rw [finishBut_ps_of_not skip old h]

end Pending

section Ageing

variable {s u : State}

/-! ### The limits of ageing (R155 to R157, R56, R57) -/

theorem alarmEffect_iff : s.alarmEffect = false ↔
    (∀ e ∈ s.alarms, givesAlarm e.cause = false) ∧ s.alc.unlisted = false ∧ s.alc.breakHold = false := by
  simp [State.alarmEffect, and_assoc]

@[simp] theorem clearOwn_flags (s : State) (c : Cause) :
    (s.clearOwn c).alc.unlisted = s.alc.unlisted ∧ (s.clearOwn c).alc.breakHold = s.alc.breakHold := by
  unfold State.clearOwn State.placeInternal
  split
  · exact ⟨rfl, rfl⟩
  · split <;> exact ⟨rfl, rfl⟩

/-- No ALARM effect arises at the end of an event in a station that is no POLE station. -/
theorem alarmEffect_finish_of_not_pole (old : State) (hp : u.role ≠ .pole) (h : u.alarmEffect = false) :
    (u.finish old).alarmEffect = false := by
  have hstop : u.clearStop.alarmEffect = false := by
    unfold State.clearStop
    split
    · rw [alarmEffect_iff] at h ⊢
      obtain ⟨hall, hflags⟩ := h
      refine ⟨fun e he => hall e ?_, by simpa using hflags⟩
      rw [clearOwn_alarms] at he
      exact (List.mem_filter.1 he).1
    · exact h
  have heffect (t v : State) (halc : t.alc = v.alc) : t.alarmEffect = v.alarmEffect := by
    simp only [State.alarmEffect, State.alarms, halc]
  obtain ⟨-, -, -, halc, -⟩ := finishBut_blocks none u old
  by_cases hm : u.rsq.mode = .config
  · rw [blocksEnd_of_config hm] at halc
    exact (heffect _ _ halc).trans h
  · rw [blocksEnd_of_joined hm] at halc
    refine (heffect _ u.clearStop ?_).trans hstop
    rw [State.finish, halc]
    simp [State.reviewed, polesEnd_of_not (fun hx => hp hx.1)]

theorem judgeLine_unknown (ha : s.alarmEffect = false) (hp : s.poleSources = []) : s.judgeLine = .unknown := by
  simp [State.judgeLine, ha, hp]

theorem poleSources_eq_nil (hp : s.role ≠ .pole) (h : ∀ a, (s.peer a).poleSource = none) : s.poleSources = [] := by
  rw [State.poleSources, if_neg hp, toList_eq_map_cell, List.filterMap_map, List.filterMap_eq_nil_iff]
  exact fun a _ => h a

theorem peer_withPeer (s : State) (a b : Fin 16) (r : Peer) : (s.withPeer a r).peer b = if b = a then r else s.peer b := by
  by_cases h : b = a
  · subst h
    simp [State.peer, State.withPeer]
  · rw [if_neg h]
    exact cell_setCell_ne _ _ h

/-- What the passing of a limit leaves, whichever of the two it is. -/
theorem aged_ends {a : Fin 16} {c : Instr} {r : Peer} (hb : s.body c = some (s.withPeer a r)) (hr : r.state ≠ (s.peer a).state) :
    ∃ t, exec c s = .next t ∧ t = (s.withPeer a r).finish s ∧ t.peer a = r ∧ (∀ b, b ≠ a → t.peer b = s.peer b) ∧
      t.sl.summary.peers = true ∧ SameRounds s.rsq t := by
  have hpt (b : Fin 16) : ((s.withPeer a r).finish s).peer b = if b = a then r else s.peer b := by
    rw [peer_congr (s := s.withPeer a r) (by simp)]
    exact peer_withPeer s a b r
  refine ⟨_, exec_of_body hb, rfl, by rw [hpt, if_pos rfl], fun b hb => by rw [hpt, if_neg hb], ?_, ?_⟩
  · rw [finish_summary]
    refine Bool.or_eq_true_iff.2 (.inr (List.any_eq_true.2 ⟨a, mem_sixteen a, bne_iff_ne.2 fun h => hr ?_⟩))
    have := hpt a
    rw [if_pos rfl] at this
    exact (congrArg Peer.state this).symm.trans h.symm
  · exact (RoundsKept.of_rsq rfl).trans (roundsKept_finishBut none (s.withPeer a r) s)

/-- Settles O47: the two limits of ageing. -/
theorem peersAge : Obligations.PeersAge := by
  intro s a
  refine ⟨fun hf hage => ?_, fun hf hage => ?_, fun hage => ?_, fun hage => ?_⟩
  · have hb : s.body (.peerStale a) = some (s.peerGoesStale a) := if_pos (by simp [State.staleDue, hf, hage])
    obtain ⟨t, hexec, ht, hpeer, hothers, htopic, hrounds⟩ := aged_ends hb (by rw [hf]; simp)
    refine ⟨t, hexec, hpeer, hothers, htopic, hrounds, fun hm hp ha hsources => ?_⟩
    have hrole : t.role ≠ .pole := by
      rw [ht, role_congr (s := s) (by simp [State.withPeer])]
      exact hp
    have hnone (b : Fin 16) : (t.peer b).poleSource = none := by
      by_cases hba : b = a
      · rw [hba, hpeer]
        rfl
      · rw [hothers b hba]
        exact hsources b hba
    have hline := (currentEnd_finish (u := s.withPeer a { s.peer a with state := .stale }) s hm).line
    rw [← ht] at hline
    rw [hline]
    refine judgeLine_unknown ?_ (poleSources_eq_nil hrole hnone)
    rw [ht]
    exact alarmEffect_finish_of_not_pole s hp ha
  · have hb : s.body (.peerLost a) = some (s.peerGoesLost a) := if_pos (by simp [State.lostDue, hf, hage])
    obtain ⟨t, hexec, -, h⟩ := aged_ends hb (by rw [hf]; simp)
    exact ⟨t, hexec, h⟩
  · exact exec_of_no_body rfl (if_neg (by simp [State.staleDue, hage]))
  · exact exec_of_no_body rfl (if_neg (by simp [State.lostDue, hage]))

end Ageing

section MuteAndIdle

variable {s u : State}

/-! ### The end of a mute and of the idle count (R119, R135) -/

theorem muteExpired_ends (hmode : s.rsq.mode = .mute) (hcause : s.rsq.muteCause = .txErrors) (h : Reached s.rsq.muteTimer 1000) :
    ∃ t, exec .muteTimerExpiry s = .next t ∧ t.rsq.mode = .listen ∧ t.rsq.muteCause = .none ∧
      t.rsq.muteTimer = none ∧ t.li = { s.li with txErrors := 0 } ∧
      t.rsq.idleCount = (if s.rsq.phase = .brk ∨ s.rsq.phase = .window then none else some 0) ∧
      t.rsq.slotCounter = s.rsq.slotCounter ∧ t.rsq.lastOwnSlot = s.rsq.lastOwnSlot ∧ t.pt = s.pt ∧
      t.sl.summary.mode = true := by
  have hdue := (due_iff _ _).2 h
  have hb : s.body .muteTimerExpiry = some s.muteExpired := if_pos hdue
  have hguard : s.rsq.mode = .mute && s.rsq.muteCause = .txErrors && s.rsq.muteTimer.isSome := by
    simp [hmode, hcause, due_isSome hdue]
  have hlisten : s.muteExpired.rsq.mode = .listen := by
    unfold State.muteExpired
    rw [if_pos hguard]
    rfl
  refine ⟨_, exec_of_body hb, ?_⟩
  rw [(finish_line_of_not s (.inl (by rw [hlisten]; decide))).1]
  have htopic : (s.muteExpired.finish s).sl.summary.mode = true := by
    rw [finish_summary]
    refine Bool.or_eq_true_iff.2 (.inr (Bool.or_eq_true_iff.2 (.inl ?_)))
    simp [hmode, hlisten]
  refine ⟨by simpa using hlisten, ?_, ?_, ?_, ?_, ?_, ?_, by simp, htopic⟩
  all_goals
    simp only [finish_rounds]
    unfold State.muteExpired
    rw [if_pos hguard]
  · rfl
  · rfl
  · rfl
  · simp
  · rfl
  · rfl

theorem idleCountExpired_ends (hmode : s.rsq.mode = .listen) (hidle : s.rsq.idleCount = some 8192)
    (hline : s.pins.line = .recessive) (hk : ListKept s) :
    ∃ t, exec .idleCountExpiry s = .next t ∧ t.rsq.mode = .run ∧ t.rsq.idleCount = none ∧ t.rsq.slotCounter = 0 ∧
      t.rsq.phase = .slot ∧ t.rsq.roundCount = (s.rsq.roundCount + 1) % 65536 ∧
      t.rsq.resyncCount = s.rsq.resyncCount ∧ t.pt = s.pt ∧ t.sl.summary.mode = true ∧
      (s.role = .pole → t.ps.supervising = true) ∧
      (s.li.driver = .released → t.li.receiver = .idle) ∧
      (s.ownPending = true → s.li.abortPending = false → t.li.driver = .brk) := by
  set u := ((s.receiverTo .idle).enterRun).takeRoundEnd with hu
  have hb : s.body .idleCountExpiry = some u := if_pos (by simp [State.idleCountDue, hmode, hidle, hline, Figures.idleBits])
  have hli : u.li = (s.receiverTo .idle).li := by simp [hu]
  have hfields : u.li.receiver = .idle ∧ u.li.driver = s.li.driver ∧ u.li.abortPending = s.li.abortPending := by
    rw [hli]
    simp [State.receiverTo, State.taking, LineInterface.taking]
  have hround : u.rsq = { (s.receiverTo .idle).enterRun.rsq with
      slotCounter := 0, roundCount := ((s.receiverTo .idle).enterRun.rsq.roundCount + 1) % 65536, phase := .slot } := by
    rw [hu, takeRoundEnd_eq]
    simp [State.roundStarted]
  have hbefore : (s.receiverTo .idle).enterRun.rsq = { s.rsq with mode := .run, idleCount := none } := by
    simp [State.enterRun, State.receiverTo, State.taking, lineTo_rsq]
  rw [hbefore] at hround
  have hmode' : u.rsq.mode = .run := by rw [hround]
  have halarms : u.alarms = s.alarms := by
    rw [hu, takeRoundEnd_alarms]
    simp [State.alarms, State.receiverTo, State.taking]
  have hown : u.own = s.own := own_congr (by simp [hu, State.receiverTo, State.taking])
  have hpins : u.pins.line = .recessive := by simp [hu, State.receiverTo]
  refine ⟨_, exec_of_body hb, by simp [hround], by simp [hround], by simp [hround], by simp [hround], by simp [hround],
    by simp [hround], by simp [hu, State.receiverTo, State.taking], ?_, fun hp => ?_, fun hd => ?_, fun hpending ha => ?_⟩
  · rw [finish_summary]
    refine Bool.or_eq_true_iff.2 (.inr (Bool.or_eq_true_iff.2 (.inl ?_)))
    simp [hmode, hmode']
  · rw [State.finish, finishBut_supervising]
    have hps : u.ps = (s.receiverTo .idle).enterRun.ps := by simp [hu]
    have hrole : (s.receiverTo .idle).role = .pole := (role_congr (by simp [State.receiverTo, State.taking])).trans hp
    rw [hps]
    have hsup : (s.receiverTo .idle).enterRun.ps.supervising =
        ((s.receiverTo .idle).ps.supervising || (s.receiverTo .idle).role == .pole) := rfl
    rw [hsup, hrole]
    simp
  · rw [finish_receiver s (by rw [hfields.2.1, hd]; decide)]
    exact hfields.1
  · refine finish_driver_brk s hmode' (by rw [hround]; simp) hpins (by rw [hfields.2.2]; exact ha) ?_ ?_
    · unfold ListKept
      rw [halarms]
      exact hk
    · unfold State.ownPending
      rw [halarms, hown]
      exact hpending

/-- Settles O48: the end of a mute, and of the idle count. -/
theorem muteAndIdleExpire : Obligations.MuteAndIdleExpire := by
  refine fun s => ⟨fun h => exec_of_no_body rfl (if_neg (mt (due_iff _ _).1 h)), muteExpired_ends, fun h => ?_,
    idleCountExpired_ends⟩
  refine exec_of_no_body rfl (if_neg fun hdue => ?_)
  simp only [State.idleCountDue, Bool.and_eq_true, beq_iff_eq] at hdue
  obtain ⟨⟨hmode, hidle⟩, hline⟩ := hdue
  rcases h with h | h | h
  · rw [h] at hline
    cases hline
  · exact h hmode
  · exact h hidle

end MuteAndIdle

end Machine
end Sys2Proof

/-!
PROOFS. RAISE and LOWER, judged for each pole a command names, and what the event's end makes of the records they leave
(R6 to R9, R14, R16, R17; O33).
-/

namespace Sys2Proof
namespace Machine

section Commands

variable {s t u old : State} {x : PoleId}

/-! ### The record a command leaves of a pole (R6, R7, R14) -/

/-- R6: the record `r` with the outcome of a command. -/
def Pole.told (o : CommandOutcome) (r : Pole) : Pole := { r with outcome := o }

/-- R7: the record of pole `x` once a RAISE has been judged. -/
def State.raisedPole (x : PoleId) (s : State) : Pole :=
  let r := s.pole x
  if !s.ps.supervising then r.told .ignoredState
  else if r.state = .raising then r
  else if s.rsq.mode ≠ .run || r.state ≠ .stowed then r.told .ignoredState
  else if s.ownListed (dropCause x) || s.stopEffect then r.told .ignoredAlarm
  else { r with state := .raising, stateTimer := Timer.started, qualifyTimer := none, qualified := false, outcome := .accepted }

/-- R16: the record of a pole ON_WIRE or SUSPECT once it has been commanded down. -/
def State.waitingPole (x : PoleId) (s : State) : Pole :=
  { s.pole x with
    state := .lowerWait, stateTimer := Timer.started, outcome := .accepted
    quietTimer := if s.quietCondition then (s.pole x).quietTimer <|> Timer.started else none }

/-- R14: the record of pole `x` once a LOWER has been judged. -/
def State.loweredPole (x : PoleId) (s : State) : Pole :=
  let r := s.pole x
  if !s.ps.supervising then r.told .ignoredState
  else match r.state with
    | .initial => (r.lowered (s.stowedClosed x)).told .accepted
    | .raising => (r.lowered (s.stowedClosed x)).told .accepted
    | .stowed => r.told .ignoredState
    | .stuck => r.told .ignoredState
    | .onWire => s.waitingPole x
    | .suspect => s.waitingPole x
    | .lowerWait => r
    | .lowering => r

/-- R6: the record of pole `x` once a command has been judged. -/
def State.commandedPole (a : PoleAction) (x : PoleId) (s : State) : Pole :=
  match a with
  | .raise => s.raisedPole x
  | .lower => s.loweredPole x

/-- A state that differs from another in its poles and topics alone. -/
structure PolesMoved (s t : State) : Prop where
  pending : t.pending = s.pending
  cfs : t.cfs = s.cfs
  li : t.li = s.li
  rsq : t.rsq = s.rsq
  pt : t.pt = s.pt
  ps : t.ps = { s.ps with poleP := t.ps.poleP, poleN := t.ps.poleN }
  alc : t.alc = s.alc
  ca : t.ca = s.ca
  ll : t.ll = s.ll
  iou : t.iou = s.iou
  mask : t.sl.mask = s.sl.mask
  pins : t.pins = s.pins

theorem PolesMoved.refl (s : State) : PolesMoved s s := ⟨rfl, rfl, rfl, rfl, rfl, rfl, rfl, rfl, rfl, rfl, rfl, rfl⟩

theorem PolesMoved.trans (h : PolesMoved s t) (g : PolesMoved t u) : PolesMoved s u where
  pending := g.pending.trans h.pending
  cfs := g.cfs.trans h.cfs
  li := g.li.trans h.li
  rsq := g.rsq.trans h.rsq
  pt := g.pt.trans h.pt
  ps := by rw [g.ps, h.ps]
  alc := g.alc.trans h.alc
  ca := g.ca.trans h.ca
  ll := g.ll.trans h.ll
  iou := g.iou.trans h.iou
  mask := g.mask.trans h.mask
  pins := g.pins.trans h.pins

theorem PolesMoved.supervising (h : PolesMoved s t) : t.ps.supervising = s.ps.supervising := by rw [h.ps]

theorem polesMoved_withPole (x : PoleId) (r : Pole) : PolesMoved s (s.withPole x r) := by
  cases x <;> exact ⟨rfl, rfl, rfl, rfl, rfl, rfl, rfl, rfl, rfl, rfl, rfl, rfl⟩

theorem polesMoved_setOutcome (x : PoleId) (o : CommandOutcome) : PolesMoved s (s.setOutcome x o) := by
  cases x <;> exact ⟨rfl, rfl, rfl, rfl, rfl, rfl, rfl, rfl, rfl, rfl, rfl, rfl⟩

theorem setOutcome_pole (s : State) (x y : PoleId) (o : CommandOutcome) :
    (s.setOutcome x o).pole y = if y = x then (s.pole x).told o else s.pole y :=
  withPole_pole s x y _

/-- R7: RAISE judged for one pole. -/
theorem raiseOne_spec (s : State) (x : PoleId) :
    PolesMoved s (s.raiseOne x) ∧ ∀ y, (s.raiseOne x).pole y = if y = x then s.raisedPole x else s.pole y := by
  have self (y : PoleId) : s.pole y = if y = x then s.pole x else s.pole y := by
    split
    next h => rw [h]
    next => rfl
  unfold State.raiseOne State.raisedPole
  dsimp only
  split
  · exact ⟨polesMoved_withPole x _, fun y => withPole_pole s x y _⟩
  · split
    · exact ⟨.refl s, self⟩
    · split
      · exact ⟨polesMoved_setOutcome x _, fun y => setOutcome_pole s x y _⟩
      · split
        · exact ⟨polesMoved_setOutcome x _, fun y => setOutcome_pole s x y _⟩
        · refine ⟨(polesMoved_withPole x _).trans (polesMoved_setOutcome x _), fun y => ?_⟩
          rw [setOutcome_pole, withPole_pole, withPole_pole, if_pos rfl]
          split <;> rfl

theorem lower_then_outcome (s : State) (x : PoleId) (o : CommandOutcome) :
    PolesMoved s ((s.lower x).setOutcome x o) ∧
      ∀ y, ((s.lower x).setOutcome x o).pole y =
        if y = x then ((s.pole x).lowered (s.stowedClosed x)).told o else s.pole y := by
  refine ⟨(polesMoved_withPole x _).trans (polesMoved_setOutcome x _), fun y => ?_⟩
  rw [setOutcome_pole, lower_pole, State.lower, withPole_pole]
  split <;> rfl

/-- R16: the quiet condition of a pole that waits to come down. -/
theorem examineQuiet_waiting (s : State) (x : PoleId) (r : Pole) (hr : r.state = .lowerWait) :
    (s.withPole x r).examineQuiet x =
      s.withPole x { r with quietTimer := if s.quietCondition then r.quietTimer <|> Timer.started else none } := by
  have hq : (s.withPole x r).quietCondition = s.quietCondition := rfl
  have htwice (q : Pole) : (s.withPole x r).withPole x q = s.withPole x q := by cases x <;> rfl
  unfold State.examineQuiet
  dsimp only
  rw [withPole_pole, if_pos rfl, if_pos hr, hq]
  split
  · cases hx : r.quietTimer with
    | some n => exact (if_pos rfl).trans (congrArg (fun q => s.withPole x { r with quietTimer := q }) hx)
    | none =>
      rw [if_neg (by simp), htwice]
      rfl
  · exact htwice _

theorem wait_then_outcome (s : State) (x : PoleId) :
    let v := (((s.withPole x { s.pole x with state := .lowerWait, stateTimer := Timer.started }).examineQuiet x).setOutcome x .accepted)
    PolesMoved s v ∧ ∀ y, v.pole y = if y = x then s.waitingPole x else s.pole y := by
  dsimp only
  rw [examineQuiet_waiting _ _ _ rfl]
  refine ⟨(polesMoved_withPole x _).trans (polesMoved_setOutcome x _), fun y => ?_⟩
  rw [setOutcome_pole, withPole_pole, withPole_pole, if_pos rfl]
  split <;> rfl

/-- R14: LOWER judged for one pole. -/
theorem lowerOne_spec (s : State) (x : PoleId) :
    PolesMoved s (s.lowerOne x) ∧ ∀ y, (s.lowerOne x).pole y = if y = x then s.loweredPole x else s.pole y := by
  have self (y : PoleId) : s.pole y = if y = x then s.pole x else s.pole y := by
    split
    next h => rw [h]
    next => rfl
  unfold State.lowerOne State.loweredPole
  dsimp only
  split
  · exact ⟨polesMoved_withPole x _, fun y => withPole_pole s x y _⟩
  · cases (s.pole x).state with
    | initial | raising => exact lower_then_outcome s x .accepted
    | stowed | stuck => exact ⟨polesMoved_setOutcome x _, fun y => setOutcome_pole s x y _⟩
    | onWire | suspect => exact wait_then_outcome s x
    | lowerWait | lowering => exact ⟨.refl s, self⟩

theorem commandOne_spec (a : PoleAction) (s : State) (x : PoleId) :
    PolesMoved s (s.commandOne a x) ∧ ∀ y, (s.commandOne a x).pole y = if y = x then s.commandedPole a x else s.pole y := by
  cases a
  · exact raiseOne_spec s x
  · exact lowerOne_spec s x

theorem quietCondition_congr (hcfs : t.cfs = s.cfs) (hiou : t.iou = s.iou) : t.quietCondition = s.quietCondition := by
  have hlatch (c : Fin 8) : t.latch c = s.latch c := by simp only [State.latch, hiou]
  have hcfg : t.poleCfg = s.poleCfg := by simp only [State.poleCfg, hcfs]
  unfold State.quietCondition State.fresh
  rw [hlatch, hlatch, hcfg]

/-- The judgement of a pole depends on that pole's record alone, among the poles. -/
theorem commandedPole_congr (a : PoleAction) (h : PolesMoved s t) (hx : t.pole x = s.pole x) :
    t.commandedPole a x = s.commandedPole a x := by
  have hlisted : t.ownListed (dropCause x) = s.ownListed (dropCause x) := ownListed_congr (ownEntries_congr h.alc h.cfs _)
  have hstop : t.stopEffect = s.stopEffect := by simp only [State.stopEffect, State.alarms, h.alc]
  have hclosed := stowedClosed_congr h.cfs h.iou x
  have hquiet := quietCondition_congr h.cfs h.iou
  cases a
  · simp only [State.commandedPole, State.raisedPole, h.supervising, hx, h.rsq, hlisted, hstop]
  · simp only [State.commandedPole, State.loweredPole, State.waitingPole, h.supervising, hx, hclosed, hquiet]

/-- R6: the poles a command names are judged, each for itself; the others stand. -/
theorem commandPoles_spec (a : PoleAction) (ps : PoleSel) (hp : s.role = .pole) :
    PolesMoved s (s.commandPoles a ps) ∧
      ∀ x, (s.commandPoles a ps).pole x = if names ps x = true then s.commandedPole a x else s.pole x := by
  unfold State.commandPoles
  rw [if_pos hp]
  cases ps with
  | p =>
    refine ⟨(commandOne_spec a s .p).1, fun x => ?_⟩
    rw [(commandOne_spec a s .p).2]
    cases x <;> rfl
  | n =>
    refine ⟨(commandOne_spec a s .n).1, fun x => ?_⟩
    rw [(commandOne_spec a s .n).2]
    cases x <;> rfl
  | both =>
    obtain ⟨hmoved, hpole⟩ := commandOne_spec a s .p
    obtain ⟨hmoved', hpole'⟩ := commandOne_spec a (s.commandOne a .p) .n
    refine ⟨hmoved.trans hmoved', fun x => ?_⟩
    dsimp only
    rw [hpole']
    cases x with
    | p => exact hpole .p
    | n => exact commandedPole_congr a hmoved (hpole .n)

theorem polesMoved_commandPoles (a : PoleAction) (ps : PoleSel) (s : State) : PolesMoved s (s.commandPoles a ps) := by
  by_cases hp : s.role = .pole
  · exact (commandPoles_spec a ps hp).1
  · unfold State.commandPoles
    rw [if_neg hp]
    exact .refl s

/-! ### The record at the event's end (R4, R9) -/

/-- A record at an event's end that ends no raise: the one given, unless it is unsettled or waits. -/
theorem endPole_of_rest {r : Pole} (ha : u.abandons old = false) (hr : u.pole x = r)
    (hi : r.state ≠ .initial) (hw : r.state ≠ .raising ∨ r.qualified = false) : u.endPole old x = r := by
  have hplaced : u.placedPole old x = r := by
    simp [State.placedPole, State.settledPole, State.abandonedPole, ha, hr, hi]
  unfold State.endPole Pole.waited
  rw [hplaced, if_neg]
  intro hc
  simp only [Bool.and_eq_true, Pole.isQualifying, Bool.or_eq_true, beq_iff_eq, hi, false_and, or_false] at hc
  obtain ⟨⟨hstate, hq⟩, -⟩ := hc
  rcases hw with hw | hw
  · exact hw hstate
  · rw [hw] at hq
    cases hq

/-- No rule of an event's end touches a pole's command outcome. -/
theorem endPole_outcome (ha : u.abandons old = false) : (u.endPole old x).outcome = (u.pole x).outcome := by
  have hsettled : (u.settledPole x (u.pole x)).outcome = (u.pole x).outcome := by
    unfold State.settledPole
    split
    · split
      · rfl
      · split <;> rfl
    · rfl
  have hplaced : u.placedPole old x = u.settledPole x (u.pole x) := by
    simp [State.placedPole, State.abandonedPole, ha]
  unfold State.endPole Pole.waited
  rw [hplaced]
  split <;> exact hsettled

theorem finish_pole (hm : u.rsq.mode ≠ .config) (hp : u.role = .pole) (hs : u.ps.supervising = true) (old : State) (x : PoleId) :
    (u.finish old).pole x = u.endPole old x := finishBut_pole none old hm hp hs x

/-- A RAISE judged in a state is seen in the records when the event has ended. -/
theorem raised_finish (hm : s.rsq.mode ≠ .config) (hp : s.role = .pole) (hmoved : PolesMoved s u)
    (hx : u.pole x = s.commandedPole .raise x) (ha : u.abandons old = false) : Raised x s (u.finish old) := by
  have hmode : u.rsq.mode ≠ .config := by rw [hmoved.rsq]; exact hm
  have hrole : u.role = .pole := (role_congr hmoved.cfs).trans hp
  unfold Raised
  dsimp only
  simp only [State.commandedPole, State.raisedPole] at hx
  cases hs : s.ps.supervising with
  | false =>
    rw [if_pos rfl]
    rw [hs, if_pos (by rfl)] at hx
    have hnot : ¬(u.rsq.mode ≠ .config ∧ u.role = .pole ∧ u.ps.supervising = true) := by
      rw [hmoved.supervising, hs]
      simp
    exact (pole_congr (finishBut_ps_of_not none old hnot) x).trans hx
  | true =>
    rw [if_neg (by simp)]
    rw [hs, if_neg (by simp)] at hx
    have hend := finish_pole hmode hrole (hmoved.supervising.trans hs) old x
    by_cases hraising : (s.pole x).state = .raising
    · rw [if_pos hraising]
      rw [if_pos hraising] at hx
      refine ⟨by rw [hend, endPole_outcome ha, hx], fun hq => ?_⟩
      rw [hend]
      exact endPole_of_rest ha hx (by rw [hraising]; decide) (.inr hq)
    · rw [if_neg hraising]
      rw [if_neg hraising] at hx
      simp only [Bool.or_eq_true, decide_eq_true_eq] at hx
      by_cases hstate : s.rsq.mode ≠ .run ∨ (s.pole x).state ≠ .stowed
      · rw [if_pos hstate]
        rw [if_pos hstate] at hx
        refine ⟨by rw [hend, endPole_outcome ha, hx]; rfl, fun hi => ?_⟩
        rw [hend]
        exact endPole_of_rest ha hx hi (.inl hraising)
      · rw [if_neg hstate]
        rw [if_neg hstate] at hx
        have hstowed : (s.pole x).state = .stowed := not_not.1 fun h => hstate (.inr h)
        rw [hend]
        split
        next halarm =>
          rw [if_pos halarm] at hx
          exact endPole_of_rest ha hx (by rw [hstowed]; simp) (.inl hraising)
        next halarm =>
          rw [if_neg halarm] at hx
          exact endPole_of_rest ha hx (by simp) (.inr rfl)

/-- A LOWER judged in a state is seen in the records when the event has ended. -/
theorem lowered_finish (hm : s.rsq.mode ≠ .config) (hp : s.role = .pole) (hmoved : PolesMoved s u)
    (hx : u.pole x = s.commandedPole .lower x) (ha : u.abandons old = false) : Lowered x s (u.finish old) := by
  have hmode : u.rsq.mode ≠ .config := by rw [hmoved.rsq]; exact hm
  have hrole : u.role = .pole := (role_congr hmoved.cfs).trans hp
  show if s.ps.supervising = false then (u.finish old).pole x = (s.pole x).told .ignoredState
    else match (s.pole x).state with
      | .initial => (u.finish old).pole x = ((s.pole x).lowered (s.stowedClosed x)).told .accepted
      | .raising => (u.finish old).pole x = ((s.pole x).lowered (s.stowedClosed x)).told .accepted
      | .stowed => (u.finish old).pole x = (s.pole x).told .ignoredState
      | .stuck => (u.finish old).pole x = (s.pole x).told .ignoredState
      | .lowerWait => (u.finish old).pole x = s.pole x
      | .lowering => (u.finish old).pole x = s.pole x
      | _ => (u.finish old).pole x = s.waitingPole x
  simp only [State.commandedPole, State.loweredPole] at hx
  cases hs : s.ps.supervising with
  | false =>
    rw [if_pos rfl]
    rw [hs, if_pos (by rfl)] at hx
    have hnot : ¬(u.rsq.mode ≠ .config ∧ u.role = .pole ∧ u.ps.supervising = true) := by
      rw [hmoved.supervising, hs]
      simp
    exact (pole_congr (finishBut_ps_of_not none old hnot) x).trans hx
  | true =>
    rw [if_neg (by simp)]
    rw [hs, if_neg (by simp)] at hx
    rw [finish_pole hmode hrole (hmoved.supervising.trans hs) old x]
    have hdown (c : CommandOutcome) :
        (((s.pole x).lowered (s.stowedClosed x)).told c).state ≠ .initial ∧
          (((s.pole x).lowered (s.stowedClosed x)).told c).state ≠ .raising :=
      ⟨(lowered_state (s.pole x) _).2, (lowered_state (s.pole x) _).1⟩
    cases hstate : (s.pole x).state with
    | initial | raising =>
      rw [hstate] at hx
      exact endPole_of_rest ha hx (hdown _).1 (.inl (hdown _).2)
    | stowed | stuck =>
      rw [hstate] at hx
      have htold : ((s.pole x).told .ignoredState).state = (s.pole x).state := rfl
      exact endPole_of_rest ha hx (by rw [htold, hstate]; decide) (.inl (by rw [htold, hstate]; decide))
    | lowerWait | lowering =>
      rw [hstate] at hx
      exact endPole_of_rest ha hx (by rw [hstate]; decide) (.inl (by rw [hstate]; decide))
    | onWire | suspect =>
      rw [hstate] at hx
      have hwaits : (s.waitingPole x).state = .lowerWait := rfl
      exact endPole_of_rest ha hx (by rw [hwaits]; decide) (.inl (by rw [hwaits]; decide))

/-- A command judged in `s` is seen in the records when the event has ended. -/
theorem commanded_finish (a : PoleAction) (ps : PoleSel) (hm : s.rsq.mode ≠ .config) (hp : s.role = .pole)
    (ha : (s.commandPoles a ps).abandons old = false) : Commanded a ps s ((s.commandPoles a ps).finish old) := by
  obtain ⟨hmoved, hpole⟩ := commandPoles_spec a ps hp
  intro x hx
  have hjudged := hpole x
  rw [if_pos hx] at hjudged
  cases a
  · exact raised_finish hm hp hmoved hjudged ha
  · exact lowered_finish hm hp hmoved hjudged ha

/-- What the judgement of a command reads. -/
theorem Commanded.reads {v w : State} {a : PoleAction} {ps : PoleSel} (h : Commanded a ps s t) (hcfs : v.cfs = s.cfs)
    (hm : v.rsq.mode = s.rsq.mode) (hps : v.ps = s.ps) (halc : v.alc = s.alc)
    (hclosed : ∀ x, v.stowedClosed x = s.stowedClosed x) (hquiet : v.quietCondition = s.quietCondition) (hw : w.ps = t.ps) :
    Commanded a ps v w := by
  intro x hx
  have hstep := h x hx
  have hpole := pole_congr hps x
  have hpole' := pole_congr hw x
  have hlisted : v.ownListed (dropCause x) = s.ownListed (dropCause x) := ownListed_congr (ownEntries_congr halc hcfs _)
  have hstop : v.stopEffect = s.stopEffect := by simp only [State.stopEffect, State.alarms, halc]
  cases a
  · simp only [Raised, hps, hpole, hpole', hm, hlisted, hstop] at hstep ⊢
    exact hstep
  · simp only [Lowered, hps, hpole, hpole', hclosed, hquiet] at hstep ⊢
    exact hstep

/-- The judgement of a command sees the poles, the rounds, the alarms and the inputs alone. -/
theorem Commanded.congr {v w : State} {a : PoleAction} {ps : PoleSel} (h : Commanded a ps s t) (hcfs : v.cfs = s.cfs)
    (hm : v.rsq.mode = s.rsq.mode) (hps : v.ps = s.ps) (halc : v.alc = s.alc) (hiou : v.iou = s.iou) (hw : w.ps = t.ps) :
    Commanded a ps v w :=
  h.reads hcfs hm hps halc (stowedClosed_congr hcfs hiou) (quietCondition_congr hcfs hiou) hw

/-- The band and the line voltage are no business of an event's end. -/
theorem finishBut_line_voltage (skip : Option (Fin 8)) (u old : State) :
    (u.finishBut skip old).ps.band = u.ps.band ∧ (u.finishBut skip old).ps.lineVoltage = u.ps.lineVoltage := by
  by_cases h : u.rsq.mode ≠ .config ∧ u.role = .pole ∧ u.ps.supervising = true
  · rw [finishBut_ps skip old h.1 h.2.1 h.2.2]
    exact ⟨(gapRule_frame _).1, (gapRule_frame _).2.1⟩
  · rw [finishBut_ps_of_not skip old h]
    exact ⟨rfl, rfl⟩

end Commands

section PoleCommand

variable {s : State}

/-! ### POLE_COMMAND (R6, R188, R189) -/

theorem replied_ps (r : Request) (s t : State) : (s.replied r t).ps = t.ps := rfl

theorem currentFrame_replied {s t : State} (r : Request) (h : CurrentFrame s t) : CurrentFrame s (s.replied r t) := h

theorem currentFrame_examineBreak {s t : State} (h : CurrentFrame s t) : CurrentFrame s t.examineBreak := by
  obtain ⟨hp, hcfs, hpt, hin, hpins, hrounds⟩ := h
  refine ⟨by simpa using hp, by simpa using hcfs, by simpa using hpt, ?_, hpins.trans (samePins_examineBreak t), ?_⟩
  · unfold SameInputs at hin ⊢
    simpa using hin
  · unfold SameRounds at hrounds ⊢
    simpa using hrounds

theorem replyData_poleCommand (a : PoleAction) (ps : PoleSel) (s t : State) :
    replyData (.poleCommand a ps) s t =
      [if names ps .p then byteOf (outcomeCode (t.pole .p).outcome) else 0xFF,
        if names ps .n then byteOf (outcomeCode (t.pole .n).outcome) else 0xFF] := by
  cases ps <;> rfl

/-- Settles O33: POLE_COMMAND judges each pole it names in the event that takes it. -/
theorem poleCommandJudged : Obligations.PoleCommandJudged := by
  intro s a ps line h hm hp
  set v := s.sense line with hv
  have hclear : LinkClear v := linkClear_sense h line
  have hmode : v.rsq.mode ≠ .config := by simpa [hv] using hm
  have hrole : v.role = .pole := (role_congr (by simp [hv])).trans hp
  have hj : v.judge (.poleCommand a ps) = none :=
    judge_obstacle rfl (bne_iff_ne.2 hmode) (beq_iff_eq.2 hrole) rfl
  have hlen : (requestPayload (.poleCommand a ps)).length ≤ Figures.payloadMax := by
    simp [requestPayload, Figures.payloadMax]
  set u := v.commandPoles a ps with hu
  have hmoved : PolesMoved v u := polesMoved_commandPoles a ps v
  have hexec : exec (.poleCommand a ps line) s = .next (v.replied (.poleCommand a ps) (u.finish v)).examineBreak := by
    rw [exec_poleCommand, deliverRequest_clear hclear hlen, takeRequest_replied hclear (by simp) hj]
    rfl
  have hps : (v.replied (.poleCommand a ps) (u.finish v)).examineBreak.ps = (u.finish v).ps := by
    obtain ⟨-, -, -, -, h, -⟩ := examineBreak_frame (v.replied (.poleCommand a ps) (u.finish v))
    exact h.trans (replied_ps _ _ _)
  have hcommanded : Commanded a ps v (u.finish v) :=
    commanded_finish a ps hmode hrole (abandons_of_kept (by rw [hmoved.rsq]) (newStop_of_alc hmoved.alc))
  obtain ⟨hband, hvoltage⟩ := finishBut_line_voltage none u v
  refine ⟨_, hexec, hcommanded.congr (by simp [hv]) (by simp [hv]) (by simp [hv]) (by simp [hv]) (by simp [hv]) hps, ?_, ?_, ?_, ?_⟩
  · rw [hps, State.finish, hband, hmoved.ps]
    simp [hv]
  · rw [hps, State.finish, hvoltage, hmoved.ps]
    simp [hv]
  · exact currentFrame_examineBreak (currentFrame_replied _
      (currentFrame_finishBut none hmoved.pending hmoved.cfs hmoved.pt hmoved.iou hmoved.pins (.of_rsq hmoved.rsq)))
  · have hanswer := replied_answered v (u.finish v) (.poleCommand a ps) ((finishBut_mask none u v).trans hmoved.mask)
    unfold AnsweredWith at hanswer ⊢
    simp only [pole_congr hps]
    have hsl : v.sl = s.sl := by simp [hv]
    rw [hsl, replyData_poleCommand] at hanswer
    obtain ⟨-, -, -, -, -, -, -, -, -, hbreak⟩ := examineBreak_frame (v.replied (.poleCommand a ps) (u.finish v))
    rw [hbreak]
    exact hanswer

end PoleCommand

end Machine
end Sys2Proof

/-!
PROOFS. Own slots, breaks and windows: what the station drives on the coordination line, and what a break detected and a
window's end leave (R44, R47 to R49, R120, R125, R126, R131, R132, R144, R147 to R150; O53, O57, O58, O60).
-/

namespace Sys2Proof
namespace Machine

section Quiet

variable {s t u old : State} {c : Cause}

/-! ### Events that ask for no SENSOR_LOSS (R24) -/

/-- R24: with no latch newly stale, no pole leaving STOWED and supervision not just begun, no SENSOR_LOSS is raised. -/
theorem sensorLoss_none (hlatches : t.iou.latches = old.iou.latches) (hs : old.ps.supervising = true)
    (hstowed : ∀ x, (old.pole x).state = .stowed → (t.pole x).state = .stowed) : t.sensorLoss old = none := by
  have hnewly : lowestDetail
      (fun d => (t.latch (detailChannel d)).stale && !(old.latch (detailChannel d)).stale) = none := by
    refine List.find?_eq_none.2 fun d _ => ?_
    simp [State.latch, hlatches]
  have hleaves (x : PoleId) : ((old.pole x).state == .stowed && (t.pole x).state != .stowed) = false := by
    by_cases h : (old.pole x).state = .stowed
    · simp [h, hstowed x h]
    · simp [h]
  unfold State.sensorLoss
  dsimp only
  simp only [hnewly, hleaves, hs, Bool.or_false, Bool.not_true, Bool.false_eq_true, if_false]
  split <;> rfl

theorem endPole_of_stowed {x : PoleId} (h : (u.pole x).state = .stowed) : u.endPole old x = u.pole x := by
  have hr : (u.pole x).state ≠ .raising := by rw [h]; decide
  have hi : (u.pole x).state ≠ .initial := by rw [h]; decide
  unfold State.endPole
  rw [placedPole_at_rest old x hr hi, Pole.waited]
  simp [Pole.isQualifying, hr, hi]

/-- An event that changes no latch and no pole raises no SENSOR_LOSS at its end. -/
theorem raiseSensorLoss_of_kept (hps : u.ps = old.ps) (hlatches : u.iou.latches = old.iou.latches) (hs : u.ps.supervising = true) :
    (u.polesPlaced old).raiseSensorLoss old = u.polesPlaced old := by
  have hnone : (u.polesPlaced old).sensorLoss old = none := by
    refine sensorLoss_none (by simpa using hlatches) (by rw [← hps]; exact hs) fun x hx => ?_
    have hux : (u.pole x).state = .stowed := by rw [pole_congr hps]; exact hx
    rw [polesPlaced_pole]
    exact (congrArg Pole.state (endPole_of_stowed (old := old) hux)).trans hux
  rw [State.raiseSensorLoss, hnone]

theorem mem_clearOwn {e : AlarmEntry} (h : e ∈ (s.clearOwn c).alarms) : e ∈ s.alarms := by
  rw [clearOwn_alarms] at h
  exact (List.mem_filter.1 h).1

/-- An event that changes no latch and no pole adds no entry at its end. -/
theorem mem_reviewed (hps : u.ps = old.ps) (hlatches : u.iou.latches = old.iou.latches) {e : AlarmEntry}
    (h : e ∈ (u.reviewed old).alarms) : e ∈ u.alarms := by
  have hstop (v : State) (hv : e ∈ v.clearStop.alarms) : e ∈ v.alarms := by
    unfold State.clearStop at hv
    split at hv
    · exact mem_clearOwn hv
    · exact hv
  have hdrop (v : State) (x : PoleId) (hv : e ∈ (v.clearDrop x).alarms) : e ∈ v.alarms := by
    unfold State.clearDrop at hv
    split at hv
    · exact mem_clearOwn hv
    · exact hv
  have hsensor (v : State) (hv : e ∈ v.clearSensorLoss.alarms) : e ∈ v.alarms := by
    unfold State.clearSensorLoss at hv
    split at hv
    · exact mem_clearOwn hv
    · exact hv
  have hpoles := hstop _ h
  by_cases hp : u.role = .pole ∧ u.ps.supervising = true
  · have hrule (v : State) : v.restoreQualifyRule.alarms = v.alarms := rfl
    rw [polesEnd_of_supervising hp.1 hp.2, hrule, State.polesListed] at hpoles
    have hlisted := hsensor _ (hdrop _ .p (hdrop _ .n hpoles))
    rw [raiseSensorLoss_of_kept hps hlatches hp.2] at hlisted
    have halarms : (u.polesPlaced old).alarms = u.alarms := by simp [State.alarms]
    rwa [halarms] at hlisted
  · rw [polesEnd_of_not hp] at hpoles
    exact hpoles

theorem not_pending_reviewed (hps : u.ps = old.ps) (hlatches : u.iou.latches = old.iou.latches) (h : u.ownPending = false) :
    (u.reviewed old).ownPending = false := by
  rw [Bool.eq_false_iff] at h ⊢
  intro hpending
  obtain ⟨e, he, hsrc, hstate⟩ := ownPending_iff.1 hpending
  have hown : (u.reviewed old).own = u.own := own_congr (by simp [State.reviewed])
  exact h (ownPending_iff.2 ⟨e, mem_reviewed hps hlatches he, by rw [← hown]; exact hsrc, hstate⟩)

/-- Without a PENDING own entry an event that changes no latch and no pole asserts no break. -/
theorem finish_line_of_not_pending (hps : u.ps = old.ps) (hlatches : u.iou.latches = old.iou.latches)
    (h : u.ownPending = false) : (u.finish old).li = u.li ∧ (u.finish old).pins = u.pins := by
  rcases finish_line u old with hkept | ⟨-, -, -, -, -, hpending, -⟩
  · exact hkept
  · rw [not_pending_reviewed hps hlatches h] at hpending
    cases hpending

end Quiet

section Breaks

variable {s : State}

/-! ### Breaks asserted and released (R44, R148) -/

theorem sense_ps (s : State) (l : LineLevel) : (s.sense l).ps = s.ps ∧ (s.sense l).alc = s.alc ∧ (s.sense l).cfs = s.cfs := by
  simp

theorem sense_ownPending (s : State) (l : LineLevel) : (s.sense l).ownPending = s.ownPending :=
  ownPending_congr (by simp) (by simp)

theorem sense_listKept (h : ListKept s) (l : LineLevel) : ListKept (s.sense l) := (listKept_congr (by simp)).2 h

theorem sense_recessive_li (s : State) :
    (s.sense .recessive).li =
      if s.lineHeld = true then s.li
      else
        { s.li with
          dominantRun := 0, restarted := false
          startSlot := if s.li.receiver = .frame then s.li.startSlot else none } := by
  unfold State.sense
  split <;> rfl

/-- Settles O57: a break is driven exactly where R44 asks for one, and released at its end. -/
theorem breaksDriven : Obligations.BreaksDriven := by
  intro s
  have hbody : s.body .breakAssert = some (s.sense .recessive) := rfl
  refine ⟨fun hheld hm hw hp ha hk => ?_, fun hd hnot => ?_, fun hd hline => ?_⟩
  · have hline : (s.sense .recessive).pins.line = .recessive := by simp [State.sense, hheld]
    have hfree : s.li.driver ≠ .brk := by
      intro h
      simp [State.lineHeld, h] at hheld
    obtain ⟨hli, hpins⟩ := finishBut_break (u := s.sense .recessive) none s (by simpa using hm) (by simpa using hw) hline
      (by simpa using hfree) (by simpa using ha) (sense_listKept hk _) ((sense_ownPending s _).trans hp)
    refine ⟨_, exec_of_body hbody, ?_, ?_, ?_, by simp, by simp, by simp, by simp, by simp⟩
    · rw [State.finish, hli]
      rfl
    · rw [State.finish, hli]
      rfl
    · rw [State.finish, hpins]
      rfl
  · refine ⟨_, exec_of_body hbody, ?_⟩
    rw [← sense_recessive_li]
    rcases hnot with hp | hm | hw | ha
    · exact (finish_line_of_not_pending (by simp) (by simp) ((sense_ownPending s _).trans hp)).1
    · exact (finish_line_of_not s (.inl (by simpa using hm))).1
    · exact (finish_line_of_not s (.inr (.inr (.inl (by simpa using hw))))).1
    · exact (finish_line_of_not s (.inr (.inr (.inr (.inr (by simpa using ha)))))).1
  · have hrelease : s.body .breakRelease = some (s.withLi { s.li with driver := .released }) := if_pos hd
    obtain ⟨hli, hpins⟩ := finish_line_of_not (u := s.withLi { s.li with driver := .released }) s (.inr (.inl hline))
    exact ⟨_, exec_of_body hrelease, hli, hpins, by simp⟩

/-! ### Own slots (R120, R125, R126, R144) -/

theorem startFrame_fields (s : State) (b : FrameBody) :
    (s.startFrame b).li.driver = .frame ∧ (s.startFrame b).pins.line = .dominant ∧
      (s.startFrame b).li.ownFrame = some ⟨frameKind b, frameChars s.own b, 0⟩ := ⟨rfl, rfl, rfl⟩

theorem statement_sense (s : State) (l : LineLevel) : (s.sense l).statement = s.statement := by
  obtain ⟨li, rsq, pins, hsense⟩ : ∃ li rsq pins, s.sense l = { s with li := li, rsq := rsq, pins := pins } :=
    ⟨_, _, _, sense_eq s l⟩
  have hseq : (s.sense l).rsq.statusSequence = s.rsq.statusSequence := by simp
  rw [hsense] at hseq ⊢
  simp only at hseq
  unfold State.statement
  dsimp only
  rw [hseq]
  rfl

/-- The frame of the own slot, as it is sent. -/
theorem ownSlotFrame_sense (s : State) (l : LineLevel) :
    (⟨frameKind (s.sense l).ownSlotFrame, frameChars s.own (s.sense l).ownSlotFrame, 0⟩ : OwnFrame) =
      match s.rsq.queue with
      | n :: _ =>
        if s.rsq.lastOwnSlot = .notice then ⟨.status, frameChars s.own (.status (statusBody s.statement)), 0⟩
        else ⟨.notice, frameChars s.own (.notice (noticeBody n)), 0⟩
      | [] => ⟨.status, frameChars s.own (.status (statusBody s.statement)), 0⟩ := by
  have hqueue : (s.sense l).rsq.queue = s.rsq.queue ∧ (s.sense l).rsq.lastOwnSlot = s.rsq.lastOwnSlot := by simp
  unfold State.ownSlotFrame
  rw [hqueue.1, hqueue.2, statement_sense]
  cases s.rsq.queue with
  | nil => rfl
  | cons n rest =>
    dsimp only
    split <;> rfl

/-- Settles O53: the own slot. -/
theorem ownSlotStarts : Obligations.OwnSlotStarts := by
  intro s line taken hm hph hc hd
  refine ⟨fun hnot => exec_of_no_body rfl (if_neg ?_), ⟨rfl, rfl, rfl⟩, fun hr ha => ?_⟩
  · rcases hnot with h | h <;> simp [h]
  have hb : s.body (.ownSlotStart line taken) = some ((s.sense line).startOwnSlot taken) :=
    if_pos (by simp [hm, hph, hc, hd, hr, ha])
  set v := s.sense line with hv
  have hown : v.own = s.own := own_congr (by simp [hv])
  refine ⟨_, exec_of_body hb, by simp [hv], by simp [hv], by simp [hv], by simp [hv], ?_⟩
  dsimp only
  have hstart (h : v.breakWanted = true ∨ v.pins.line = .dominant ∨ taken = true) : v.startOwnSlot taken = v := by
    unfold State.startOwnSlot
    rw [if_pos]
    simpa [or_assoc] using h
  split
  next hwanted =>
    intro hk
    rw [hstart (.inl hwanted)]
    obtain ⟨h1, h2, h3, h4, h5, h6⟩ := (breakWanted_iff v).1 hwanted
    obtain ⟨hli, -⟩ := finishBut_break none s h1 h3 h4 h5 h6 (sense_listKept hk line) h2
    rw [State.finish, hli]
    exact ⟨rfl, rfl⟩
  next hwanted =>
    split
    next hline =>
      rw [hstart (.inr hline)]
      rcases finish_line v s with ⟨hli, -⟩ | ⟨-, -, -, -, -, -, hli, -⟩
      · rw [hli]
        simp [hv, hd]
      · rw [hli]
        simp [assertBreak_li]
    next hline =>
      have hsend : v.startOwnSlot taken = v.startFrame v.ownSlotFrame := by
        unfold State.startOwnSlot
        rw [if_neg]
        rw [not_or] at hline
        simp [hwanted, hline.1, hline.2]
      obtain ⟨hdriver, hdominant, hframe⟩ := startFrame_fields v v.ownSlotFrame
      rw [hsend]
      obtain ⟨hli, hpins⟩ := finish_line_of_not (u := v.startFrame v.ownSlotFrame) s (.inr (.inl hdominant))
      rw [hli, hpins]
      refine ⟨hdriver, hdominant, ?_⟩
      rw [hframe, hown]
      exact congrArg some (ownSlotFrame_sense s line)

end Breaks

section Detection

variable {s u : State}

/-! ### Breaks detected, and the stuck line (R147, R150) -/

theorem dominantFor_rsq (s : State) (n : Nat) :
    (s.dominantFor n).rsq = { s.rsq with idleCount := s.rsq.idleCount.map fun _ => 0 } := by
  unfold State.dominantFor
  rw [lineTo_rsq]
  rfl

/-- A run of 20 bit times or more is no start bit. -/
theorem dominantFor_li (s : State) {n : Nat} (h : 20 ≤ n) : (s.dominantFor n).li = { s.li with dominantRun := n } := by
  have hnot : ¬n < Figures.breakBits := not_lt.2 h
  simp [State.dominantFor, State.lineTo, State.hears, State.restartIdle, hnot]

theorem dominantFor_pins (s : State) (n : Nat) : (s.dominantFor n).pins.line = .dominant := by
  simp [State.dominantFor]

@[simp] theorem countRxError_fields (s : State) (k : RxErrorKind) :
    (s.countRxError k).li = { s.li with rxErrors := satInc 255 s.li.rxErrors, lastRxError := k } ∧
      (s.countRxError k).rsq = s.rsq ∧ (s.countRxError k).alc = s.alc ∧ (s.countRxError k).pins = s.pins ∧
      (s.countRxError k).sl.summary.lineErrors = true := by
  refine ⟨rfl, rfl, rfl, rfl, ?_⟩
  exact Bool.or_true _

/-- R143: what a break cuts is a frame in reception. -/
def State.cutsFrame (receiving : List Byte) (s : State) : Bool :=
  (s.li.reception ++ receiving).head? == some Figures.sync && s.li.driver != .frame && s.assembles

/-- R147: what a break found outside CONFIG leaves, before its event ends. -/
theorem breakFound_spec (s : State) (receiving : List Byte) :
    let t := s.breakFound receiving
    t.rsq = { s.rsq with phase := .brk, windowPosition := none, idleCount := none } ∧ t.alc = { s.alc with breakHold := true } ∧
      t.pins = s.pins ∧ t.pt = s.pt ∧ t.cfs = s.cfs ∧
      t.li =
        { s.li.taking .idle [] with
          driver := if s.li.driver = .frame then .released else s.li.driver
          ownFrame := none, abortPending := false
          rxErrors := if s.cutsFrame receiving then satInc 255 s.li.rxErrors else s.li.rxErrors
          lastRxError := if s.cutsFrame receiving then .length else s.li.lastRxError } ∧
      (s.cutsFrame receiving = true → t.sl.summary.lineErrors = true) := by
  have hcut : ((s.li.reception ++ receiving).head? == some Figures.sync && s.li.driver != .frame && s.assembles) =
      s.cutsFrame receiving := rfl
  unfold State.breakFound
  dsimp only
  rw [hcut]
  cases s.cutsFrame receiving with
  | false => exact ⟨rfl, rfl, rfl, rfl, rfl, rfl, fun h => by cases h⟩
  | true => exact ⟨rfl, rfl, rfl, rfl, rfl, rfl, fun _ => Bool.or_true _⟩

theorem cutsFrame_iff (s : State) (receiving : List Byte) :
    s.cutsFrame receiving = true ↔
      (s.li.reception ++ receiving).head? = some 0xA7 ∧ s.li.driver ≠ .frame ∧ s.li.receiver ≠ .discard := by
  simp [State.cutsFrame, State.assembles, Figures.sync, and_assoc]

theorem judgeLine_of_breakHold (h : s.alc.breakHold = true) : s.judgeLine = .alarm :=
  judgeLine_of_alarm (by simp [State.alarmEffect, h])

/-- R86, R87: under a line condition other than AVAILABLE no line-fed channel is ON when the event has ended. -/
theorem CurrentEnd.battery_fed {t : State} (h : CurrentEnd u t) (hcfs : u.cfs = s.cfs) (hl : t.ca.lineCondition ≠ .available) (k : Fin 8)
    (hk : t.isOn k = true) : (s.channelCfg k).batteryFed = true := by
  rw [← channelCfg_congr hcfs]
  exact h.lineFed hl k hk

theorem breakDetection_ends (s : State) (receiving : List Byte) (h : s.li.dominantRun < 20) :
    ∃ t, exec (.breakDetection receiving) s = .next t ∧ t.li.dominantRun = 20 ∧ t.pins.line = .dominant ∧
      t.li.txErrors = s.li.txErrors ∧ t.rsq.mode = s.rsq.mode ∧ t.rsq.slotCounter = s.rsq.slotCounter ∧ t.pt = s.pt ∧
      (s.rsq.mode = .config →
        t.rsq = { s.rsq with idleCount := s.rsq.idleCount.map fun _ => 0 } ∧ t.alc = s.alc ∧
          t.li = { s.li with dominantRun := 20 } ∧ t.li.rxErrors = s.li.rxErrors) ∧
      (s.rsq.mode ≠ .config →
        t.rsq.phase = .brk ∧ t.rsq.windowPosition = none ∧ t.rsq.idleCount = none ∧ t.alc.breakHold = true ∧
          t.li.ownFrame = none ∧ t.li.abortPending = false ∧ t.li.receiver = .idle ∧ t.li.reception = [] ∧
          t.li.startSlot = none ∧
          t.li.driver = (if s.li.driver = .frame then .released else s.li.driver) ∧ t.ca.lineCondition = .alarm ∧
          (∀ k, t.isOn k = true → (s.channelCfg k).batteryFed = true) ∧
          (if (s.li.reception ++ receiving).head? = some 0xA7 ∧ s.li.driver ≠ .frame ∧ s.li.receiver ≠ .discard then
            t.li.rxErrors = min 255 (s.li.rxErrors + 1) ∧ t.li.lastRxError = .length ∧ t.sl.summary.lineErrors = true
          else t.li.rxErrors = s.li.rxErrors)) := by
  have hb : s.body (.breakDetection receiving) = some (s.detectBreak receiving) := if_pos h
  set v := s.dominantFor Figures.breakBits with hv
  have hvli : v.li = { s.li with dominantRun := 20 } := dominantFor_li s (n := 20) le_rfl
  have hvrsq := dominantFor_rsq s Figures.breakBits
  rw [← hv] at hvrsq
  have hvline : v.pins.line = .dominant := dominantFor_pins s _
  have hvframe : v.pt = s.pt ∧ v.alc = s.alc ∧ v.cfs = s.cfs := by simp [hv, State.dominantFor]
  by_cases hm : s.rsq.mode = .config
  · have hu : s.detectBreak receiving = v := if_pos hm
    rw [hu] at hb
    obtain ⟨hli, hpins⟩ := finish_line_of_not (u := v) s (.inr (.inl hvline))
    have hconfig : v.rsq.mode = .config := by rw [hvrsq]; exact hm
    obtain ⟨-, hrsq, -, halc, -⟩ := finishBut_blocks none v s
    rw [blocksEnd_of_config hconfig] at hrsq halc
    refine ⟨_, exec_of_body hb, by rw [hli, hvli], by rw [hpins, hvline], by rw [hli, hvli], ?_, ?_, ?_, fun _ => ?_, fun hx => absurd hm hx⟩
    · rw [State.finish, hrsq, hvrsq]
    · rw [State.finish, hrsq, hvrsq]
    · simp [hvframe]
    · refine ⟨hrsq.trans hvrsq, halc.trans hvframe.2.1, hli.trans hvli, ?_⟩
      rw [hli, hvli]
  · have hu : s.detectBreak receiving = v.breakFound receiving := if_neg hm
    rw [hu] at hb
    obtain ⟨hrsq, halc, hpins, hpt, hcfs, hli, htopic⟩ := breakFound_spec v receiving
    set u := v.breakFound receiving
    have huline : u.pins.line = .dominant := by rw [hpins]; exact hvline
    obtain ⟨hfli, hfpins⟩ := finish_line_of_not (u := u) s (.inr (.inl huline))
    rw [hvrsq] at hrsq
    have hmode : u.rsq.mode ≠ .config := by rw [hrsq]; exact hm
    have hend : CurrentEnd u (u.finish s) := currentEnd_finish s hmode
    have hhold : (u.finish s).alc.breakHold = true := by
      rw [State.finish, (finishBut_holds none u s).2.1, halc]
    have hline : (u.finish s).ca.lineCondition = .alarm := hend.line.trans (judgeLine_of_breakHold hhold)
    have hcut : v.cutsFrame receiving = s.cutsFrame receiving := by
      simp only [State.cutsFrame, State.assembles, hvli]
    rw [hcut, hvli] at hli
    rw [hcut] at htopic
    refine ⟨_, exec_of_body hb, by rw [hfli, hli]; rfl, by rw [hfpins, huline], by rw [hfli, hli]; rfl, by simp [hrsq], by simp [hrsq],
      by simp [hpt, hvframe], fun hx => absurd hx hm, fun _ => ⟨by simp [hrsq], by simp [hrsq], by simp [hrsq], hhold,
        by rw [hfli, hli], by rw [hfli, hli], by rw [hfli, hli]; rfl, by rw [hfli, hli]; rfl, by rw [hfli, hli]; rfl,
        by rw [hfli, hli], hline, ?_, ?_⟩⟩
    · exact hend.battery_fed (hcfs.trans hvframe.2.2) (by rw [hline]; decide)
    · by_cases hx : s.cutsFrame receiving = true
      · rw [if_pos ((cutsFrame_iff s receiving).1 hx), hfli, hli, if_pos hx, if_pos hx]
        refine ⟨rfl, rfl, ?_⟩
        rw [finish_summary]
        exact Bool.or_eq_true_iff.2 (.inl (htopic hx))
      · rw [if_neg (mt (cutsFrame_iff s receiving).2 hx), hfli, hli, if_neg hx]

theorem judgeLine_of_stuck (h : s.li.stuck = true) : s.judgeLine = if s.alarmEffect = true then .alarm else .unknown := by
  unfold State.judgeLine
  split
  · rfl
  · simp [h]

theorem stuckLine_ends (s : State) (h : 20 ≤ s.li.dominantRun) :
    ∃ t, exec .stuckLine s = .next t ∧ t.li.stuck = true ∧ t.li.dominantRun = 257 ∧ t.pins.line = .dominant ∧
      t.li = { s.li with stuck := true, dominantRun := 257 } ∧ t.pt = s.pt ∧
      SameRounds { s.rsq with idleCount := s.rsq.idleCount.map fun _ => 0 } t ∧
      (s.rsq.mode ≠ .config →
        (t.ca.lineCondition = if t.alarmEffect = true then .alarm else .unknown) ∧
          ∀ k, t.isOn k = true → (s.channelCfg k).batteryFed = true) := by
  have hb : s.body .stuckLine = some s.stickLine := if_pos h
  set u := s.stickLine with hu
  have huli : u.li = { s.li with stuck := true, dominantRun := 257 } := by
    have hrun := dominantFor_li s (n := Figures.stuckBits) (by decide)
    rw [hu, State.stickLine, withLi_li, hrun]
    rfl
  have hursq : u.rsq = { s.rsq with idleCount := s.rsq.idleCount.map fun _ => 0 } := dominantFor_rsq s _
  have huline : u.pins.line = .dominant := dominantFor_pins s _
  have huframe : u.pt = s.pt ∧ u.cfs = s.cfs := by simp [hu, State.stickLine, State.dominantFor]
  obtain ⟨hli, hpins⟩ := finish_line_of_not (u := u) s (.inr (.inl huline))
  have hstuck : (u.finish s).li.stuck = true := by rw [hli, huli]
  refine ⟨_, exec_of_body hb, hstuck, by rw [hli, huli], by rw [hpins, huline], by rw [hli, huli], by simp [huframe], ?_, fun hm => ?_⟩
  · have hrounds := roundsKept_finishBut none u s
    unfold RoundsKept at hrounds
    rw [hursq] at hrounds
    exact hrounds
  · have hend : CurrentEnd u (u.finish s) := currentEnd_finish s (by rw [hursq]; exact hm)
    have hline := hend.line.trans (judgeLine_of_stuck hstuck)
    refine ⟨hline, hend.battery_fed huframe.2 ?_⟩
    rw [hline]
    split <;> decide

/-- Settles O58: the 20th and the 257th bit time of a dominant run. -/
theorem breakDetected : Obligations.BreakDetected :=
  ⟨breakDetection_ends, fun s => ⟨fun h => exec_of_no_body rfl (if_neg (not_le.2 h)), stuckLine_ends s⟩⟩

end Detection

section Windows

variable {s u : State}

/-! ### The end of a window (R48, R132) -/

theorem unclaimedWindow_holdTimer (s : State) : s.unclaimedWindow.alc.unclaimedHoldTimer = some 0 := rfl

/-- R48: an unclaimed window with a place for its entry lists UNCLAIMED ANNOUNCED, its age 0. -/
theorem unclaimedWindow_listed (h : HasPlace .unknown .unclaimed s) :
    ∃ e ∈ s.unclaimedWindow.alarms, e.hasKey .unknown .unclaimed = true ∧ e.state = .announced ∧ e.age = 0 := by
  unfold State.unclaimedWindow
  dsimp only
  split
  next hl =>
    obtain ⟨e, he, hk⟩ := List.any_eq_true.1 hl
    refine ⟨e.repeated .announced none, List.mem_map.2 ⟨e, he, if_pos hk⟩, ?_, rfl, rfl⟩
    rw [hasKey_iff, key_repeated]
    exact (hasKey_iff _ _ _).1 hk
  next hl =>
    have hroom : s.alarms.length < Figures.alarmCapacity := h.resolve_left hl
    refine ⟨newEntry .unknown .unclaimed .announced .localRaise none, ?_, by simp, rfl, rfl⟩
    unfold State.placeEntry
    rw [if_pos hroom]
    exact List.mem_append_right _ (List.mem_singleton.2 rfl)

theorem unclaimedWindow_length (s : State) : s.unclaimedWindow.alarms.length ≤ s.alarms.length + 1 := by
  unfold State.unclaimedWindow
  dsimp only
  split
  · exact (length_updateEntry ..).trans_le (Nat.le_succ _)
  · unfold State.placeEntry
    split
    · exact (List.length_append ..).le
    · exact Nat.le_succ _

/-- A PENDING own entry stands at an unclaimed window. -/
theorem pending_unclaimedWindow (h : s.ownPending = true) : s.unclaimedWindow.ownPending = true := by
  obtain ⟨e, he, hsrc, hpending⟩ := ownPending_iff.1 h
  refine ownPending_iff.2 ⟨e, ?_, hsrc.trans (congrArg Source.station (own_congr (by simp)).symm), hpending⟩
  have hkey : ¬e.hasKey .unknown .unclaimed = true := by
    rw [hasKey_iff, AlarmEntry.key, hsrc]
    simp
  unfold State.unclaimedWindow
  dsimp only
  split
  · exact List.mem_map.2 ⟨e, he, if_neg hkey⟩
  · unfold State.placeEntry
    split
    · exact List.mem_append_left _ he
    · exact he

theorem unclaimedWindow_withRsq (s : State) (x : Sequencer) : (s.withRsq x).unclaimedWindow = s.unclaimedWindow.withRsq x := by
  have hlisted : (s.withRsq x).listed .unknown .unclaimed = s.listed .unknown .unclaimed := rfl
  have hlength : (s.withRsq x).alarms.length = s.alarms.length := rfl
  unfold State.unclaimedWindow
  dsimp only
  rw [hlisted]
  split
  · rfl
  · unfold State.placeEntry
    rw [hlength]
    split <;> rfl

/-- R48, R132: what a window's end leaves of the rounds and of the line. -/
theorem endWindow_rounds (s : State) :
    s.endWindow.rsq = { s.rsq with windowPosition := none, phase := .roundEnd, slotCounter := s.roundLength } ∧
      s.endWindow.li = s.li ∧ s.endWindow.pins = s.pins ∧ s.endWindow.pt = s.pt ∧ s.endWindow.cfs = s.cfs := by
  unfold State.endWindow
  dsimp only
  split <;> simp

theorem endWindow_claimed (h : s.alc.windowClaimed = true) : s.endWindow.alc = { s.alc with windowClaimed := false } := by
  unfold State.endWindow
  dsimp only
  rw [if_pos h]
  rfl

theorem endWindow_unclaimed (h : s.alc.windowClaimed = false) :
    s.endWindow.alc = { s.unclaimedWindow.alc with windowClaimed := false } := by
  unfold State.endWindow
  dsimp only
  rw [if_neg (by simp [h]), unclaimedWindow_withRsq]
  rfl

theorem endWindow_pending (hk : ListKept s) (h : s.ownPending = true) : ListKept s.endWindow ∧ s.endWindow.ownPending = true := by
  obtain ⟨-, -, -, -, hcfs⟩ := endWindow_rounds s
  cases hc : s.alc.windowClaimed with
  | true =>
    have halarms : s.endWindow.alarms = s.alarms := by simp only [State.alarms, endWindow_claimed hc]
    refine ⟨by unfold ListKept; rw [halarms]; exact hk, ?_⟩
    unfold State.ownPending
    rw [halarms, own_congr hcfs]
    exact h
  | false =>
    have halarms : s.endWindow.alarms = s.unclaimedWindow.alarms := by simp only [State.alarms, endWindow_unclaimed hc]
    refine ⟨by unfold ListKept; rw [halarms]; exact listKept_unclaimedWindow hk, ?_⟩
    have hown : s.endWindow.own = s.unclaimedWindow.own := own_congr (by simp)
    unfold State.ownPending
    rw [halarms, hown]
    exact pending_unclaimedWindow h

/-- Settles O60: the end of an alarm window. -/
theorem windowCompletes : Obligations.WindowCompletes := by
  intro s hm hph
  have hb : s.body .windowComplete = some s.endWindow := if_pos (by simp [hm, hph])
  obtain ⟨hrsq, hli, hpins, hpt, hcfs⟩ := endWindow_rounds s
  have hhold := (finishBut_holds none s.endWindow s).1
  refine ⟨_, exec_of_body hb, by simp [hrsq], by simp [hrsq], by simp [hrsq], by simp, fun hc => ⟨?_, fun hplace hlen => ?_⟩,
    fun hc => ⟨?_, fun hl => ?_⟩, fun hrun hp hline hd ha hk => ?_, fun hline => ?_⟩
  · rw [State.finish, hhold, endWindow_unclaimed hc]
    rfl
  · obtain ⟨e, he, hkey, hstate, hage⟩ := unclaimedWindow_listed hplace
    have halarms : s.endWindow.alarms = s.unclaimedWindow.alarms := by simp only [State.alarms, endWindow_unclaimed hc]
    have hshort : s.endWindow.alarms.length < Figures.alarmCapacity := by
      rw [halarms]
      exact (unclaimedWindow_length s).trans_lt (Nat.succ_lt_succ hlen)
    have hsrc : e.source = .unknown := by
      rw [hasKey_iff, AlarmEntry.key, Prod.mk.injEq] at hkey
      exact hkey.1
    refine ⟨e, mem_alarms_finishBut none s (.inr hshort) hshort.le (by simp [hsrc]) (by rw [halarms]; exact he), hkey, hstate, hage⟩
  · rw [State.finish, hhold, endWindow_claimed hc]
  · refine not_listed_unclaimed_finishBut none s ?_
    simp only [State.listed, State.alarms, endWindow_claimed hc]
    exact hl
  · obtain ⟨hk', hp'⟩ := endWindow_pending hk hp
    have hdriver : (s.endWindow.finish s).li.driver = .brk :=
      finish_driver_brk s (by rw [hrsq]; exact hrun) (by rw [hrsq]; simp) (by rw [hpins]; exact hline) (by rw [hli]; exact ha) hk' hp'
    exact ⟨hdriver, exec_of_no_body rfl (if_neg (by simp [State.intervalRuns, hdriver]))⟩
  · obtain ⟨hfli, hfpins⟩ := finish_line_of_not (u := s.endWindow) s (.inr (.inl (by rw [hpins]; exact hline)))
    exact ⟨hfli.trans hli, hfpins.trans hpins⟩

end Windows

end Machine
end Sys2Proof

/-!
PROOFS. Skips and round ends, own frames completed, echoes and aborts, and the windows after a break (R38, R39, R44 to R48,
R64, R121 to R124, R130, R131, R135, R139, R144 to R147; O54, O55, O56, O59).
-/

namespace Sys2Proof
namespace Machine

section Rounds

variable {s t u : State}

/-! ### Skips and round ends (R64, R121, R123, R124) -/

theorem nextSlot_eq (n a : Nat) : nextSlot n a = min (a + 1) n := by
  unfold nextSlot
  split <;> omega

/-- R121, R122: the counter past a slot, and what it begins. -/
theorem passSlot_rounds (s : State) (a : Nat) :
    (s.passSlot a).rsq =
      { s.rsq with
        slotCounter := min (a + 1) s.roundLength
        phase := if a + 1 < s.roundLength then .slot else .roundEnd } := by
  unfold State.passSlot
  dsimp only
  rw [nextSlot_eq]
  by_cases h : a + 1 < s.roundLength
  · rw [if_pos h, if_neg (by omega)]
    rfl
  · rw [if_neg h, if_pos (by omega)]
    rfl

theorem roundEnds_rsq (s : State) :
    s.roundEnds.rsq =
      { s.rsq with
        slotCounter := 0, roundCount := (s.rsq.roundCount + 1) % 65536
        phase := if s.rsq.mode = .listen then .untimed else .slot
        idleCount := if s.rsq.mode = .listen then some 0 else s.rsq.idleCount } := by
  have hround : s.takeRoundEnd.rsq =
      { s.rsq with slotCounter := 0, roundCount := (s.rsq.roundCount + 1) % 65536, phase := .slot } := by
    rw [takeRoundEnd_eq]
    simp [State.roundStarted]
  unfold State.roundEnds
  dsimp only
  split
  · rw [withRsq_rsq, hround]
  · exact hround

theorem roundEnds_hold (s : State) : s.roundEnds.alc.breakHold = false := by
  unfold State.roundEnds
  dsimp only
  split <;> rw [takeRoundEnd_eq]
  · rfl
  · rfl

/-- R64: the allowance that a round end in RUN climbs to. -/
theorem roundAllowance_between {step a share : Nat} (h : a ≤ share) :
    a ≤ roundAllowance step a share ∧ roundAllowance step a share ≤ share := by
  unfold roundAllowance
  split <;> omega

/-- An event of the rounds and the current leaves the rest. -/
theorem currentFrame_finish_rounds (hp : u.pending = s.pending) (hcfs : u.cfs = s.cfs) (hpt : u.pt = s.pt)
    (hiou : u.iou = s.iou) (hpins : u.pins = s.pins) : CurrentFrame { s with rsq := (u.finish s).rsq } (u.finish s) := by
  obtain ⟨fp, fcfs, fpt⟩ := finishBut_frame u none s
  have hin : SameInputs s (u.finish s) := by
    unfold SameInputs
    rw [State.finish, finishBut_iou, hiou]
  have hsame : SamePins s (u.finish s) := (SamePins.of_pins hpins).trans (samePins_finishBut none u s)
  refine ⟨fp.trans hp, fcfs.trans hcfs, fpt.trans hpt, hin, hsame, ?_⟩
  generalize u.finish s = t
  rfl

/-- R64: a round end in RUN of a state with nothing else to settle. -/
theorem roundEnd_climbs (hm : s.rsq.mode = .run) (hph : s.rsq.phase = .roundEnd) (hi : s.intervalRuns = true)
    (hhold : s.alc.breakHold = false) (hs : Settled s) :
    ∃ t, exec .roundEnd s = .next t ∧ t.ca.share = s.ca.share ∧ t.ca.budget = s.ca.budget ∧
      t.ca.allowance =
        (if s.ca.share ≤ s.ca.allowance then s.ca.share
        else min s.ca.share (s.ca.allowance + s.cfs.settings.apportion.rampStep)) ∧
      t.ll = s.ll ∧ t.onSum + t.ca.grant = t.ca.allowance ∧ CurrentFrame { s with rsq := t.rsq } t := by
  have hconfig : s.rsq.mode ≠ .config := by rw [hm]; decide
  have hends := endsIdle_of_settled hconfig hs
  have hidle := currentIdle_of_caSettle hends.current
  have hb : s.body .roundEnd = some s.takeRoundEnd := by
    have hrun : s.roundEnds = s.takeRoundEnd := if_neg (by rw [hm]; decide)
    rw [← hrun]
    exact if_pos (by simp [hm, hph, hi])
  set w := s.roundStarted with hw
  set a := roundAllowance s.cfs.settings.apportion.rampStep s.ca.allowance s.ca.share with ha
  have hwmode : w.rsq.mode = .run := hm
  have hshare : w.formShare w.formCharge (w.formBudget w.judgeLine w.sourceVoltage) = s.ca.share := hidle.share.symm
  have hround : w.caRound = (w.compute.setAllowance a).follow := by
    rw [caRound_eq, hshare]
    rfl
  set u := s.takeRoundEnd with hu
  have hueq : u = w.caRound.withAlc { w.caRound.alc with breakHold := false } := takeRoundEnd_eq s
  have hle : s.ca.allowance ≤ s.ca.share := by
    have := hidle.allowance
    rw [if_pos hm] at this
    omega
  obtain ⟨hup, hdown⟩ := roundAllowance_between (step := s.cfs.settings.apportion.rampStep) hle
  rw [← ha] at hup hdown
  have hfit : s.onSum ≤ s.ca.allowance := hidle.grant ▸ Nat.le_add_right s.onSum s.ca.grant
  obtain ⟨c1, c2, c3, c4, c5, c6, c7, -⟩ := computed_spec w a
  have hll : u.ll = s.ll := by
    have hwll : (w.compute.setAllowance a).follow.ll = w.ll :=
      computed_ll_of_fit a (fun hl => hidle.lineFed (by rw [hidle.line]; exact hl)) (by rw [if_pos hwmode]; exact hfit.trans hup)
    rw [hueq, withAlc_ll, hround, hwll]
    rfl
  have hallowance : u.ca.allowance = a := by
    rw [hueq, withAlc_ca, hround, c6, if_pos hwmode]
  have hdemand : u.ca.demand = s.ca.demand := by
    rw [hueq, withAlc_ca, hround, c7]
    rfl
  have halc : u.alc = s.alc := by
    have hwalc : w.caRound.alc = s.alc := by simp [hw, State.roundStarted]
    rw [hueq, withAlc_alc, hwalc, ← hhold]
  obtain ⟨-, hcfs, hli, hpt, hps, hiou, -, hpins⟩ := takeRoundEnd_frame s
  have hursq : u.rsq = w.rsq := by
    rw [hueq]
    simp
  have humode : u.rsq.mode = .run := by rw [hursq]; exact hwmode
  have hreviewed : u.reviewed s = u := (reviewedAlike_of_inputs hcfs hps (by rw [halc]) hiou (by rw [humode, hm])).reviewed hends
  have hin : SameInputsOfCurrent s u := ⟨hcfs, by rw [hli], hpt, hps, by rw [halc], by rw [hiou]⟩
  have hcharge : u.formCharge = s.formCharge :=
    formCharge_congr hdemand hcfs fun k => .inl (channel_congr hll k)
  have hushare : u.formShare u.formCharge (u.formBudget u.judgeLine u.sourceVoltage) = s.ca.share := by
    rw [hcharge, hin.judgeLine, hin.sourceVoltage, hin.formBudget, hin.formShare, hidle.share]
  have hmin : min u.ca.allowance s.ca.share = a := by rw [hallowance]; omega
  have humode' : u.rsq.mode ≠ .config := by rw [humode]; decide
  obtain ⟨-, -, -, -, hfca, hfll, -⟩ := finishBut_blocks none u s
  rw [blocksEnd_of_joined humode', hreviewed] at hfca hfll
  obtain ⟨-, -, -, -, -, -, hbca, hbll, -⟩ := examineBreak_frame u.caSettle
  have hsettled : u.caSettle.ll = u.ll := by
    rw [caSettle_eq, hushare, hmin]
    refine computed_ll_of_fit a (fun hl k hk => ?_) (by rw [if_pos humode, onSum_congr (by rw [hll]) hcfs]; exact hfit.trans hup)
    rw [channelCfg_congr hcfs]
    rw [isOn_congr (s := s) (by rw [hll])] at hk
    exact hidle.lineFed (by rw [hidle.line, ← hin.judgeLine]; exact hl) k hk
  obtain ⟨d1, d2, d3, d4, d5, d6, -⟩ := caSettle_spec u
  have hend : CurrentEnd u (u.finish s) := currentEnd_finish s humode'
  refine ⟨_, exec_of_body hb, ?_, ?_, ?_, ?_, hend.grant, ?_⟩
  · rw [State.finish, hfca, hbca, d5, hushare]
  · rw [State.finish, hfca, hbca, d4, hin.judgeLine, hin.sourceVoltage, hin.formBudget, hidle.budget]
  · rw [State.finish, hfca, hbca, d6, if_pos humode, d5, hushare, hmin]
    rfl
  · rw [State.finish, hfll, hbll, hsettled, hll]
  · exact currentFrame_finish_rounds (by simp [hu]) hcfs hpt hiou hpins

/-- Settles O54: skips and round ends. -/
theorem roundsTurn : Obligations.RoundsTurn := by
  refine ⟨fun s => ⟨fun hnot => ?_, fun hm hph hi => ?_, fun hm hph hi => ?_⟩, fun s => roundEnd_climbs⟩
  · have hi : s.intervalRuns = false := by
      rw [Bool.eq_false_iff]
      intro h
      simp only [State.intervalRuns, Bool.and_eq_true, beq_iff_eq] at h
      obtain ⟨⟨hd, hl⟩, hr⟩ := h
      rcases hnot with hx | hx | hx
      · exact hx hd
      · rw [hx] at hl
        cases hl
      · exact hx hr
    exact ⟨exec_of_no_body rfl (if_neg (by simp [hi])), exec_of_no_body rfl (if_neg (by simp [hi]))⟩
  · have hb : s.body .skipInterval = some (s.passSlot s.rsq.slotCounter) := if_pos (by rcases hm with hm | hm <;> simp [hm, hph, hi])
    have hrsq := passSlot_rounds s s.rsq.slotCounter
    exact ⟨_, exec_of_body hb, by simp [hrsq], by simp [hrsq], by simp [hrsq], by simp [hrsq], by simp [hrsq], by simp⟩
  · have hb : s.body .roundEnd = some s.roundEnds := if_pos (by simp [hm, hph, hi])
    have hrsq := roundEnds_rsq s
    refine ⟨_, exec_of_body hb, by simp [hrsq], by simp [hrsq], ?_, by simp [hrsq], by simp, by simp [hrsq], fun hl => ?_⟩
    · rw [State.finish, (finishBut_holds none _ s).2.1, roundEnds_hold]
    · simp [hrsq, hl]

end Rounds

end Machine
end Sys2Proof

/-!
PROOFS. Own frames completed, echoes and aborts, and the windows after a break (R38, R39, R44 to R48, R122, R130, R131,
R135, R139, R144 to R147; O55, O56, O59).
-/

namespace Sys2Proof
namespace Machine

section Entries

variable {s t u old : State} {c : Cause} {e : AlarmEntry}

/-! ### Entries at the end of an event that raises nothing (R24 to R26, R34) -/

/-- The clearing of an ACKNOWLEDGED own entry leaves every entry that is not ACKNOWLEDGED, keys being distinct. -/
theorem mem_clearOwn_of_live (hk : ListKept t) (hc : t.ownAcknowledged c = true) (he : e ∈ t.alarms)
    (hs : e.state ≠ .acknowledged) : e ∈ (t.clearOwn c).alarms := by
  obtain ⟨x, hx, hxkey⟩ := List.any_eq_true.1 hc
  rw [Bool.and_eq_true, hasKey_iff, beq_iff_eq] at hxkey
  rw [clearOwn_alarms, mem_removeEntry]
  refine ⟨he, fun hkey => hs ?_⟩
  rw [List.inj_on_of_nodup_map hk.2 he hx (hkey.trans hxkey.1.symm)]
  exact hxkey.2

/-- An entry that is not ACKNOWLEDGED stands at the end of an event that changes no latch and no pole. -/
theorem mem_finish_of_live (hps : u.ps = old.ps) (hlatches : u.iou.latches = old.iou.latches) (hk : ListKept u)
    (he : e ∈ u.alarms) (hs : e.state ≠ .acknowledged) : e ∈ (u.finish old).alarms := by
  refine (finishBut_alarms_keep_of_loss (P := fun t => ListKept t ∧ e ∈ t.alarms) none old (fun t v _ halc _ ht => ?_)
    (fun _ hsup ht => ?_) (fun t c hc ht => ⟨listKept_clearOwn ht.1 c, mem_clearOwn_of_live ht.1 hc ht.2 hs⟩) ⟨hk, he⟩).2
  · simpa only [listKept_congr halc, State.alarms, halc] using ht
  · rw [raiseSensorLoss_of_kept hps hlatches hsup]
    exact ht

/-- No event's end leaves an ANNOUNCED entry that it has not found. -/
theorem not_announced_finish (old : State) (h : ∀ e ∈ u.alarms, e.state ≠ .announced) :
    ∀ e ∈ (u.finish old).alarms, e.state ≠ .announced := by
  refine finishBut_alarms_keep (P := fun t => ∀ e ∈ t.alarms, e.state ≠ .announced) none old (fun t v _ halc _ ht => ?_)
    (fun t d ht e he => ?_) (fun t c _ ht e he => ht e (mem_clearOwn he)) h
  · simpa only [State.alarms, halc] using ht
  · rcases mem_raiseOwn d he with he | ⟨-, hstate⟩
    · exact ht e he
    · rw [hstate]
      decide

/-- An event's end adds notices at the tail of the queue alone. -/
theorem queue_finish (u old : State) : ∃ more, (u.finish old).rsq.queue = u.rsq.queue ++ more := by
  refine finishBut_alarms_keep (P := fun t => ∃ more, t.rsq.queue = u.rsq.queue ++ more) none old (fun t v hrsq _ _ ht => ?_)
    (fun t d ht => ?_) (fun t c _ ht => ?_) ⟨[], (List.append_nil _).symm⟩
  · rw [hrsq]
    exact ht
  · simpa using ht
  · obtain ⟨more, hmore⟩ := ht
    have hbefore : (t.withAlarms (removeEntry (.station t.own) c t.alarms)).rsq.queue = u.rsq.queue ++ more := hmore
    unfold State.clearOwn State.placeInternal
    split
    · exact ⟨more, hbefore⟩
    · split
      · exact ⟨more ++ [.clear c], by rw [← List.append_assoc, ← hbefore]; rfl⟩
      · exact ⟨more, hbefore⟩

end Entries

section OwnFrames

variable {s u : State}

/-! ### Own frames completed (R45, R122, R130, R144, R146) -/

theorem frameDone_rsq (s : State) : s.frameDone.rsq = s.rsq := by
  unfold State.frameDone
  rw [lineTo_rsq]
  rfl

theorem frameDone_li (s : State) :
    s.frameDone.li.driver = .released ∧ s.frameDone.li.ownFrame = none ∧ s.frameDone.li.txErrors = s.li.txErrors - 1 := by
  simp [State.frameDone]

/-- What the end of an own frame leaves of the driver, the event ended. -/
theorem sent_line (h : u.li = s.frameDone.li) :
    (u.finish s).li.driver ≠ .frame ∧ (u.finish s).li.ownFrame = none ∧ (u.finish s).li.txErrors = s.li.txErrors - 1 := by
  obtain ⟨hdriver, hframe, htx⟩ := frameDone_li s
  refine ⟨?_, ?_, by simp [h, htx]⟩
  · rcases finish_line u s with ⟨hli, -⟩ | ⟨-, -, -, -, -, -, hli, -⟩
    · rw [hli, h, hdriver]
      decide
    · rw [hli, assertBreak_li]
      simp
  · rcases finish_line u s with ⟨hli, -⟩ | ⟨-, -, -, -, -, -, hli, -⟩
    · rw [hli, h, hframe]
    · rw [hli, assertBreak_li]

theorem ownStatusComplete_ends (h : s.sending = some .status) :
    ∃ t, exec .ownStatusComplete s = .next t ∧ t.rsq.lastOwnSlot = .status ∧
      t.rsq.statusSequence = (s.rsq.statusSequence + 1) % 256 ∧ t.rsq.statusSent = true ∧
      t.rsq.slotCounter = min (s.own.val + 1) s.roundLength ∧
      t.rsq.phase = (if s.own.val + 1 < s.roundLength then .slot else .roundEnd) ∧
      t.rsq.resyncCount = s.rsq.resyncCount ∧ t.li.driver ≠ .frame ∧ t.li.ownFrame = none ∧
      t.li.txErrors = s.li.txErrors - 1 ∧ t.pt = s.pt := by
  have hb : s.body .ownStatusComplete = some s.ownStatusSent := if_pos h
  have hrsq : s.ownStatusSent.rsq =
      { (s.frameDone.passSlot s.own.val).rsq with
        lastOwnSlot := .status, statusSequence := (s.rsq.statusSequence + 1) % 256, statusSent := true } := rfl
  rw [passSlot_rounds, frameDone_rsq, roundLength_congr (s := s) (by simp)] at hrsq
  obtain ⟨h1, h2, h3⟩ := sent_line (s := s) (u := s.ownStatusSent) (by simp [State.ownStatusSent])
  exact ⟨_, exec_of_body hb, by simp [hrsq], by simp [hrsq], by simp [hrsq], by simp [hrsq], by simp [hrsq], by simp [hrsq],
    h1, h2, h3, by simp [State.ownStatusSent]⟩

/-- The state in which a completed NOTICE is applied. -/
def State.noticeDone (s : State) : State :=
  (s.frameDone.retireHead.withRsq { s.frameDone.retireHead.rsq with lastOwnSlot := .notice }).passSlot s.own.val

theorem noticeDone_rsq (s : State) :
    s.noticeDone.rsq =
      { s.rsq with
        queue := s.rsq.queue.tail ++ s.rsq.holding.toList, holding := none, lastOwnSlot := .notice
        slotCounter := min (s.own.val + 1) s.roundLength
        phase := if s.own.val + 1 < s.roundLength then .slot else .roundEnd } := by
  unfold State.noticeDone
  rw [passSlot_rounds, roundLength_congr (s := s) (by simp), withRsq_rsq]
  simp only [State.retireHead, withRsq_rsq, frameDone_rsq]

theorem ownNoticeSent_eq {n : Notice} {rest : List Notice} (h : s.rsq.queue = n :: rest) :
    s.ownNoticeSent = s.noticeDone.applyNotice s.own n := by
  unfold State.ownNoticeSent
  rw [h]
  rfl

theorem ackAll_not_announced (s : State) : ∀ e ∈ s.ackAll.alarms, e.state ≠ .announced := by
  intro e he
  obtain ⟨e', -, rfl⟩ := List.mem_map.1 (show e ∈ s.alarms.map AlarmEntry.acknowledge from he)
  unfold AlarmEntry.acknowledge
  split
  · simp
  · assumption

theorem ownNoticeComplete_ends {n : Notice} {rest : List Notice} (h : s.sending = some .notice) (hq : s.rsq.queue = n :: rest) :
    ∃ t, exec .ownNoticeComplete s = .next t ∧ t.rsq.lastOwnSlot = .notice ∧
      (∃ more, t.rsq.queue = rest ++ s.rsq.holding.toList ++ more) ∧
      t.rsq.statusSequence = s.rsq.statusSequence ∧
      t.rsq.slotCounter = min (s.own.val + 1) s.roundLength ∧ t.li.driver ≠ .frame ∧ t.li.ownFrame = none ∧
      t.li.txErrors = s.li.txErrors - 1 ∧ t.pt = s.pt ∧
      (n = .ackAll → ∀ e ∈ t.alarms, e.state ≠ .announced) ∧
      (∀ action ps, n = .command action ps → s.rsq.mode ≠ .config → s.role = .pole → Commanded action ps s t) := by
  have hb : s.body .ownNoticeComplete = some s.ownNoticeSent := if_pos h
  rw [ownNoticeSent_eq hq] at hb
  set v := s.noticeDone with hv
  have hvrsq := noticeDone_rsq s
  rw [← hv] at hvrsq
  set u := v.applyNotice s.own n with hu
  have hursq : u.rsq = v.rsq := by simp [hu]
  have hvframe : v.li = s.frameDone.li ∧ v.pt = s.pt ∧ v.cfs = s.cfs ∧ v.ps = s.ps ∧ v.alc = s.alc ∧ v.iou = s.iou := by
    simp [hv, State.noticeDone]
  obtain ⟨hvli, hvpt, hvcfs, hvps, hvalc, hviou⟩ := hvframe
  obtain ⟨h1, h2, h3⟩ := sent_line (s := s) (u := u) (by simp [hu, hvli])
  refine ⟨_, exec_of_body hb, by simp [hursq, hvrsq], ?_, by simp [hursq, hvrsq], by simp [hursq, hvrsq], h1, h2, h3,
    by simp [hu, hvpt], fun hn => ?_, fun action ps hn hm hp => ?_⟩
  · obtain ⟨more, hmore⟩ := queue_finish u s
    refine ⟨more, hmore.trans ?_⟩
    rw [hursq, hvrsq, hq]
    rfl
  · refine not_announced_finish s ?_
    rw [hu, hn]
    exact ackAll_not_announced v
  · have happly : u = v.commandPoles action ps := by rw [hu, hn]; rfl
    have hmoved := polesMoved_commandPoles action ps v
    have hcommanded : Commanded action ps v ((v.commandPoles action ps).finish s) :=
      commanded_finish action ps (by rw [hvrsq]; exact hm) ((role_congr hvcfs).trans hp)
        (abandons_of_kept (by rw [hmoved.rsq, hvrsq]) (newStop_of_alc (hmoved.alc.trans hvalc)))
    rw [happly]
    exact hcommanded.congr hvcfs.symm (by rw [hvrsq]) hvps.symm hvalc.symm hviou.symm rfl

/-- A PENDING own entry that a claim names is ANNOUNCED when the claim completes, and any other stands. -/
theorem mem_announce (s : State) (m : Byte) {e : AlarmEntry} (he : e ∈ s.alarms) (hsrc : e.source = .station s.own)
    (hstate : e.state = .pending) :
    if inCauseSet m e.cause = true then { e with state := .announced } ∈ (s.announce m).alarms else e ∈ (s.announce m).alarms := by
  split
  next hc =>
    refine List.mem_map.2 ⟨e, he, ?_⟩
    rw [if_pos]
    simp [hsrc, hstate, hc]
  next hc =>
    refine List.mem_map.2 ⟨e, he, ?_⟩
    rw [if_neg]
    simp [hc]

theorem claimHeard_spec (s : State) :
    s.claimHeard.alarms = s.alarms ∧ s.claimHeard.alc.windowClaimed = (decide (s.rsq.phase = .window) || s.alc.windowClaimed) ∧
      s.claimHeard.li = s.li ∧ s.claimHeard.rsq = s.rsq ∧ s.claimHeard.ps = s.ps ∧ s.claimHeard.iou = s.iou ∧
      s.claimHeard.pt = s.pt := by
  unfold State.claimHeard
  split
  next h => exact ⟨rfl, by simp [h], rfl, rfl, rfl, rfl, rfl⟩
  next h => exact ⟨rfl, by simp [h], rfl, rfl, rfl, rfl, rfl⟩

theorem ownAlarmComplete_ends {f : OwnFrame} (h : s.sending = some .alarm) (hf : s.li.ownFrame = some f) (hk : ListKept s) :
    ∃ t, exec .ownAlarmComplete s = .next t ∧ t.rsq.lastOwnSlot = s.rsq.lastOwnSlot ∧
      t.rsq.slotCounter = s.rsq.slotCounter ∧ t.rsq.phase = s.rsq.phase ∧ t.li.driver ≠ .frame ∧
      t.li.ownFrame = none ∧ t.li.txErrors = s.li.txErrors - 1 ∧ t.pt = s.pt ∧
      t.alc.windowClaimed = (decide (s.rsq.phase = .window) || s.alc.windowClaimed) ∧
      ∀ e ∈ s.alarms, e.source = .station s.own → e.state = .pending →
        if inCauseSet (f.chars.getD 2 0) e.cause = true then { e with state := .announced } ∈ t.alarms
        else e ∈ t.alarms := by
  have hb : s.body .ownAlarmComplete = some (s.frameDone.announce (f.chars.getD 2 0)).claimHeard := by
    have hsent : s.ownAlarmSent = (s.frameDone.announce (f.chars.getD 2 0)).claimHeard := by
      unfold State.ownAlarmSent
      rw [hf]
    rw [← hsent]
    exact if_pos h
  set w := s.frameDone.announce (f.chars.getD 2 0) with hw
  obtain ⟨calarms, cclaimed, cli, crsq, cps, ciou, cpt⟩ := claimHeard_spec w
  set u := w.claimHeard
  have hwrsq : w.rsq = s.rsq := by rw [← frameDone_rsq s]; simp [hw]
  have hframe : w.li = s.frameDone.li ∧ w.ps = s.ps ∧ w.iou = s.iou ∧ w.pt = s.pt ∧
      w.alc.windowClaimed = s.alc.windowClaimed := by
    refine ⟨by simp [hw], by simp [hw], by simp [hw], by simp [hw], ?_⟩
    have hsame : w.alc.windowClaimed = s.frameDone.alc.windowClaimed := rfl
    rw [hsame]
    simp
  obtain ⟨hwli, hwps, hwiou, hwpt, hwclaimed⟩ := hframe
  obtain ⟨h1, h2, h3⟩ := sent_line (s := s) (u := u) (cli.trans hwli)
  refine ⟨_, exec_of_body hb, by simp [crsq, hwrsq], by simp [crsq, hwrsq], by simp [crsq, hwrsq], h1, h2, h3,
    by simp [cpt, hwpt], ?_, fun e he hsrc hstate => ?_⟩
  · rw [State.finish, (finishBut_holds none u s).2.2, cclaimed, hwrsq, hwclaimed]
  · have hdone : s.frameDone.alarms = s.alarms := by simp [State.alarms]
    have hown : s.frameDone.own = s.own := own_congr (by simp)
    have hmem := mem_announce s.frameDone (f.chars.getD 2 0) (e := e) (by rw [hdone]; exact he) (by rw [hown]; exact hsrc) hstate
    rw [← hw, ← calarms] at hmem
    have hkept : ListKept u := by
      unfold ListKept
      rw [calarms]
      exact listKept_announce ((listKept_congr (t := s.frameDone) (s := s) (by simp)).2 hk) _
    have stays (x : AlarmEntry) (hx : x ∈ u.alarms) (hlive : x.state ≠ .acknowledged) : x ∈ (u.finish s).alarms :=
      mem_finish_of_live (cps.trans hwps) (by rw [ciou, hwiou]) hkept hx hlive
    split
    next hc =>
      rw [if_pos hc] at hmem
      exact stays _ hmem (by simp)
    next hc =>
      rw [if_neg hc] at hmem
      exact stays _ hmem (by rw [hstate]; decide)

/-- Settles O55: the completion of an own STATUS, NOTICE or ALARM. -/
theorem ownFramesComplete : Obligations.OwnFramesComplete := fun _ =>
  ⟨ownStatusComplete_ends, fun _ _ => ownNoticeComplete_ends, fun _ => ownAlarmComplete_ends⟩

end OwnFrames

section Echoes

variable {s t u : State}

/-! ### A character read back (R138, R139, R144, R145) -/

/-- R138: the dominant run after the first `n` bits of a character. -/
def dominantWithin (c : BitVec 10) (n : Nat) : Nat :=
  (List.range n).foldl (fun run i => if c.getLsbD i then 0 else run + 1) 0

theorem dominantWithin_succ (c : BitVec 10) (n : Nat) :
    dominantWithin c (n + 1) = if c.getLsbD n then 0 else dominantWithin c n + 1 := by
  unfold dominantWithin
  rw [List.range_succ, List.foldl_append]
  rfl

theorem dominantWithin_le (c : BitVec 10) (n : Nat) : dominantWithin c n ≤ n := by
  induction n with
  | zero => exact le_rfl
  | succ n ih =>
    rw [dominantWithin_succ]
    split <;> omega

/-- `k` dominant bits after `m` others add to the run. -/
theorem dominantWithin_add (c : BitVec 10) (m k : Nat) (h : ∀ j, m ≤ j → j < m + k → c.getLsbD j = false) :
    dominantWithin c (m + k) = dominantWithin c m + k := by
  induction k with
  | zero => rfl
  | succ k ih =>
    rw [← Nat.add_assoc, dominantWithin_succ, h (m + k) (by omega) (by omega), ih fun j hj hk => h j hj (by omega)]
    simp [Nat.add_assoc]

/-- The dominant run after a character is the number of dominant bits at its end. -/
theorem dominantAfter_eq (c : BitVec 10) (k : Fin 11) (h : ∀ j : Fin 10, 10 ≤ j.val + k.val → c.getLsbD j.val = false)
    (hone : k.val < 10 → c.getLsbD (9 - k.val) = true) : dominantAfter c = k.val := by
  have hadd := dominantWithin_add c (10 - k.val) k.val fun j hj hk => h ⟨j, by omega⟩ (by simp only; omega)
  have hlen : 10 - k.val + k.val = 10 := by omega
  rw [hlen] at hadd
  refine hadd.trans ?_
  by_cases hk : k.val < 10
  · have hm : 10 - k.val = (9 - k.val) + 1 := by omega
    rw [hm, dominantWithin_succ, hone hk]
    simp
  · have hm : 10 - k.val = 0 := by omega
    rw [hm]
    exact Nat.zero_add _

theorem dominantAfter_le (c : BitVec 10) : dominantAfter c ≤ 10 := dominantWithin_le c 10

theorem dominantAfter_eq_zero_iff (c : BitVec 10) : dominantAfter c = 0 ↔ c.getLsbD 9 = true := by
  have h : dominantAfter c = if c.getLsbD 9 then 0 else dominantWithin c 9 + 1 := dominantWithin_succ c 9
  rw [h]
  split
  next hbit => exact ⟨fun _ => hbit, fun _ => rfl⟩
  next hbit => exact ⟨fun h => absurd h (Nat.succ_ne_zero _), fun h => absurd h hbit⟩

/-- R139, R145: a character agrees bit by bit: start bit, data bits and stop bit. -/
theorem charBits_eq_iff (c : Byte) (r : BitVec 10) :
    charBits c = r ↔
      r.getLsbD 0 = false ∧ (∀ k : Fin 8, r.getLsbD (k.val + 1) = c.getLsbD k.val) ∧ r.getLsbD 9 = true := by
  have hbit (j : Nat) : (charBits c).getLsbD j =
      if j = 0 then false else if j ≤ 8 then c.getLsbD (j - 1) else decide (j = 9) := by
    simp only [charBits, BitVec.getLsbD_append]
    by_cases h0 : j = 0
    · simp [h0]
    · by_cases h8 : j ≤ 8
      · have hlt : j - 1 < 8 := by omega
        simp [h0, h8, hlt]
      · have hlt : ¬j - 1 < 8 := by omega
        have hone : decide (j - 1 - 8 = 0) = decide (j = 9) := by
          rw [decide_eq_decide]
          omega
        simp [h0, h8, hlt, BitVec.getLsbD_one, hone]
  constructor
  · rintro rfl
    refine ⟨by rw [hbit]; rfl, fun k => ?_, by rw [hbit]; rfl⟩
    rw [hbit, if_neg (by omega), if_pos (by omega), Nat.add_sub_cancel]
  · rintro ⟨h0, hdata, h9⟩
    refine BitVec.eq_of_getLsbD_eq fun j hj => ?_
    rw [hbit]
    split
    next hj0 => rw [hj0, h0]
    next hj0 =>
      split
      next hj8 =>
        have := hdata ⟨j - 1, by omega⟩
        rw [Nat.sub_add_cancel (by omega)] at this
        exact this.symm
      next hj8 =>
        have : j = 9 := by omega
        rw [this, h9]
        rfl

theorem lineTo_dominantRun (s : State) : (s.lineTo .dominant).li.dominantRun = s.li.dominantRun ∧
    (s.lineTo .recessive).li.dominantRun = 0 := by
  refine ⟨?_, rfl⟩
  unfold State.lineTo
  dsimp only
  split <;> rfl

/-- R138: the line as a run that goes on leaves it, where no break holds it. -/
theorem dominantSeen_unheld (n : Nat) (hheld : s.lineHeld = false) :
    s.dominantSeen n =
      if n = 0 then s.lineTo .recessive else (s.withLi { s.li with dominantRun := min n 19 }).lineTo .dominant := by
  have hfree := hheld
  simp only [State.lineHeld, Bool.or_eq_false_iff, decide_eq_false_iff_not, not_le] at hfree
  obtain ⟨⟨hrun, hstuck⟩, -⟩ := hfree
  unfold State.dominantSeen
  rw [if_neg (not_le.2 hrun), hstuck, hheld]
  rfl

/-- R138: the line as a run of at most 10 dominant bits at its end leaves it, where no break holds it. -/
theorem dominantSeen_of_free {n : Nat} (hn : n ≤ 10) (hheld : s.lineHeld = false) :
    s.dominantSeen n = if n = 0 then s.lineTo .recessive else (s.withLi { s.li with dominantRun := n }).lineTo .dominant := by
  rw [dominantSeen_unheld n hheld, min_eq_left (hn.trans (by decide))]

theorem dominantSeen_free {n : Nat} (hn : n ≤ 10) (hheld : s.lineHeld = false) :
    (s.dominantSeen n).li.dominantRun = n ∧
      (s.dominantSeen n).pins.line = if n = 0 then .recessive else .dominant := by
  rw [dominantSeen_of_free hn hheld]
  split
  next h0 => exact ⟨(lineTo_dominantRun s).2.trans h0.symm, by simp⟩
  next h0 => exact ⟨(lineTo_dominantRun _).1, by simp⟩

/-- The Line Interface once the character read back has been compared, before the line is shown. -/
def State.comparedLi (f : OwnFrame) (i : Nat) (c : Byte) (r : BitVec 10) (s : State) : LineInterface :=
  if charBits c = r then { s.li with ownFrame := some { f with sent := i + 1 } }
  else { s.li.taking .discard [] with driver := .released, ownFrame := none, abortPending := true }

theorem compareEcho_eq {f : OwnFrame} {i : Nat} {c : Byte} (r : BitVec 10) (hf : s.li.ownFrame = some f) (hc : f.chars[i]? = some c) :
    s.compareEcho i r = (s.withLi (s.comparedLi f i c r)).dominantSeen (dominantAfter r) := by
  unfold State.compareEcho
  rw [hf]
  dsimp only
  rw [hc]
  rfl

theorem comparedLi_free {f : OwnFrame} {i : Nat} {c : Byte} (r : BitVec 10) (hd : s.li.driver = .frame) (hheld : s.lineHeld = false) :
    (s.withLi (s.comparedLi f i c r)).lineHeld = false ∧ (s.comparedLi f i c r).txErrors = s.li.txErrors := by
  have hfree := hheld
  simp only [State.lineHeld, Bool.or_eq_false_iff] at hfree
  obtain ⟨hrun, -⟩ := hfree
  unfold State.comparedLi
  split
  · refine ⟨?_, rfl⟩
    simpa [State.lineHeld, hd] using hrun
  · refine ⟨?_, rfl⟩
    simpa [State.lineHeld, LineInterface.taking] using hrun

theorem echo_ends {f : OwnFrame} {i : Nat} {c : Byte} {r : BitVec 10} (hd : s.li.driver = .frame) (hf : s.li.ownFrame = some f)
    (hc : f.chars[i]? = some c) (hheld : s.lineHeld = false) :
    ∃ t, exec (.echoMismatch i r) s = .next t ∧ t.li.txErrors = s.li.txErrors ∧ t.pt = s.pt ∧
      t.rsq.slotCounter = s.rsq.slotCounter ∧ t.rsq.phase = s.rsq.phase ∧ t.rsq.lastOwnSlot = s.rsq.lastOwnSlot ∧
      t.rsq.statusSequence = s.rsq.statusSequence ∧
      (∀ k : Fin 11, (∀ j : Fin 10, 10 ≤ j.val + k.val → r.getLsbD j.val = false) →
        (k.val < 10 → r.getLsbD (9 - k.val) = true) →
        t.li.dominantRun = k.val) ∧
      (if r.getLsbD 0 = false ∧ (∀ k : Fin 8, r.getLsbD (k.val + 1) = c.getLsbD k.val) ∧
          r.getLsbD 9 = true then
        if s.rsq.mode = .run ∧ s.ownPending = true ∧ s.rsq.phase ≠ .window ∧ s.li.abortPending = false then
          ListKept s → t.li.driver = .brk ∧ t.li.ownFrame = none ∧ t.pins.line = .dominant
        else
          t.li.driver = .frame ∧ t.li.ownFrame = some { f with sent := i + 1 } ∧
            t.li.abortPending = s.li.abortPending ∧ t.pins.line = .recessive
      else
        t.li.driver = .released ∧ t.li.ownFrame = none ∧ t.li.abortPending = true ∧ t.li.receiver = .discard ∧
          t.pins.line = if r.getLsbD 9 = true then .recessive else .dominant) := by
  have hb : s.body (.echoMismatch i r) = some (s.compareEcho i r) := if_pos hd
  set x := s.comparedLi f i c r with hx
  set n := dominantAfter r with hn
  obtain ⟨hxheld, hxtx⟩ := comparedLi_free (f := f) (i := i) (c := c) r hd hheld
  rw [← hx] at hxheld hxtx
  obtain ⟨hrun, hline⟩ := dominantSeen_free (dominantAfter_le r) hxheld
  rw [← hn] at hrun hline
  have heq := compareEcho_eq r hf hc
  rw [← hx, ← hn] at heq
  set u := s.compareEcho i r
  rw [← heq] at hrun hline
  have hfields : u.li.driver = x.driver ∧ u.li.receiver = x.receiver ∧ u.li.ownFrame = x.ownFrame ∧
      u.li.abortPending = x.abortPending ∧ u.li.txErrors = x.txErrors := by
    rw [heq]
    simp
  obtain ⟨udriver, ureceiver, uframe, uabort, utx⟩ := hfields
  have hrounds : u.rsq.mode = s.rsq.mode ∧ u.rsq.slotCounter = s.rsq.slotCounter ∧ u.rsq.phase = s.rsq.phase ∧
      u.rsq.lastOwnSlot = s.rsq.lastOwnSlot ∧ u.rsq.statusSequence = s.rsq.statusSequence := by
    rw [heq]
    simp
  obtain ⟨umode, uslot, uphase, ulast, useq⟩ := hrounds
  have hframe : u.pt = s.pt ∧ u.ps = s.ps ∧ u.alc = s.alc ∧ u.cfs = s.cfs ∧ u.iou = s.iou := by
    rw [heq]
    simp
  obtain ⟨upt, ups, ualc, ucfs, uiou⟩ := hframe
  refine ⟨_, exec_of_body hb, by simp [utx, hxtx], by simp [upt], by simp [uslot], by simp [uphase], by simp [ulast],
    by simp [useq], fun k hk hone => ?_, ?_⟩
  · have hk' := dominantAfter_eq r k hk hone
    simp [hrun, hn, hk']
  · by_cases hagree : charBits c = r
    · rw [if_pos ((charBits_eq_iff c r).1 hagree)]
      have hx' : x = { s.li with ownFrame := some { f with sent := i + 1 } } := if_pos hagree
      have hlast : n = 0 := (dominantAfter_eq_zero_iff r).2 ((charBits_eq_iff c r).1 hagree).2.2
      rw [if_pos hlast] at hline
      have hdriver : u.li.driver = .frame := by rw [udriver, hx']; exact hd
      have habort : u.li.abortPending = s.li.abortPending := by rw [uabort, hx']
      split
      next hwanted =>
        obtain ⟨hm, hp, hw, ha⟩ := hwanted
        intro hk
        obtain ⟨hli, hpins⟩ := finishBut_break none s (by rw [umode]; exact hm) (by rw [uphase]; exact hw) hline
          (by rw [hdriver]; decide) (by rw [habort]; exact ha) ((listKept_congr ualc).2 hk) ((ownPending_congr ualc ucfs).trans hp)
        rw [State.finish, hli, hpins]
        exact ⟨rfl, rfl, rfl⟩
      next hwanted =>
        have hkept : (u.finish s).li = u.li ∧ (u.finish s).pins = u.pins := by
          by_cases hp : s.ownPending = true
          · refine finish_line_of_not s ?_
            by_cases hm : s.rsq.mode = .run
            · by_cases hw : s.rsq.phase = .window
              · exact .inr (.inr (.inl (by rw [uphase]; exact hw)))
              · refine .inr (.inr (.inr (.inr ?_)))
                rw [habort, ← Bool.not_eq_false]
                exact fun ha => hwanted ⟨hm, hp, hw, ha⟩
            · exact .inl (by rw [umode]; exact hm)
          · exact finish_line_of_not_pending ups (by rw [uiou]) ((ownPending_congr ualc ucfs).trans (by simpa using hp))
        rw [hkept.1, hkept.2]
        exact ⟨hdriver, by rw [uframe, hx'], habort, hline⟩
    · rw [if_neg fun h => hagree ((charBits_eq_iff c r).2 h)]
      have hx' : x = { s.li.taking .discard [] with driver := .released, ownFrame := none, abortPending := true } :=
        if_neg hagree
      obtain ⟨hli, hpins⟩ := finish_line_of_not (u := u) s (.inr (.inr (.inr (.inr (by rw [uabort, hx'])))))
      rw [hli, hpins]
      refine ⟨by rw [udriver, hx'], by rw [uframe, hx'], by rw [uabort, hx'], by rw [ureceiver, hx']; rfl, ?_⟩
      rw [hline]
      exact ite_congr (propext (dominantAfter_eq_zero_iff r)) (fun _ => rfl) (fun _ => rfl)

/-! ### An abort judged an error (R135, R146) -/

theorem judgeAbort_ends (ha : s.li.abortPending = true) (hh : s.hears = true) :
    ∃ t, exec .abortJudgedError s = .next t ∧ t.li.abortPending = false ∧
      t.li.txErrors = min 8 (s.li.txErrors + 1) ∧ t.sl.summary.lineErrors = true ∧ t.pt = s.pt ∧
      t.rsq.lastOwnSlot = s.rsq.lastOwnSlot ∧ t.rsq.statusSequence = s.rsq.statusSequence ∧
      (if 7 ≤ s.li.txErrors ∧ s.rsq.mode = .run then
        t.rsq.mode = .mute ∧ t.rsq.muteCause = .txErrors ∧ t.rsq.muteTimer = some 0 ∧ t.ca.allowance = 0 ∧
          t.li.driver = .released
      else t.rsq.mode = s.rsq.mode ∧ t.rsq.muteCause = s.rsq.muteCause) := by
  have hb : s.body .abortJudgedError = some s.judgeAbort := if_pos (by simp [ha, hh])
  set v := ((s.withLi { s.li with abortPending := false, txErrors := satInc Figures.txErrorLimit s.li.txErrors }).lineTo
    .recessive).setTopics { lineErrors := true } with hv
  have hjudged : s.judgeAbort = if 7 ≤ s.li.txErrors ∧ s.rsq.mode = .run then v.muteTxErrors else v := by
    have hcond : (satInc Figures.txErrorLimit s.li.txErrors = Figures.txErrorLimit && s.rsq.mode == .run) = true ↔
        7 ≤ s.li.txErrors ∧ s.rsq.mode = .run := by
      rw [Bool.and_eq_true, beq_iff_eq, decide_eq_true_iff]
      refine and_congr ?_ Iff.rfl
      simp only [satInc, Figures.txErrorLimit]
      omega
    exact ite_congr (propext hcond) (fun _ => rfl) (fun _ => rfl)
  have hdriver : s.li.driver = .released := by
    simp only [State.hears, Bool.and_eq_true, beq_iff_eq] at hh
    obtain ⟨⟨⟨-, hd⟩, -⟩, -⟩ := hh
    exact hd
  have hvli : v.li.abortPending = false ∧ v.li.txErrors = min 8 (s.li.txErrors + 1) ∧ v.li.driver = .released := by
    simp [hv, hdriver, satInc, Figures.txErrorLimit]
  have hvrsq : v.rsq = s.rsq := by
    simp [hv]
  have hvtopic : v.sl.summary.lineErrors = true := Bool.or_true _
  have hvpt : v.pt = s.pt := by simp [hv]
  set u := s.judgeAbort
  have huli : u.li = v.li ∧ u.pt = v.pt ∧ u.sl = v.sl := by
    rw [hjudged]
    split
    · simp [State.muteTxErrors]
    · exact ⟨rfl, rfl, rfl⟩
  obtain ⟨hli, hpt, hsl⟩ := huli
  have hkept : u.rsq.lastOwnSlot = s.rsq.lastOwnSlot ∧ u.rsq.statusSequence = s.rsq.statusSequence := by
    rw [hjudged, ← hvrsq]
    split <;> exact ⟨rfl, rfl⟩
  refine ⟨_, exec_of_body hb, by simp [hli, hvli], by simp [hli, hvli], ?_, by simp [hpt, hvpt], by simp [hkept.1], by simp [hkept.2], ?_⟩
  · rw [finish_summary, hsl]
    exact Bool.or_eq_true_iff.2 (.inl hvtopic)
  · split
    next hmutes =>
      rw [if_pos hmutes] at hjudged
      have hmode : u.rsq.mode = .mute := by rw [hjudged]; rfl
      have hend : CurrentEnd u (u.finish s) := currentEnd_finish s (by rw [hmode]; decide)
      refine ⟨by simp [hmode], by simp [hjudged, State.muteTxErrors], ?_, ?_, ?_⟩
      · simp [hjudged, State.muteTxErrors, Timer.started]
      · rw [hend.allowance, hmode, if_neg (by decide)]
      · rw [(finish_line_of_not s (.inl (by rw [hmode]; decide))).1, hli]
        exact hvli.2.2
    next hmutes =>
      rw [if_neg hmutes] at hjudged
      rw [hjudged]
      simp [hvrsq]

/-- Settles O56: a character read back, and an abort judged an error. -/
theorem echoesJudged : Obligations.EchoesJudged := fun _ =>
  ⟨fun _ _ _ _ => echo_ends, judgeAbort_ends⟩

end Echoes

section Claims

variable {s u : State}

/-! ### Windows and claims (R45, R131, R147, R150) -/

theorem claim_congr {t : State} (halc : t.alc = s.alc) (hcfs : t.cfs = s.cfs) : t.claim = s.claim := by
  simp only [State.claim, State.alarms, halc, own_congr hcfs]

/-- R45: the start of a claim position. -/
theorem presentClaim_spec (s : State) (p : Fin 16) :
    (s.presentClaim p).rsq = { s.rsq with windowPosition := some p } ∧ (s.presentClaim p).pt = s.pt ∧
      (s.presentClaim p).alc = s.alc ∧
      (s.presentClaim p).li =
        if p = s.own ∧ s.rsq.mode = .run ∧ s.ownPending = true ∧ s.li.driver = .released ∧ s.pins.line = .recessive ∧
            s.li.abortPending = false then
          { s.li with driver := .frame, ownFrame := some ⟨.alarm, frameChars s.own (.alarm s.claim), 0⟩ }
        else s.li := by
  unfold State.presentClaim
  dsimp only
  have hcond : (p = s.own && s.rsq.mode == .run && s.ownPending && s.li.driver == .released && s.pins.line == .recessive &&
      !s.li.abortPending) = true ↔
      p = s.own ∧ s.rsq.mode = .run ∧ s.ownPending = true ∧ s.li.driver = .released ∧ s.pins.line = .recessive ∧
        s.li.abortPending = false := by
    simp [and_assoc]
  by_cases h : (p = s.own && s.rsq.mode == .run && s.ownPending && s.li.driver == .released && s.pins.line == .recessive &&
      !s.li.abortPending) = true
  · rw [if_pos h, if_pos (hcond.1 h)]
    exact ⟨rfl, rfl, rfl, rfl⟩
  · rw [if_neg h, if_neg (mt hcond.2 h)]
    exact ⟨rfl, rfl, rfl, rfl⟩

/-- R147, R150: the line as the end of a break leaves it. -/
def State.breakOver (s : State) : State :=
  (s.withLi { s.li with stuck := false, driver := if s.li.driver = .brk then .released else s.li.driver }).lineTo .recessive

theorem breakOver_spec (s : State) :
    s.breakOver.rsq = s.rsq ∧ s.breakOver.pt = s.pt ∧ s.breakOver.alc = s.alc ∧ s.breakOver.cfs = s.cfs ∧
      s.breakOver.pins.line = .recessive ∧ s.breakOver.li.stuck = false ∧ s.breakOver.li.dominantRun = 0 ∧
      s.breakOver.li.restarted = false ∧ s.breakOver.li.driver = (if s.li.driver = .brk then .released else s.li.driver) ∧
      s.breakOver.li.ownFrame = s.li.ownFrame ∧ s.breakOver.li.abortPending = s.li.abortPending :=
  ⟨rfl, rfl, rfl, rfl, rfl, rfl, rfl, rfl, rfl, rfl, rfl⟩

/-- The window that begins as a break ends, its position 0 with it. -/
theorem endBreak_joined (hm : s.rsq.mode ≠ .config) :
    let u := s.endBreak
    u.rsq = { s.rsq with phase := .window, idleCount := none, windowPosition := some 0 } ∧ u.pt = s.pt ∧
      u.alc.windowClaimed = false ∧
      u.li =
        if s.own = 0 ∧ s.rsq.mode = .run ∧ s.ownPending = true ∧ s.li.driver ≠ .frame ∧ s.li.abortPending = false then
          { s.breakOver.li with driver := .frame, ownFrame := some ⟨.alarm, frameChars s.own (.alarm s.claim), 0⟩ }
        else s.breakOver.li := by
  obtain ⟨brsq, bpt, balc, bcfs, bline, -, -, -, bdriver, -, babort⟩ := breakOver_spec s
  set b := s.breakOver with hb
  set w := (b.withRsq { b.rsq with phase := .window, idleCount := none }).withAlc { b.alc with windowClaimed := false } with hw
  have hu : s.endBreak = w.presentClaim 0 := if_neg hm
  obtain ⟨prsq, ppt, palc, pli⟩ := presentClaim_spec w 0
  have hown : w.own = s.own := rfl
  have hpending : w.ownPending = s.ownPending := rfl
  have hclaim : w.claim = s.claim := rfl
  have hcond : ((0 : Fin 16) = w.own ∧ w.rsq.mode = .run ∧ w.ownPending = true ∧ w.li.driver = .released ∧
      w.pins.line = .recessive ∧ w.li.abortPending = false) ↔
      (s.own = 0 ∧ s.rsq.mode = .run ∧ s.ownPending = true ∧ s.li.driver ≠ .frame ∧ s.li.abortPending = false) := by
    have hwdriver : w.li.driver = .released ↔ s.li.driver ≠ .frame := by
      have : w.li.driver = b.li.driver := rfl
      rw [this, bdriver]
      cases s.li.driver <;> simp
    have hwline : w.pins.line = .recessive := bline
    have hwabort : w.li.abortPending = s.li.abortPending := babort
    have hwmode : w.rsq.mode = s.rsq.mode := rfl
    rw [hown, hpending, hwdriver, hwabort, hwmode]
    simp only [hwline, true_and]
    rw [eq_comm]
  dsimp only
  rw [hu, prsq, ppt, palc, pli]
  refine ⟨rfl, rfl, rfl, ?_⟩
  rw [hown, hclaim]
  exact ite_congr (propext hcond) (fun _ => rfl) (fun _ => rfl)

/-- R45: a claim names exactly the line causes of the PENDING own entries. -/
theorem inCauseSet_causeSet (f : Cause → Bool) (c : Cause) : inCauseSet (causeSet f) c = (setCauses.contains c && f c) := by
  have hset : ∀ (a b d e g : Bool), ∀ c : Cause,
      inCauseSet (setCauses.foldl (fun m c => if (match c with
        | .poleDropP => a | .poleDropN => b | .lineLoss => d | .sensorLoss => e | .deskStop => g | .unclaimed => false) then
          m ||| BitVec.twoPow 8 (causeCode c) else m) (0 : Byte)) c =
      (setCauses.contains c && match c with
        | .poleDropP => a | .poleDropN => b | .lineLoss => d | .sensorLoss => e | .deskStop => g | .unclaimed => false) := by
    intro a b d e g c
    cases c <;> revert a b d e g <;> decide
  have hf := hset (f .poleDropP) (f .poleDropN) (f .lineLoss) (f .sensorLoss) (f .deskStop) c
  cases c
  case unclaimed => exact hf
  all_goals exact hf

/-- Settles O59: the window after a break, its positions, and the claims. -/
theorem windowsAndClaims : Obligations.WindowsAndClaims := by
  refine fun s => ⟨fun hends => ?_, fun p line hm hph hpos => ?_, fun c => ?_⟩
  · have hb : s.body .breakEnd = some s.endBreak := by
      refine if_pos ?_
      rw [Bool.or_eq_true, Bool.or_eq_true, decide_eq_true_iff, or_assoc]
      exact hends
    obtain ⟨brsq, bpt, -, -, -, bstuck, brun, brestarted, bdriver, bframe, -⟩ := breakOver_spec s
    by_cases hm : s.rsq.mode = .config
    · have hu : s.endBreak = s.breakOver := if_pos hm
      rw [hu] at hb
      obtain ⟨-, hrsq, -⟩ := finishBut_blocks none s.breakOver s
      rw [blocksEnd_of_config (by rw [brsq]; exact hm)] at hrsq
      exact ⟨_, exec_of_body hb, by simp [brun], by simp [bstuck], by simp [brestarted], by simp [bpt],
        fun _ => hrsq.trans brsq, fun h => absurd hm h⟩
    · obtain ⟨hrsq, hpt, hclaimed, hli⟩ := endBreak_joined hm
      set u := s.endBreak
      obtain ⟨hfli, -⟩ := finish_line_of_not (u := u) s (.inr (.inr (.inl (by rw [hrsq]))))
      have hrun : u.li.dominantRun = 0 ∧ u.li.stuck = false ∧ u.li.restarted = false := by
        rw [hli]
        split <;> exact ⟨brun, bstuck, brestarted⟩
      refine ⟨_, exec_of_body hb, by simp [hrun], by simp [hrun], by simp [hrun], by simp [hpt], fun h => absurd h hm, fun _ =>
        ⟨by simp [hrsq], by simp [hrsq], by simp [hrsq], ?_, by simp [hrsq], ?_⟩⟩
      · rw [State.finish, (finishBut_holds none u s).2.2, hclaimed]
      · rw [hfli, hli]
        split
        · exact ⟨rfl, rfl⟩
        · exact ⟨bdriver, bframe⟩
  · have hb : s.body (.claimPositionStart p line) = some ((s.sense line).presentClaim p) := by
      refine if_pos (Bool.and_eq_true_iff.2 ⟨by simp [hm, hph], ?_⟩)
      cases hw : s.rsq.windowPosition with
      | none => rfl
      | some q => exact decide_eq_true (hpos q hw)
    obtain ⟨hrsq, hpt, -, hli⟩ := presentClaim_spec (s.sense line) p
    set u := (s.sense line).presentClaim p
    obtain ⟨hfli, -⟩ := finish_line_of_not (u := u) s (.inr (.inr (.inl (by rw [hrsq]; simpa using hph))))
    refine ⟨_, exec_of_body hb, by simp [hrsq], by simpa [hrsq] using hph, by simp [hpt], ?_⟩
    have hown : (s.sense line).own = s.own := own_congr (by simp)
    have hclaim : (s.sense line).claim = s.claim := claim_congr (by simp) (by simp)
    rw [hfli, hli]
    simp only [sense_fields, sense_rounds, hown, hclaim, sense_ownPending]
    split <;> rfl
  · have hclaim : inCauseSet s.claim.causes c =
        (setCauses.contains c && s.alarms.any fun e => e.hasKey (.station s.own) c && e.state == .pending) :=
      inCauseSet_causeSet _ c
    rw [hclaim]
    rfl

end Claims

end Machine
end Sys2Proof

/-!
PROOFS. Frames of other stations heard: the slot counter and mode they move, the record they file and the alarm entries
they compare (R36, R118, R122, R133, R158 to R161; O49).
-/

namespace Sys2Proof
namespace Machine

section Foreign

variable {s t u : State} {a : Fin 16} {m : Byte} {c : Cause} {e : AlarmEntry}

/-! ### Entries of other sources at the end of an event -/

/-- An event's end lists nothing for another source. -/
theorem mem_of_mem_finishBut (skip : Option (Fin 8)) (old : State) (hsrc : e.source ≠ .station u.own)
    (he : e ∈ (u.finishBut skip old).alarms) : e ∈ u.alarms := by
  refine (finishBut_alarms_keep (P := fun t => t.own = u.own ∧ (e ∈ t.alarms → e ∈ u.alarms)) skip old
    (fun t v _ halc hcfs ht => ⟨(own_congr hcfs).trans ht.1, fun hv => ht.2 ?_⟩)
    (fun t d ht => ⟨(own_congr (by simp)).trans ht.1, fun hv => ht.2 ?_⟩)
    (fun t c _ ht => ⟨(own_congr (by simp)).trans ht.1, fun hv => ht.2 (mem_clearOwn hv)⟩) ⟨rfl, id⟩).2 he
  · simpa only [State.alarms, halc] using hv
  · rcases mem_raiseOwn d hv with hv | ⟨hkey, -⟩
    · exact hv
    · exact absurd ((congrArg Prod.fst hkey).trans (by rw [ht.1])) hsrc

/-- An event's end lists no key of another source. -/
theorem not_listed_finishBut {src : Source} (skip : Option (Fin 8)) (old : State) (hsrc : src ≠ .station u.own)
    (h : u.listed src c = false) : (u.finishBut skip old).listed src c = false := by
  refine List.any_eq_false.2 fun e he hk => ?_
  have hkey : e.key = (src, c) := (hasKey_iff _ _ _).1 hk
  have hsource : e.source = src := congrArg Prod.fst hkey
  exact List.any_eq_false.1 h e (mem_of_mem_finishBut skip old (by rw [hsource]; exact hsrc) he) hk

/-- With room in the list an event's end keeps every entry of another source. -/
theorem mem_finishBut_of_room (skip : Option (Fin 8)) (old : State) (hroom : u.alarms.length < 24)
    (hsrc : e.source ≠ .station u.own) (he : e ∈ u.alarms) : e ∈ (u.finishBut skip old).alarms :=
  mem_alarms_finishBut skip old (.inr hroom) hroom.le hsrc he

/-! ### The own-cause set of a STATUS compared with the list (R36) -/

/-- R36: one cause of the set that is not listed for its sender. -/
def State.createUnlisted (a : Fin 16) (m : Byte) (s : State) (c : Cause) : State :=
  if inCauseSet m c && !s.listed (.station a) c then s.placeEntry (newEntry (.station a) c .announced .status none) else s

theorem compareCauses_eq (s : State) (a : Fin 16) (m : Byte) :
    s.compareCauses a m = setCauses.foldl (State.createUnlisted a m) (s.dropUnstated a m) := rfl

theorem mem_placeEntry (h : e ∈ s.alarms) (x : AlarmEntry) : e ∈ (s.placeEntry x).alarms := by
  unfold State.placeEntry
  split
  · exact List.mem_append_left _ h
  · exact h

theorem mem_of_mem_placeEntry {x : AlarmEntry} (h : e ∈ (s.placeEntry x).alarms) : e ∈ s.alarms ∨ e = x := by
  unfold State.placeEntry at h
  split at h
  · simpa [State.withAlarms, State.alarms] using h
  · exact .inl h

theorem length_placeEntry (s : State) (x : AlarmEntry) : (s.placeEntry x).alarms.length ≤ s.alarms.length + 1 := by
  unfold State.placeEntry
  split
  · simp [State.withAlarms, State.alarms]
  · exact Nat.le_succ _

theorem mem_createUnlisted (h : e ∈ s.alarms) (c : Cause) : e ∈ (s.createUnlisted a m c).alarms := by
  unfold State.createUnlisted
  split
  · exact mem_placeEntry h _
  · exact h

theorem length_createUnlisted (s : State) (a : Fin 16) (m : Byte) (c : Cause) :
    (s.createUnlisted a m c).alarms.length ≤ s.alarms.length + 1 := by
  unfold State.createUnlisted
  split
  · exact length_placeEntry s _
  · exact Nat.le_succ _

/-- The cause of an entry that a turn adds is in the set. -/
theorem mem_of_mem_createUnlisted (h : e ∈ (s.createUnlisted a m c).alarms) :
    e ∈ s.alarms ∨ inCauseSet m c = true ∧ e = newEntry (.station a) c .announced .status none := by
  unfold State.createUnlisted at h
  split at h
  next hc => exact (mem_of_mem_placeEntry h).imp id fun he => ⟨(Bool.and_eq_true _ _ ▸ hc).1, he⟩
  next hc => exact .inl h

theorem mem_foldl_createUnlisted (cs : List Cause) (h : e ∈ s.alarms) :
    e ∈ (cs.foldl (State.createUnlisted a m) s).alarms :=
  foldl_keeps (fun t : State => e ∈ t.alarms) _ (fun _ c ht => mem_createUnlisted ht c) cs s h

theorem length_foldl_createUnlisted (a : Fin 16) (m : Byte) (cs : List Cause) (s : State) :
    (cs.foldl (State.createUnlisted a m) s).alarms.length ≤ s.alarms.length + cs.length := by
  induction cs generalizing s with
  | nil => exact le_rfl
  | cons c cs ih =>
    have h1 := ih (s.createUnlisted a m c)
    have h2 := length_createUnlisted s a m c
    simp only [List.foldl_cons, List.length_cons]
    omega

/-- A turn for another cause leaves which entries of a cause are listed. -/
theorem listed_createUnlisted {d : Cause} (h : d ≠ c) (s : State) :
    (s.createUnlisted a m c).listed (.station a) d = s.listed (.station a) d := by
  rw [Bool.eq_iff_iff]
  constructor <;> intro hl <;> obtain ⟨e, he, hk⟩ := List.any_eq_true.1 hl
  · rcases mem_of_mem_createUnlisted he with he | ⟨-, rfl⟩
    · exact List.any_eq_true.2 ⟨e, he, hk⟩
    · rw [hasKey_iff, key_newEntry] at hk
      exact absurd (congrArg Prod.snd hk).symm h
  · exact List.any_eq_true.2 ⟨e, mem_createUnlisted he c, hk⟩

/-- With room for all of them, each cause of the set that is not listed is created. -/
theorem foldl_createUnlisted_creates (cs : List Cause) (hroom : s.alarms.length + cs.length ≤ 24) (hc : c ∈ cs)
    (hset : inCauseSet m c = true) (hnew : s.listed (.station a) c = false) :
    newEntry (.station a) c .announced .status none ∈ (cs.foldl (State.createUnlisted a m) s).alarms := by
  induction cs generalizing s with
  | nil => cases hc
  | cons d ds ih =>
    rw [List.length_cons] at hroom
    rw [List.foldl_cons]
    by_cases hcd : c = d
    · subst hcd
      refine mem_foldl_createUnlisted ds ?_
      have hcap : s.alarms.length < Figures.alarmCapacity := show s.alarms.length < 24 by omega
      rw [State.createUnlisted, hset, hnew, if_pos (by rfl), State.placeEntry, if_pos hcap]
      exact List.mem_append_right _ (List.mem_singleton.2 rfl)
    · have hlength := length_createUnlisted s a m d
      exact ih (by omega) (List.mem_of_ne_of_mem hcd hc) ((listed_createUnlisted hcd s).trans hnew)

theorem mem_dropUnstated :
    e ∈ (s.dropUnstated a m).alarms ↔ e ∈ s.alarms ∧ (e.source = .station a → inCauseSet m e.cause = true) := by
  simp only [State.dropUnstated, alarms_withAlarms, List.mem_filter, Bool.not_eq_true', Bool.and_eq_false_imp, beq_iff_eq,
    Bool.not_eq_false']

/-- Entries that the comparison of a STATUS with the list leaves: those of other sources, and of its sender those named. -/
theorem not_listed_compareCauses (s : State) (h : inCauseSet m c = false) :
    (s.compareCauses a m).listed (.station a) c = false := by
  have hdrop : (s.dropUnstated a m).listed (.station a) c = false := by
    refine List.any_eq_false.2 fun e he hk => ?_
    have hkey : e.key = (.station a, c) := (hasKey_iff _ _ _).1 hk
    have hcause : e.cause = c := congrArg Prod.snd hkey
    have hin := (mem_dropUnstated.1 he).2 (congrArg Prod.fst hkey)
    rw [hcause, h] at hin
    cases hin
  refine foldl_keeps (fun t : State => t.listed (.station a) c = false) _ (fun t d ht => ?_) setCauses _ hdrop
  refine List.any_eq_false.2 fun e he hk => ?_
  rcases mem_of_mem_createUnlisted he with he | ⟨hd, rfl⟩
  · exact List.any_eq_false.1 ht e he hk
  · rw [hasKey_iff, key_newEntry] at hk
    have hdc : d = c := congrArg Prod.snd hk
    rw [hdc, h] at hd
    cases hd

theorem length_dropUnstated (s : State) (a : Fin 16) (m : Byte) : (s.dropUnstated a m).alarms.length ≤ s.alarms.length :=
  List.length_filter_le _ _

theorem length_compareCauses (s : State) (a : Fin 16) (m : Byte) :
    (s.compareCauses a m).alarms.length ≤ s.alarms.length + 5 :=
  (length_foldl_createUnlisted a m setCauses _).trans (Nat.add_le_add_right (length_dropUnstated s a m) 5)

/-- An entry that the STATUS of its sender names, or of another source, stands. -/
theorem mem_compareCauses (he : e ∈ s.alarms) (h : e.source = .station a → inCauseSet m e.cause = true) :
    e ∈ (s.compareCauses a m).alarms :=
  mem_foldl_createUnlisted setCauses (mem_dropUnstated.2 ⟨he, h⟩)

/-- With six places free a cause the STATUS names that is not listed is listed ANNOUNCED. -/
theorem compareCauses_creates (hroom : s.alarms.length + 6 ≤ 24) (hc : c ∈ setCauses) (hset : inCauseSet m c = true)
    (hnew : s.listed (.station a) c = false) :
    newEntry (.station a) c .announced .status none ∈ (s.compareCauses a m).alarms := by
  have hlength := length_dropUnstated s a m
  have hfive : setCauses.length = 5 := rfl
  refine foldl_createUnlisted_creates setCauses (by omega) hc hset (List.any_eq_false.2 fun e he => ?_)
  exact List.any_eq_false.1 hnew e (mem_dropUnstated.1 he).1

end Foreign

section Followed

variable {s : State}

/-! ### The slot counter and the mode after a frame of another station (R118, R122, R133) -/

theorem enterRun_rsq (s : State) : s.enterRun.rsq = { s.rsq with mode := .run, idleCount := none } := rfl

theorem roundLength_enterRun (s : State) : s.enterRun.roundLength = s.roundLength := rfl

/-- R122: a frame whose start bit found the counter elsewhere counts a resync. -/
theorem countResync_rsq (s : State) (a : Nat) :
    (s.countResync a).rsq =
      { s.rsq with
        resyncCount := if s.li.startSlot.getD s.rsq.slotCounter = a then s.rsq.resyncCount else min 255 (s.rsq.resyncCount + 1) } := by
  unfold State.countResync State.slotAtStart
  split <;> rfl

/-- R122: a counter moved past slot `a`, in a round of N slots. -/
def MovedPast (n a : Nat) (t : State) : Prop :=
  t.rsq.slotCounter = min (a + 1) n ∧ t.rsq.phase = if a + 1 < n then .slot else .roundEnd

theorem movedPast_passSlot (s : State) (a : Nat) : MovedPast s.roundLength a (s.passSlot a) := by
  rw [MovedPast, passSlot_rounds]
  exact ⟨rfl, rfl⟩

/-- What a STATUS or NOTICE of another station leaves of the rounds, outside CONFIG. -/
theorem followFrame_spec (a : Fin 16) (hm : s.rsq.mode ≠ .config) :
    (if s.rsq.phase = .window then
        (s.followFrame a).rsq.phase = .window ∧ (s.followFrame a).rsq.slotCounter = s.rsq.slotCounter
      else MovedPast s.roundLength a.val (s.followFrame a)) ∧
      (s.followFrame a).rsq.mode = (if s.rsq.mode = .listen then .run else s.rsq.mode) ∧
      (s.followFrame a).rsq.resyncCount =
        (if s.rsq.mode = .listen ∨ s.rsq.phase = .window ∨ s.li.startSlot.getD s.rsq.slotCounter = a.val then s.rsq.resyncCount
        else min 255 (s.rsq.resyncCount + 1)) ∧
      (s.rsq.mode = .listen → (s.followFrame a).rsq.idleCount = none) := by
  have hlength : (s.countResync a.val).roundLength = s.roundLength := roundLength_congr (by simp)
  have hpassed (h : s.rsq.phase ≠ .window) : MovedPast s.roundLength a.val ((s.countResync a.val).passSlot a.val) := by
    rw [← hlength]
    exact movedPast_passSlot _ _
  unfold State.followFrame
  by_cases hw : s.rsq.phase = .window
  · cases hmode : s.rsq.mode with
    | config => exact absurd hmode hm
    | listen => simp [hw, enterRun_rsq]
    | run => simp [hw, hmode]
    | mute => simp [hw, hmode]
  · cases hmode : s.rsq.mode with
    | config => exact absurd hmode hm
    | listen =>
      have hmoved := movedPast_passSlot s.enterRun a.val
      simpa [hw, roundLength_enterRun, passSlot_rounds, enterRun_rsq] using hmoved
    | run => simpa [hw, passSlot_rounds, countResync_rsq, hmode] using hpassed hw
    | mute => simpa [hw, passSlot_rounds, countResync_rsq, hmode] using hpassed hw

/-- R118, R122, R133: the end of the event leaves what a frame has made of the rounds. -/
theorem followFrame_finish {u : State} (a : Fin 16) (hm : s.rsq.mode ≠ .config) (hu : RoundsKept (s.followFrame a) u) (old : State) :
    (if s.rsq.phase = .window then
        (u.finish old).rsq.phase = .window ∧ (u.finish old).rsq.slotCounter = s.rsq.slotCounter
      else MovedPast s.roundLength a.val (u.finish old)) ∧
      (u.finish old).rsq.mode = (if s.rsq.mode = .listen then .run else s.rsq.mode) ∧
      (u.finish old).rsq.resyncCount =
        (if s.rsq.mode = .listen ∨ s.rsq.phase = .window ∨ s.li.startSlot.getD s.rsq.slotCounter = a.val then s.rsq.resyncCount
        else min 255 (s.rsq.resyncCount + 1)) ∧
      (s.rsq.mode = .listen → (u.finish old).rsq.idleCount = none) := by
  obtain ⟨kmode, -, kphase, kcounter, -, kresync, -, -, -, -, -, kidle⟩ := hu.items
  simp only [MovedPast, finish_rounds, kmode, kphase, kcounter, kresync, kidle]
  exact followFrame_spec a hm

end Followed

section Received

variable {s : State} {a : Fin 16} {body : FrameBody}

/-! ### Frames that the receiver takes (R142) -/

theorem not_receives (h : s.li.receiver = .discard ∨ ¬s.li.reception <+: frameChars a body) : s.receives a body = false := by
  rw [Bool.eq_false_iff, ne_eq, receives_iff]
  rintro ⟨-, hreceiver, hprefix⟩
  exact h.elim hreceiver (absurd hprefix)

/-- R142: the line interface at the end of a frame received. -/
theorem receiverTo_li (s : State) (r : ReceiverState) :
    (s.receiverTo r).li =
      { s.li.taking r [] with
        dominantRun := 0, restarted := false, startSlot := if r = .frame then s.li.startSlot else none } := by
  cases r <;> rfl

theorem receiverTo_rsq (s : State) (r : ReceiverState) : (s.receiverTo r).rsq = s.rsq := by
  rw [State.receiverTo, lineTo_rsq]
  rfl

/-- R142: the receiver and the error counts once a frame received has ended its event. -/
theorem received_finish {t u : State} (hd : t.li.driver = .released) (hu : u.li = (t.receiverTo .idle).li) (old : State) :
    (u.finish old).li.receiver = .idle ∧ (u.finish old).li.rxErrors = t.li.rxErrors ∧
      (u.finish old).li.txErrors = t.li.txErrors := by
  have hdriver : u.li.driver ≠ .frame := by
    rw [hu, receiverTo_li, LineInterface.taking]
    simp [hd]
  refine ⟨(finish_receiver old hdriver).trans ?_, ?_, ?_⟩
  · rw [hu, receiverTo_li]
    rfl
  · simp [hu]
  · simp [hu]

end Received

section StatusFrame

variable {s : State}

/-! ### A STATUS heard (R36, R158 to R160; O49) -/

/-- R159, R160: the record that a STATUS files, with its gap counted and its change of role marked. -/
theorem filed_eq (r : Peer) (new : Stated) :
    r.filed new =
      { state := .fresh, age := 0, stated := some new
        sequenceGaps :=
          (match r.stated with
          | some old => if new.sequence = (old.sequence + 1) % 256 then r.sequenceGaps else min 255 (r.sequenceGaps + 1)
          | none => r.sequenceGaps)
        roleChanged := r.roleChanged || (match r.stated with | some old => old.role != new.role | none => false) } := by
  unfold Peer.filed sequenceBroken roleDiffers
  cases r.stated with
  | none => rfl
  | some old => by_cases h : new.sequence = (old.sequence + 1) % 256 <;> simp [h, satInc]

theorem fileStatus_pt (s : State) (a : Fin 16) (b : StatusBody) :
    (s.fileStatus a b).pt = (s.withPeer a ((s.peer a).filed (readStatus b))).pt := by
  unfold State.fileStatus
  dsimp only
  split <;> rfl

/-- R158: a STATUS heard files its sender's record and no other. -/
theorem hearStatus_peer (s : State) (a c : Fin 16) (b : StatusBody) :
    (s.hearStatus a b).peer c = if c = a then (s.peer a).filed (readStatus b) else s.peer c := by
  set t := (s.followFrame a).receiverTo .idle with ht
  have hpt : t.pt = s.pt := by simp [ht]
  have hfiled : (s.hearStatus a b).pt = (t.withPeer a ((t.peer a).filed (readStatus b))).pt := by
    rw [← fileStatus_pt]
    exact (compareCauses_frame _ a b.causes).2.2.2.2.1
  rw [peer_congr hfiled, peer_withPeer, peer_congr hpt, peer_congr hpt]

/-- Settles O49: the record is `filed_eq`, the rounds are `followFrame_finish`, and the entries of the sender are those the
comparison of its own-cause set leaves, which the end of the event keeps as entries of another source. -/
theorem statusHeard : Obligations.StatusHeard := by
  refine ⟨fun s a b h => exec_of_no_body rfl (if_neg (by simp [not_receives h])), fun s a b hh hr hpre ha => ?_⟩
  have hb : s.body (.statusReceived a b) = some (s.hearStatus a b) := if_pos (by simp [(receives_iff s a _).2 ⟨hh, hr, hpre⟩, ha])
  obtain ⟨hmode, hdriver, -, -⟩ := (hears_iff s).1 hh
  set v := ((s.followFrame a).receiverTo .idle).fileStatus a b with hv
  set u := s.hearStatus a b with hu
  have huv : u = v.compareCauses a b.causes := rfl
  have halarms : v.alarms = s.alarms := by simp [hv, State.alarms]
  have hlisted (c : Cause) : v.listed (.station a) c = s.listed (.station a) c := by rw [State.listed, halarms, State.listed]
  have hown : u.own = s.own := own_congr (by simp [hu])
  have hforeign : Source.station a ≠ .station u.own := by simpa [hown] using ha
  have hpeer (c : Fin 16) : (u.finish s).peer c = if c = a then (s.peer a).filed (readStatus b) else s.peer c :=
    (peer_congr (by simp [hu]) c).trans (hearStatus_peer s a c b)
  obtain ⟨hrounds, hto, hresync, -⟩ := followFrame_finish a hmode (u := u) (.of_rsq (by simp [hu])) s
  obtain ⟨hidle, hrx, htx⟩ := received_finish (t := s.followFrame a) (u := u) (by simp [hdriver]) (by simp [huv, hv]) s
  refine ⟨_, exec_of_body hb, ?_, fun c hc => ?_, fun c _ hc => ?_, fun hroom c hc hset => ?_, hidle, ?_, ?_, hrounds, hto, hresync⟩
  · exact (hpeer a).trans ((if_pos rfl).trans (filed_eq _ _))
  · rw [hpeer, if_neg (Ne.symm hc)]
  · exact not_listed_finishBut none s hforeign (not_listed_compareCauses v hc)
  · have hlength : u.alarms.length < 24 := by
      have h := length_compareCauses v a b.causes
      rw [halarms, ← huv] at h
      omega
    split
    next hin =>
      intro e he hk
      have hkey : e.key = (.station a, c) := (hasKey_iff _ _ _).1 hk
      have hsrc : e.source = .station a := congrArg Prod.fst hkey
      have hcause : e.cause = c := congrArg Prod.snd hkey
      refine mem_finishBut_of_room none s hlength (hsrc ▸ hforeign) ?_
      exact mem_compareCauses (by rwa [halarms]) fun _ => by rw [hcause, hset]
    next hout =>
      have hnew : v.listed (.station a) c = false := by rw [hlisted, Bool.eq_false_iff]; exact hout
      exact mem_finishBut_of_room none s hlength hforeign
        (compareCauses_creates (by rw [halarms]; exact hroom) hc hset hnew)
  · rw [hrx]
    simp
  · rw [htx]
    simp

end StatusFrame

end Machine
end Sys2Proof

/-!
PROOFS. Acknowledged own entries cleared at the end of an event, and a NOTICE of another station heard (R25, R26, R34, R38
to R42, R118, R122, R161; O50).
-/

namespace Sys2Proof
namespace Machine

section Cleared

variable {s t u old : State} {c d : Cause} {room : Prop} {k : Nat}

/-! ### Own entries cleared once acknowledged (R25, R26, R34, R42) -/

/-- R25, R26, R34: an own entry that stands ACKNOWLEDGED is cleared where its reason has gone. -/
def State.clearIf (c : Cause) (gone : Bool) (s : State) : State := if s.ownAcknowledged c && gone then s.clearOwn c else s

theorem clearSensorLoss_eq (s : State) :
    s.clearSensorLoss = s.clearIf .sensorLoss (s.fresh elevPChannel && s.fresh elevNChannel && s.fresh lineVChannel) := by
  rw [State.clearSensorLoss, State.clearIf, Bool.and_assoc, Bool.and_assoc, Bool.and_assoc]

theorem clearDrop_eq (s : State) (x : PoleId) :
    s.clearDrop x = s.clearIf (dropCause x) ((s.pole x).state == .stowed) := rfl

theorem clearStop_eq (s : State) : s.clearStop = s.clearIf .deskStop (s.activeStops == 0) := rfl

@[simp] theorem clearIf_frame (s : State) (c : Cause) (gone : Bool) :
    (s.clearIf c gone).cfs = s.cfs ∧ (s.clearIf c gone).ps = s.ps ∧ (s.clearIf c gone).iou = s.iou := by
  unfold State.clearIf
  split
  · simp
  · exact ⟨rfl, rfl, rfl⟩

theorem ownEntries_clearIf (h : c ≠ d) (gone : Bool) : (s.clearIf d gone).ownEntries c = s.ownEntries c := by
  unfold State.clearIf
  split
  · exact (ownEntries_clearOwn s d c).trans (if_neg h)
  · rfl

theorem ownAcknowledged_eq (s : State) (c : Cause) :
    s.ownAcknowledged c = (s.ownEntries c).any fun e => e.state == .acknowledged := by
  rw [State.ownAcknowledged, State.ownEntries, List.any_filter]

theorem ownAcknowledged_congr (h : t.ownEntries c = s.ownEntries c) : t.ownAcknowledged c = s.ownAcknowledged c := by
  rw [ownAcknowledged_eq, ownAcknowledged_eq, h]

/-- The notice queue holds at most `k` notices and none is held beside it. -/
def QueueRoom (k : Nat) (s : State) : Prop := s.rsq.queue.length ≤ k ∧ s.rsq.holding = none

theorem QueueRoom.clearOwn (h : QueueRoom k s) (hk : k < 8) (c : Cause) : QueueRoom (k + 1) (s.clearOwn c) := by
  obtain ⟨hlength, hholding⟩ := h
  have hroom : (s.withAlarms (removeEntry (.station s.own) c s.alarms)).queueRoom = true :=
    decide_eq_true (lt_of_le_of_lt hlength hk)
  unfold State.clearOwn State.placeInternal
  split
  · exact ⟨hlength.trans (Nat.le_succ k), hholding⟩
  · exact ⟨by simpa [State.enqueueNotice] using hlength, hholding⟩

theorem QueueRoom.clearIf (h : QueueRoom k s) (hk : k < 8) (c : Cause) (gone : Bool) : QueueRoom (k + 1) (s.clearIf c gone) := by
  unfold State.clearIf
  split
  · exact h.clearOwn hk c
  · exact ⟨h.1.trans (Nat.le_succ k), h.2⟩

/-- The own entry of a cause stands ACKNOWLEDGED, with room for its CLEAR. -/
structure Clearable (room : Prop) (k : Nat) (c : Cause) (s : State) : Prop where
  acknowledged : s.ownAcknowledged c = true
  queue : room → QueueRoom k s

/-- The own entry of a cause is cleared, with its CLEAR queued where there was room. -/
structure Cleared (room : Prop) (c : Cause) (s : State) : Prop where
  gone : s.ownListed c = false
  queued : room → .clear c ∈ s.rsq.queue

theorem Clearable.clearIf_other (h : Clearable room k c s) (hk : k < 8) (hd : c ≠ d) (gone : Bool) :
    Clearable room (k + 1) c (s.clearIf d gone) :=
  ⟨(ownAcknowledged_congr (ownEntries_clearIf hd gone)).trans h.acknowledged, fun hr => (h.queue hr).clearIf hk d gone⟩

theorem Clearable.clearIf (h : Clearable room k c s) (hk : k < 8) : Cleared room c (s.clearIf c true) := by
  rw [State.clearIf, h.acknowledged, if_pos (by rfl)]
  refine ⟨ownEntries_eq_nil_iff.1 ((ownEntries_clearOwn s c c).trans (if_pos rfl)), fun hr => ?_⟩
  obtain ⟨hlength, hholding⟩ := h.queue hr
  exact mem_queue_clearOwn (decide_eq_true (lt_of_le_of_lt hlength hk)) hholding c

/-- What leaves the own entries of a cause and the rounds leaves its clearing to come. -/
theorem Clearable.same (h : Clearable room k c s) (he : t.ownEntries c = s.ownEntries c) (hrsq : t.rsq = s.rsq) :
    Clearable room k c t :=
  ⟨(ownAcknowledged_congr he).trans h.acknowledged, fun hr => by rw [QueueRoom, hrsq]; exact h.queue hr⟩

theorem Cleared.same (h : Cleared room c s) (he : t.ownEntries c = s.ownEntries c) (hrsq : t.rsq = s.rsq) : Cleared room c t :=
  ⟨(ownListed_congr he).trans h.gone, fun hr => by rw [hrsq]; exact h.queued hr⟩

theorem Cleared.clearIf (h : Cleared room c s) (d : Cause) (gone : Bool) : Cleared room c (s.clearIf d gone) := by
  unfold State.clearIf
  split
  · refine ⟨?_, fun hr => mem_queue_placeInternal _ (h.queued hr)⟩
    have hnil := ownEntries_eq_nil_iff.2 h.gone
    refine ownEntries_eq_nil_iff.1 ((ownEntries_clearOwn s d c).trans ?_)
    split
    · rfl
    · exact hnil
  · exact h

theorem ownEntries_raiseSensorLoss_congr (h : c ≠ .sensorLoss) (s old : State) :
    (s.raiseSensorLoss old).ownEntries c = s.ownEntries c := by
  unfold State.raiseSensorLoss
  split
  · exact ownEntries_raiseOwn s _ h
  · rfl

theorem fresh_congr (h : t.iou = s.iou) (k : Fin 8) : t.fresh k = s.fresh k := by rw [State.fresh, State.latch, h]; rfl

theorem activeStops_congr (hiou : t.iou = s.iou) (hcfs : t.cfs = s.cfs) : t.activeStops = s.activeStops := by
  simp only [State.activeStops, State.inputFn, State.inputActive, hcfs, hiou]

/-- The clearings at the end of an event in a POLE station under supervision, in their order (R25, R26). -/
theorem polesListed_eq (s old : State) :
    s.polesListed old =
      (((s.raiseSensorLoss old).clearIf .sensorLoss
        (s.fresh elevPChannel && s.fresh elevNChannel && s.fresh lineVChannel)).clearIf .poleDropP
          ((s.pole .p).state == .stowed)).clearIf .poleDropN ((s.pole .n).state == .stowed) := by
  have hfresh (c : Fin 8) : (s.raiseSensorLoss old).fresh c = s.fresh c := fresh_congr (by simp) c
  rw [State.polesListed, clearSensorLoss_eq, clearDrop_eq, clearDrop_eq, hfresh, hfresh, hfresh,
    pole_congr (s := s) (by simp) .p, pole_congr (s := s) (by simp) .n]
  rfl

theorem Cleared.restoreQualifyRule (h : Cleared room c s) : Cleared room c s.restoreQualifyRule := ⟨h.gone, h.queued⟩

theorem Clearable.restoreQualifyRule (h : Clearable room k c s) : Clearable room k c s.restoreQualifyRule :=
  ⟨h.acknowledged, h.queue⟩

theorem ownEntries_restoreQualifyRule (s : State) (c : Cause) : s.restoreQualifyRule.ownEntries c = s.ownEntries c := rfl

theorem ownEntries_polesPlaced (u old : State) (c : Cause) : (u.polesPlaced old).ownEntries c = u.ownEntries c :=
  ownEntries_congr (by simp) (by simp) c

theorem reviewed_eq (u old : State) : u.reviewed old = (u.polesEnd old).clearIf .deskStop (u.activeStops == 0) := by
  rw [State.reviewed, clearStop_eq, activeStops_congr (s := u) (by simp) (by simp)]

/-- What the end of an event has cleared stays so to its close. -/
theorem Cleared.finish (hm : u.rsq.mode ≠ .config) (h : Cleared room c (u.reviewed old)) : Cleared room c (u.finish old) := by
  obtain ⟨-, hrsq, -, halc, -⟩ := finishBut_blocks none u old
  rw [blocksEnd_of_joined hm] at hrsq halc
  refine h.same (ownEntries_congr (halc.trans ?_) ?_ c) (hrsq.trans ?_)
  · simp
  · simp
  · simp

/-- R25, R26: in a POLE station under supervision an own entry ACKNOWLEDGED is cleared with its reason gone, in an event
that changes no latch and no pole. -/
theorem polesListed_clears (hps : u.ps = old.ps) (hlatches : u.iou.latches = old.iou.latches) (hs : u.ps.supervising = true)
    (hc : c ≠ .deskStop) (hgone : u.role = .pole ∧ ReasonGone c u) (h : Clearable room 4 c u) :
    Cleared room c ((u.polesPlaced old).polesListed old) := by
  set v := u.polesPlaced old with hv
  have hclear : Clearable room 4 c v := h.same (ownEntries_polesPlaced _ _ _) (by simp [hv])
  have hfresh (k : Fin 8) : v.fresh k = u.fresh k := fresh_congr (by simp [hv]) k
  have hstowed (x : PoleId) (hx : (u.pole x).state = .stowed) : ((v.pole x).state == .stowed) = true := by
    rw [hv, polesPlaced_pole]
    exact beq_iff_eq.2 ((congrArg Pole.state (endPole_of_stowed (old := old) hx)).trans hx)
  rw [polesListed_eq, raiseSensorLoss_of_kept hps hlatches hs, ← hv]
  obtain ⟨-, hgone⟩ := hgone
  cases c with
  | sensorLoss =>
    obtain ⟨-, hp, hn, hl⟩ := hgone
    rw [hfresh, hfresh, hfresh, hp, hn, hl]
    exact ((hclear.clearIf (by decide)).clearIf _ _).clearIf _ _
  | poleDropP =>
    rw [hstowed .p hgone.2]
    exact ((hclear.clearIf_other (by decide) (by decide) _).clearIf (by decide)).clearIf _ _
  | poleDropN =>
    rw [hstowed .n hgone.2]
    exact ((hclear.clearIf_other (by decide) (by decide) _).clearIf_other (by decide) (by decide) _).clearIf (by decide)
  | deskStop => exact absurd rfl hc
  | lineLoss => exact absurd hgone id
  | unclaimed => exact absurd hgone id

/-- R34: the poles' clearings leave an own stop entry to be cleared after them. -/
theorem polesEnd_leaves_stop (u old : State) (h : Clearable room 4 .deskStop u) : Clearable room 7 .deskStop (u.polesEnd old) := by
  by_cases hp : u.role = .pole ∧ u.ps.supervising = true
  · rw [polesEnd_of_supervising hp.1 hp.2, polesListed_eq]
    have hplaced : Clearable room 4 .deskStop ((u.polesPlaced old).raiseSensorLoss old) :=
      h.same ((ownEntries_raiseSensorLoss_congr (by decide) _ _).trans (ownEntries_polesPlaced _ _ _)) (by simp)
    exact (((hplaced.clearIf_other (by decide) (by decide) _).clearIf_other (by decide) (by decide) _).clearIf_other
      (by decide) (by decide) _).restoreQualifyRule
  · rw [polesEnd_of_not hp]
    exact ⟨h.acknowledged, fun hr => ⟨(h.queue hr).1.trans (by decide), (h.queue hr).2⟩⟩

/-- An own entry that stands ACKNOWLEDGED with its reason gone is cleared at the end of an event that changes no latch and
no pole, and its CLEAR is queued where four places are free and no notice is held. -/
theorem acknowledged_cleared (hm : u.rsq.mode ≠ .config) (hgone : ReasonGone c u)
    (hkept : c ≠ .deskStop → u.ps = old.ps ∧ u.iou.latches = old.iou.latches) (hack : u.ownAcknowledged c = true) :
    Cleared (u.rsq.queue.length + 4 ≤ 8 ∧ u.rsq.holding = none) c (u.finish old) := by
  have hclear : Clearable (u.rsq.queue.length + 4 ≤ 8 ∧ u.rsq.holding = none) 4 c u :=
    ⟨hack, fun hr => ⟨Nat.le_of_add_le_add_right hr.1, hr.2⟩⟩
  refine Cleared.finish hm ?_
  rw [reviewed_eq]
  by_cases hc : c = .deskStop
  · subst hc
    rw [show u.activeStops = 0 from hgone]
    exact (polesEnd_leaves_stop u old hclear).clearIf (by decide)
  · obtain ⟨hps, hlatches⟩ := hkept hc
    have hpoles : u.role = .pole ∧ u.ps.supervising = true := by
      cases c with
      | poleDropP => exact hgone.1
      | poleDropN => exact hgone.1
      | sensorLoss => exact hgone.1
      | deskStop => exact absurd rfl hc
      | lineLoss => exact absurd hgone id
      | unclaimed => exact absurd hgone id
    rw [polesEnd_of_supervising hpoles.1 hpoles.2]
    exact ((polesListed_clears hps hlatches hpoles.2 hc ⟨hpoles.1, hgone⟩ hclear).restoreQualifyRule).clearIf _ _

/-- The own entries of LINE_LOSS and DESK_STOP stand through the end of an event that clears no stop entry. -/
theorem ownEntries_finish (hm : u.rsq.mode ≠ .config) (hc : c = .lineLoss ∨ c = .deskStop)
    (hstop : c = .deskStop → (u.ownAcknowledged .deskStop && u.activeStops == 0) = false) :
    (u.finish old).ownEntries c = u.ownEntries c := by
  have hpoles : (u.polesEnd old).ownEntries c = u.ownEntries c := by
    by_cases hp : u.role = .pole ∧ u.ps.supervising = true
    · rw [polesEnd_of_supervising hp.1 hp.2]
      rw [ownEntries_restoreQualifyRule]
      refine (ownEntries_polesListed _ _ ?_ fun x => ?_).trans (ownEntries_polesPlaced _ _ _)
      · rcases hc with rfl | rfl <;> decide
      · rcases hc with rfl | rfl <;> cases x <;> decide
    · rw [polesEnd_of_not hp]
  have hreviewed : (u.reviewed old).ownEntries c = u.ownEntries c := by
    rw [reviewed_eq]
    rcases hc with rfl | rfl
    · exact (ownEntries_clearIf (by decide) _).trans hpoles
    · rw [State.clearIf, ownAcknowledged_congr hpoles, hstop rfl]
      exact hpoles
  obtain ⟨-, -, -, halc, -⟩ := finishBut_blocks none u old
  rw [blocksEnd_of_joined hm] at halc
  refine (ownEntries_congr (halc.trans ?_) ?_ c).trans hreviewed
  · simp
  · simp

end Cleared

end Machine
end Sys2Proof

/-!
PROOFS. A NOTICE of another station heard: its sender's record refreshed, and the notice applied by its kind (R38 to R41,
R118, R122, R161, R204; O50).
-/

namespace Sys2Proof
namespace Machine

section Taken

variable {s : State} {a : Fin 16} {b : NoticeBody}

/-! ### The frame taken, before its notice is applied (R118, R122, R161) -/

/-- The state to which a NOTICE of another station is applied. -/
def State.noticeTaken (a : Fin 16) (s : State) : State := ((s.followFrame a).receiverTo .idle).refreshPeer a

theorem hearNotice_some {n : Notice} (h : readNotice b = some n) : s.hearNotice a b = (s.noticeTaken a).applyNotice a n := by
  simp only [State.hearNotice, State.noticeTaken, h]

theorem hearNotice_none (h : readNotice b = none) : s.hearNotice a b = s.noticeTaken a := by
  simp only [State.hearNotice, State.noticeTaken, h]

theorem noticeTaken_fields (s : State) (a : Fin 16) :
    (s.noticeTaken a).cfs = s.cfs ∧ (s.noticeTaken a).alc = s.alc ∧ (s.noticeTaken a).iou = s.iou ∧
      (s.noticeTaken a).rsq = (s.followFrame a).rsq ∧ (s.noticeTaken a).ps = (s.followFrame a).ps ∧
      (s.noticeTaken a).li = ((s.followFrame a).receiverTo .idle).li := by
  simp [State.noticeTaken, receiverTo_rsq]

/-- R1, R118: the poles as the frame leaves them, in the mode it leaves. -/
theorem followFrame_joined (s : State) (a : Fin 16) :
    (s.followFrame a).ps = s.joined.ps ∧ (s.followFrame a).rsq.mode = s.joined.rsq.mode := by
  unfold State.followFrame State.joined
  cases hm : s.rsq.mode with
  | config => simp [hm]
  | listen =>
    by_cases hw : s.rsq.phase = .window
    · rw [if_pos hw]
      exact ⟨rfl, rfl⟩
    · rw [if_neg hw]
      exact ⟨rfl, rfl⟩
  | run =>
    by_cases hw : s.rsq.phase = .window
    · simp [hw, hm]
    · simp [hw, hm, passSlot_rounds, countResync_rsq]
  | mute =>
    by_cases hw : s.rsq.phase = .window
    · simp [hw, hm]
    · simp [hw, hm, passSlot_rounds, countResync_rsq]

theorem joined_ps_of_not_pole (h : s.role ≠ .pole) : s.joined.ps = s.ps := by
  unfold State.joined
  have hrole : (s.role == .pole) = false := beq_eq_false_iff_ne.2 h
  split
  · simp only [hrole, Bool.or_false]
  · rfl

theorem joined_ps_of_supervising (h : s.ps.supervising = true) : s.joined.ps = s.ps := by
  unfold State.joined
  split
  · rw [h]
    simp only [Bool.true_or]
    rw [← h]
  · rfl

/-- R161: a FRESH or STALE record is FRESH at age 0, any other stands. -/
theorem refreshed_eq (r : Peer) :
    r.refreshed = if r.state = .fresh ∨ r.state = .stale then { r with state := .fresh, age := 0 } else r := by
  unfold Peer.refreshed
  cases h : r.state with
  | fresh => simp [← h]
  | stale => simp
  | lost => simp
  | absent => simp

theorem hearNotice_peer (s : State) (a c : Fin 16) (b : NoticeBody) :
    (s.hearNotice a b).peer c = if c = a then (s.peer a).refreshed else s.peer c := by
  have hpt : ((s.followFrame a).receiverTo .idle).pt = s.pt := by simp
  have htaken : (s.hearNotice a b).pt = (s.noticeTaken a).pt := by
    cases hn : readNotice b with
    | none => rw [hearNotice_none hn]
    | some n => rw [hearNotice_some hn]; exact (applyNotice_frame _ a n).2.2.2.2.1
  rw [peer_congr htaken, State.noticeTaken, State.refreshPeer, peer_withPeer, peer_congr hpt, peer_congr hpt]

theorem hearNotice_rsq (s : State) (a : Fin 16) (b : NoticeBody) : (s.hearNotice a b).rsq = (s.followFrame a).rsq := by
  have htaken := (noticeTaken_fields s a).2.2.2.1
  cases hn : readNotice b with
  | none => rw [hearNotice_none hn, htaken]
  | some n =>
    rw [hearNotice_some hn, ← htaken]
    exact (applyNotice_frame _ a n).2.2.2.1

theorem noticeTaken_alarms (s : State) (a : Fin 16) : (s.noticeTaken a).alarms = s.alarms := by
  rw [State.alarms, (noticeTaken_fields s a).2.1, State.alarms]

end Taken

section Applied

variable {s : State} {a : Fin 16} {b : NoticeBody} {e : AlarmEntry} {n : Notice}

/-! ### What a notice makes of the entries (R38 to R41) -/

/-- R38, R39: an entry as an acknowledgement leaves it. -/
theorem acknowledge_eq (e : AlarmEntry) :
    e.acknowledge = if e.state = .announced then { e with state := .acknowledged } else e := rfl

theorem mem_ackOne (he : e ∈ s.alarms) (src : Source) (c : Cause) :
    (if e.hasKey src c ∧ e.state = .announced then { e with state := .acknowledged } else e) ∈ (s.ackOne src c).alarms := by
  refine List.mem_map.2 ⟨e, he, ?_⟩
  by_cases hk : e.hasKey src c = true <;> by_cases hs : e.state = .announced <;> simp [hk, hs, AlarmEntry.acknowledge]

theorem mem_ackAll (he : e ∈ s.alarms) :
    (if e.state = .announced then { e with state := .acknowledged } else e) ∈ s.ackAll.alarms :=
  List.mem_map.2 ⟨e, he, rfl⟩

theorem mem_clearFrom (ha : a ≠ s.own) (he : e ∈ s.alarms) (c : Cause) :
    e ∈ (s.clearFrom a c).alarms ↔ e.hasKey (.station a) c = false := by
  rw [State.clearFrom, if_neg ha, alarms_withAlarms, mem_removeEntry, ne_eq, ← hasKey_iff, Bool.not_eq_true]
  exact and_iff_right he

/-- R41: an entry of another source stands unless that source is LOST or ABSENT. -/
theorem mem_clearLost (hsrc : e.source ≠ .station s.own) (he : e ∈ s.alarms) :
    e ∈ s.clearLost.alarms ↔ ∀ c, e.source = .station c → (s.peer c).state ≠ .lost ∧ (s.peer c).state ≠ .absent := by
  have hkept : e ∈ s.clearLost.alarms ↔ s.sourceGone e = false := by
    rw [State.clearLost, alarms_withAlarms, List.mem_filter, Bool.not_eq_true']
    exact and_iff_right he
  rw [hkept, State.sourceGone]
  cases hs : e.source with
  | unknown => simp
  | station c =>
    have hc : c ≠ s.own := fun h => hsrc (hs.trans (congrArg Source.station h))
    have hpeer : cell s.pt c = s.peer c := rfl
    simp [hc, hpeer]

/-- A notice applied adds no entry. -/
theorem length_applyNotice (s : State) (a : Fin 16) (n : Notice) : (s.applyNotice a n).alarms.length ≤ s.alarms.length := by
  cases n with
  | ack src c => exact (length_updateEntry _ _ _ _).le
  | ackAll => exact (List.length_map _).le
  | clear c =>
    show (s.clearFrom a c).alarms.length ≤ _
    unfold State.clearFrom
    split
    · exact le_rfl
    · exact List.length_filter_le _ _
  | clearLost => exact List.length_filter_le _ _
  | command action ps =>
    have halc : (s.applyNotice a (.command action ps)).alc = s.alc := (polesMoved_commandPoles action ps s).alc
    rw [State.alarms, halc, State.alarms]

/-- R161: a refresh leaves which records are LOST and which ABSENT. -/
theorem noticeTaken_gone (s : State) (a c : Fin 16) :
    (((s.noticeTaken a).peer c).state ≠ .lost ∧ ((s.noticeTaken a).peer c).state ≠ .absent) ↔
      (s.peer c).state ≠ .lost ∧ (s.peer c).state ≠ .absent := by
  have hpt : ((s.followFrame a).receiverTo .idle).pt = s.pt := by simp
  rw [State.noticeTaken, State.refreshPeer, peer_withPeer, peer_congr hpt, peer_congr hpt]
  by_cases hc : c = a
  · subst hc
    rw [if_pos rfl, refreshed_eq]
    cases h : (s.peer c).state <;> simp [h]
  · rw [if_neg hc]

/-- What a NOTICE heard leaves of an entry of another source, with a place free in the list. -/
theorem noticeHeard_foreign (hroom : s.alarms.length < 24) (ha : a ≠ s.own) (he : e ∈ s.alarms) (hsrc : e.source ≠ .station s.own) :
    match readNotice b with
    | some (.ack src c) =>
      (if e.hasKey src c ∧ e.state = .announced then { e with state := .acknowledged } else e) ∈
        ((s.hearNotice a b).finish s).alarms
    | some .ackAll =>
      (if e.state = .announced then { e with state := .acknowledged } else e) ∈ ((s.hearNotice a b).finish s).alarms
    | some (.clear c) => e ∈ ((s.hearNotice a b).finish s).alarms ↔ e.hasKey (.station a) c = false
    | some .clearLost =>
      (e ∈ ((s.hearNotice a b).finish s).alarms ↔
        ∀ c, e.source = .station c → (s.peer c).state ≠ .lost ∧ (s.peer c).state ≠ .absent)
    | _ => e ∈ ((s.hearNotice a b).finish s).alarms := by
  have htaken := noticeTaken_alarms s a
  have hown : (s.noticeTaken a).own = s.own := own_congr (noticeTaken_fields s a).1
  have hin : e ∈ (s.noticeTaken a).alarms := by rwa [htaken]
  have hlength : (s.hearNotice a b).alarms.length < 24 := by
    refine lt_of_le_of_lt ?_ hroom
    rw [← htaken]
    cases hn : readNotice b with
    | none => rw [hearNotice_none hn]
    | some n => rw [hearNotice_some hn]; exact length_applyNotice _ a n
  have huown : (s.hearNotice a b).own = s.own := own_congr (by simp)
  have hkeeps {x : AlarmEntry} (hx : x.source = e.source) (h : x ∈ (s.hearNotice a b).alarms) :
      x ∈ ((s.hearNotice a b).finish s).alarms :=
    mem_finishBut_of_room none s hlength (by rw [hx, huown]; exact hsrc) h
  have hsame : e ∈ ((s.hearNotice a b).finish s).alarms ↔ e ∈ (s.hearNotice a b).alarms :=
    ⟨mem_of_mem_finishBut none s (by rw [huown]; exact hsrc), hkeeps rfl⟩
  cases hn : readNotice b with
  | none =>
    rw [hearNotice_none hn] at hkeeps
    rw [hearNotice_none hn]
    exact hkeeps rfl hin
  | some n =>
    rw [hearNotice_some hn] at hkeeps hsame
    rw [hearNotice_some hn]
    cases n with
    | ack src c => exact hkeeps (by split <;> rfl) (mem_ackOne hin src c)
    | ackAll => exact hkeeps (by split <;> rfl) (mem_ackAll hin)
    | clear c => exact hsame.trans (mem_clearFrom (by rwa [hown]) hin c)
    | clearLost =>
      refine hsame.trans ((mem_clearLost (by rwa [hown]) hin).trans ?_)
      exact forall_congr' fun c => imp_congr_right fun _ => noticeTaken_gone s a c
    | command action ps =>
      refine hkeeps rfl ?_
      have halc : ((s.noticeTaken a).applyNotice a (.command action ps)).alc = (s.noticeTaken a).alc :=
        (polesMoved_commandPoles action ps _).alc
      rwa [State.alarms, halc]

/-- R37, R39: with a place for the raise of SENSOR_LOSS the end of an event leaves the unlisted flag. -/
theorem unlisted_finish {u : State} (h : SensorPlace u) (old : State) : (u.finish old).alc.unlisted = u.alc.unlisted := by
  refine (finishBut_alarms_keep (P := fun t => SensorPlace t ∧ t.alc.unlisted = u.alc.unlisted) none old
    (fun t v _ halc hcfs ht => ⟨ht.1.same halc hcfs, by rw [halc]; exact ht.2⟩)
    (fun t d ht => ⟨ht.1.raiseOwn d, (ht.1.raiseOwn_keeps d).2.trans ht.2⟩)
    (fun t c _ ht => ⟨ht.1.clearOwn c, ?_⟩) ⟨h, rfl⟩).2
  rw [← ht.2]
  unfold State.clearOwn State.placeInternal
  split
  · rfl
  · split <;> rfl

end Applied

section Own

variable {s : State} {a : Fin 16} {b : NoticeBody} {c : Cause} {e : AlarmEntry}

/-! ### Own entries acknowledged (R25, R26, R34, R38, R39, R42) -/

/-- Entries changed in place, those of an own cause by an acknowledgement. -/
theorem ownEntries_acknowledged {t : State} {f : AlarmEntry → AlarmEntry} (hown : t.own = s.own) (hl : t.alarms = s.alarms.map f)
    (hkey : ∀ e, (f e).key = e.key) (hf : ∀ e, e.hasKey (.station s.own) c = true → f e = e.acknowledge) :
    t.ownEntries c = (s.ownEntries c).map AlarmEntry.acknowledge := by
  have hp : (AlarmEntry.hasKey (.station s.own) c) ∘ f = AlarmEntry.hasKey (.station s.own) c := by
    funext e
    rw [Bool.eq_iff_iff, Function.comp, hasKey_iff, hasKey_iff, hkey]
  rw [State.ownEntries, State.ownEntries, hown, hl, List.filter_map, hp]
  exact List.map_congr_left fun e he => hf e (List.mem_filter.1 he).2

/-- A notice that acknowledges an own cause leaves the poles and the clearings to come. -/
theorem hearNotice_acknowledges (h : Acknowledges (readNotice b) c s) :
    (s.hearNotice a b).ownEntries c = (s.ownEntries c).map AlarmEntry.acknowledge ∧ (s.hearNotice a b).ps = s.joined.ps := by
  have htaken := noticeTaken_alarms s a
  have hown : (s.noticeTaken a).own = s.own := own_congr (noticeTaken_fields s a).1
  have hps : (s.noticeTaken a).ps = s.joined.ps := (noticeTaken_fields s a).2.2.2.2.1.trans (followFrame_joined s a).1
  rcases h with h | h
  · rw [hearNotice_some h]
    refine ⟨ownEntries_acknowledged (f := AlarmEntry.acknowledge) hown ?_ key_acknowledge fun _ _ => rfl, hps⟩
    rw [← htaken]
    rfl
  · rw [hearNotice_some h]
    refine ⟨ownEntries_acknowledged (f := fun e => if e.hasKey (.station s.own) c then e.acknowledge else e) hown ?_ (fun e => ?_)
      fun e he => if_pos he, hps⟩
    · rw [← htaken]
      rfl
    · split
      · exact key_acknowledge e
      · rfl

/-- The queue, the holding place and the stop inputs stand through the frame. -/
theorem hearNotice_kept (s : State) (a : Fin 16) (b : NoticeBody) :
    (s.hearNotice a b).rsq.queue = s.rsq.queue ∧ (s.hearNotice a b).rsq.holding = s.rsq.holding ∧
      (s.hearNotice a b).activeStops = s.activeStops ∧ (s.hearNotice a b).own = s.own ∧
      (s.hearNotice a b).role = s.role := by
  rw [hearNotice_rsq]
  exact ⟨(followFrame_notices s a).1, (followFrame_notices s a).2, activeStops_congr (by simp) (by simp), own_congr (by simp),
    role_congr (by simp)⟩

theorem acknowledge_state (h : e.state ≠ .pending) : e.acknowledge.state = .acknowledged := by
  unfold AlarmEntry.acknowledge
  cases hs : e.state with
  | announced => rfl
  | acknowledged => simpa using hs
  | pending => exact absurd hs h

/-- R25, R26, R34, R42: an own entry acknowledged whose reason is gone is removed, and its CLEAR queued. -/
theorem noticeHeard_cleared (hm : (s.hearNotice a b).rsq.mode ≠ .config) (h : Acknowledges (readNotice b) c s)
    (he : e ∈ s.ownEntries c) (hs : e.state ≠ .pending) (hgone : ReasonGone c s) :
    ((s.hearNotice a b).finish s).ownListed c = false ∧
      (s.rsq.queue.length + 4 ≤ 8 → s.rsq.holding = none → .clear c ∈ ((s.hearNotice a b).finish s).rsq.queue) := by
  obtain ⟨hentries, hps⟩ := hearNotice_acknowledges (a := a) h
  obtain ⟨hqueue, hholding, hstops, hown, hrole⟩ := hearNotice_kept s a b
  have hiou : (s.hearNotice a b).iou = s.iou := by simp
  have hack : (s.hearNotice a b).ownAcknowledged c = true := by
    rw [ownAcknowledged_eq, hentries]
    exact List.any_eq_true.2 ⟨_, List.mem_map.2 ⟨e, he, rfl⟩, beq_iff_eq.2 (acknowledge_state hs)⟩
  have hpoles (hp : s.role = .pole ∧ s.ps.supervising = true) :
      ((s.hearNotice a b).role = .pole ∧ (s.hearNotice a b).ps.supervising = true) ∧ (s.hearNotice a b).ps = s.ps := by
    have hsame := hps.trans (joined_ps_of_supervising hp.2)
    rw [hrole, hsame]
    exact ⟨hp, rfl⟩
  have hkeptPole (x : PoleId) (hsame : (s.hearNotice a b).ps = s.ps) : (s.hearNotice a b).pole x = s.pole x := pole_congr hsame x
  have hgone' : ReasonGone c (s.hearNotice a b) ∧ (c ≠ .deskStop → (s.hearNotice a b).ps = s.ps) := by
    cases c with
    | poleDropP =>
      obtain ⟨hp, hstate⟩ := hgone
      exact ⟨⟨(hpoles hp).1, by rw [hkeptPole _ (hpoles hp).2]; exact hstate⟩, fun _ => (hpoles hp).2⟩
    | poleDropN =>
      obtain ⟨hp, hstate⟩ := hgone
      exact ⟨⟨(hpoles hp).1, by rw [hkeptPole _ (hpoles hp).2]; exact hstate⟩, fun _ => (hpoles hp).2⟩
    | sensorLoss =>
      obtain ⟨hp, hfresh⟩ := hgone
      exact ⟨⟨(hpoles hp).1, by rwa [fresh_congr hiou, fresh_congr hiou, fresh_congr hiou]⟩, fun _ => (hpoles hp).2⟩
    | deskStop => exact ⟨hstops.trans hgone, fun hc => absurd rfl hc⟩
    | lineLoss => exact absurd hgone id
    | unclaimed => exact absurd hgone id
  have hcleared := acknowledged_cleared (old := s) hm hgone'.1 (fun hc => ⟨hgone'.2 hc, by rw [hiou]⟩) hack
  rw [hqueue, hholding] at hcleared
  exact ⟨hcleared.gone, fun hlen hnone => hcleared.queued ⟨hlen, hnone⟩⟩

/-- An own LINE_LOSS or DESK_STOP entry that is PENDING, or whose reason holds, is kept. -/
theorem noticeHeard_kept (hm : (s.hearNotice a b).rsq.mode ≠ .config) (h : Acknowledges (readNotice b) c s) (hk : ListKept s)
    (he : e ∈ s.ownEntries c) (hc : c = .lineLoss ∨ c = .deskStop) (hs : e.state = .pending ∨ ¬ReasonGone c s) :
    e.acknowledge ∈ ((s.hearNotice a b).finish s).alarms := by
  obtain ⟨hentries, -⟩ := hearNotice_acknowledges (a := a) h
  obtain ⟨-, -, hstops, hown, -⟩ := hearNotice_kept s a b
  have hstop : c = .deskStop → ((s.hearNotice a b).ownAcknowledged .deskStop && (s.hearNotice a b).activeStops == 0) = false := by
    rintro rfl
    rcases hs with hs | hs
    · rw [Bool.and_eq_false_iff]
      left
      rw [ownAcknowledged_eq, hentries, List.any_eq_false]
      intro x hx
      obtain ⟨y, hy, rfl⟩ := List.mem_map.1 hx
      obtain ⟨hye, hykey⟩ := mem_ownEntries.1 hy
      obtain ⟨hee, hekey⟩ := mem_ownEntries.1 he
      have hsame : y = e :=
        List.inj_on_of_nodup_map hk.2 hye hee (((hasKey_iff _ _ _).1 hykey).trans ((hasKey_iff _ _ _).1 hekey).symm)
      rw [hsame, AlarmEntry.acknowledge, if_neg (by rw [hs]; decide), hs]
      decide
    · rw [hstops, beq_eq_false_iff_ne.2 hs, Bool.and_false]
  refine (mem_ownEntries (c := c)).1 ?_ |>.1
  rw [ownEntries_finish hm hc hstop, hentries]
  exact List.mem_map.2 ⟨e, he, rfl⟩

end Own

section NoticeFrame

/-! ### Commands heard, and the whole frame (R5 to R7, R118, R122; O50) -/

variable {s : State} {a : Fin 16} {b : NoticeBody}

theorem noticeHeard_commanded (hm : s.rsq.mode ≠ .config) (hp : s.role = .pole) {action : PoleAction} {ps : PoleSel}
    (h : readNotice b = some (.command action ps)) : Commanded action ps s.joined ((s.hearNotice a b).finish s) := by
  obtain ⟨hcfs, halc, hiou, hrsq, hps, -⟩ := noticeTaken_fields s a
  obtain ⟨jps, jmode⟩ := followFrame_joined s a
  obtain ⟨-, hmode, -⟩ := followFrame_spec a hm
  have hmoved := polesMoved_commandPoles action ps (s.noticeTaken a)
  have hstays : s.rsq.mode = .run → (s.followFrame a).rsq.mode = .run := fun hrun => by rw [hmode, hrun]; rfl
  have hstop : ((s.noticeTaken a).commandPoles action ps).newStop s = false := newStop_of_alc (hmoved.alc.trans halc)
  have hkept : ((s.noticeTaken a).commandPoles action ps).abandons s = false := by
    rw [State.abandons, hstop, hmoved.rsq, hrsq]
    by_cases hrun : s.rsq.mode = .run <;> simp [hrun, hstays]
  have hjoined : (s.followFrame a).rsq.mode ≠ .config := by
    rw [hmode]
    split <;> simp [hm]
  rw [hearNotice_some h]
  have hcommanded : Commanded action ps (s.noticeTaken a) (((s.noticeTaken a).commandPoles action ps).finish s) :=
    commanded_finish action ps (by rw [hrsq]; exact hjoined) ((role_congr hcfs).trans hp) hkept
  refine hcommanded.congr ?_ ?_ (hps.trans jps).symm ?_ ?_ rfl
  · rw [hcfs, State.joined]
    split <;> rfl
  · rw [hrsq, jmode]
  · rw [halc, State.joined]
    split <;> rfl
  · rw [hiou, State.joined]
    split <;> rfl

/-- In another role than POLE a NOTICE leaves the poles. -/
theorem noticeHeard_ps_of_not_pole (hp : s.role ≠ .pole) : ((s.hearNotice a b).finish s).ps = s.ps := by
  obtain ⟨-, -, -, -, hrole⟩ := hearNotice_kept s a b
  have htaken : (s.noticeTaken a).ps = s.ps :=
    (noticeTaken_fields s a).2.2.2.2.1.trans ((followFrame_joined s a).1.trans (joined_ps_of_not_pole hp))
  refine (finishBut_ps_of_not none s fun hx => hp (hrole.symm.trans hx.2.1)).trans ?_
  cases hn : readNotice b with
  | none => rw [hearNotice_none hn, htaken]
  | some n =>
    rw [hearNotice_some hn]
    refine Eq.trans ?_ htaken
    cases n with
    | ack src c => rfl
    | ackAll => rfl
    | clear c => exact (clearFrom_frame _ a c).2.2.2.2.2.1
    | clearLost => rfl
    | command action ps =>
      have hrole' : (s.noticeTaken a).role ≠ .pole := by rwa [role_congr (noticeTaken_fields s a).1]
      exact congrArg State.ps (if_neg hrole')

/-- Settles O50: the record is `refreshed_eq`, the rounds are `followFrame_finish`, entries of other sources are
`noticeHeard_foreign` and own ones `noticeHeard_cleared` and `noticeHeard_kept`. -/
theorem noticeHeard : Obligations.NoticeHeard := by
  refine ⟨fun s a b h => exec_of_no_body rfl (if_neg (by simp [not_receives h])), fun s a b hh hr hpre ha => ?_⟩
  have hb : s.body (.noticeReceived a b) = some (s.hearNotice a b) := if_pos (by simp [(receives_iff s a _).2 ⟨hh, hr, hpre⟩, ha])
  obtain ⟨hmode, -, -, -⟩ := (hears_iff s).1 hh
  have hpeer (c : Fin 16) : ((s.hearNotice a b).finish s).peer c = if c = a then (s.peer a).refreshed else s.peer c :=
    (peer_congr (by simp) c).trans (hearNotice_peer s a c b)
  obtain ⟨hrounds, hto, hresync, hidle⟩ := followFrame_finish a hmode (u := s.hearNotice a b) (.of_rsq (hearNotice_rsq s a b)) s
  have hm : (s.hearNotice a b).rsq.mode ≠ .config := by
    rw [← (finish_rounds (s.hearNotice a b) s).1, hto]
    split <;> simp [hmode]
  refine ⟨_, exec_of_body hb, ?_, fun c hc => ?_, hrounds, hto, fun hl => ⟨hidle hl, by rw [hresync, if_pos (.inl hl)]⟩,
    fun hroom e he hsrc => noticeHeard_foreign hroom ha he hsrc, fun hn hroom => ?_, fun action ps hn => ?_,
    fun _ hp => noticeHeard_ps_of_not_pole hp, fun c hack hk e he hkey => ⟨fun hs hgone => ?_, fun hc hs _ => ?_⟩⟩
  · rw [hpeer, if_pos rfl]
    exact refreshed_eq _
  · rw [hpeer, if_neg (Ne.symm hc)]
  · have hlength : (s.hearNotice a b).alarms.length < 24 := by
      rw [hearNotice_some hn]
      exact lt_of_le_of_lt (length_applyNotice _ a _) (by rwa [noticeTaken_alarms])
    rw [unlisted_finish ⟨.inr hlength, hlength.le⟩, hearNotice_some hn]
    rfl
  · split
    next hp => exact noticeHeard_commanded hmode hp hn
    next hp => exact noticeHeard_ps_of_not_pole hp
  · exact noticeHeard_cleared hm hack (mem_ownEntries.2 ⟨he, hkey⟩) hs hgone
  · exact noticeHeard_kept hm hack hk (mem_ownEntries.2 ⟨he, hkey⟩) hc hs

end NoticeFrame

end Machine
end Sys2Proof

/-!
PROOFS. An ALARM of another station heard, and any frame that bears the own address (R35, R37, R48, R127, R134, R142, R162;
O51).
-/

namespace Sys2Proof
namespace Machine

section Learned

variable {s : State} {a : Fin 16} {m : Byte} {d : Option SensorDetail} {b c : Cause} {e : AlarmEntry}

/-! ### The causes of an ALARM frame listed (R35, R37) -/

/-- R35: one cause of a valid ALARM frame, where its set names it. -/
def State.learnIfSet (a : Fin 16) (m : Byte) (d : Option SensorDetail) (s : State) (c : Cause) : State :=
  if inCauseSet m c then s.learnAlarm a d c else s

theorem learnAlarms_eq (s : State) (a : Fin 16) (m : Byte) (d : Option SensorDetail) :
    s.learnAlarms a m d = setCauses.foldl (State.learnIfSet a m d) s := rfl

/-- A cause learned leaves every entry of another key. -/
theorem mem_learnIfSet (he : e ∈ s.alarms) (hkey : e.key ≠ (.station a, c)) : e ∈ (s.learnIfSet a m d c).alarms := by
  unfold State.learnIfSet State.learnAlarm
  dsimp only
  split
  · split
    · refine List.mem_map.2 ⟨e, he, if_neg ?_⟩
      rw [hasKey_iff]
      exact hkey
    · exact mem_placeEntry he _
  · exact he

/-- A cause learned lists no other key. -/
theorem listed_learnIfSet (h : b ≠ c) (s : State) :
    (s.learnIfSet a m d c).listed (.station a) b = s.listed (.station a) b := by
  rw [Bool.eq_iff_iff]
  constructor <;> intro hl <;> obtain ⟨e, he, hk⟩ := List.any_eq_true.1 hl
  · unfold State.learnIfSet State.learnAlarm at he
    dsimp only at he
    have hkey : e.key = (.station a, b) := (hasKey_iff _ _ _).1 hk
    split at he
    · split at he
      · obtain ⟨x, hx, hxe⟩ := List.mem_map.1 he
        have hkx : x.key = (.station a, b) := by
          rw [← hkey, ← hxe]
          split
          · rw [key_repeated]
          · rfl
        exact List.any_eq_true.2 ⟨x, hx, (hasKey_iff _ _ _).2 hkx⟩
      · rcases mem_of_mem_placeEntry he with he | rfl
        · exact List.any_eq_true.2 ⟨e, he, hk⟩
        · exact absurd (congrArg Prod.snd hkey).symm h
    · exact List.any_eq_true.2 ⟨e, he, hk⟩
  · refine List.any_eq_true.2 ⟨e, mem_learnIfSet he fun hc => h ?_, hk⟩
    exact congrArg Prod.snd (((hasKey_iff _ _ _).1 hk).symm.trans hc)

theorem length_learnIfSet (s : State) (a : Fin 16) (m : Byte) (d : Option SensorDetail) (c : Cause) :
    s.alarms.length ≤ (s.learnIfSet a m d c).alarms.length ∧ (s.learnIfSet a m d c).alarms.length ≤ s.alarms.length + 1 := by
  unfold State.learnIfSet State.learnAlarm
  dsimp only
  split
  · split
    · rw [alarms_withAlarms, length_updateEntry]
      exact ⟨le_rfl, Nat.le_succ _⟩
    · refine ⟨?_, length_placeEntry s _⟩
      unfold State.placeEntry
      split
      · simp [State.withAlarms, State.alarms]
      · exact le_rfl
  · exact ⟨le_rfl, Nat.le_succ _⟩

theorem mem_foldl_learnIfSet (cs : List Cause) (he : e ∈ s.alarms) (hkey : ∀ c ∈ cs, e.key ≠ (.station a, c)) :
    e ∈ (cs.foldl (State.learnIfSet a m d) s).alarms := by
  induction cs generalizing s with
  | nil => exact he
  | cons c cs ih => exact ih (mem_learnIfSet he (hkey c (by simp))) fun b hb => hkey b (by simp [hb])

/-- The entry that an ALARM leaves for a cause it names: one listed before is repeated, a new one is the frame's. -/
def Learned (a : Fin 16) (d : Option SensorDetail) (c : Cause) (s : State) (e : AlarmEntry) : Prop :=
  e.hasKey (.station a) c = true ∧ e.state = .announced ∧ e.age = 0 ∧
    (s.listed (.station a) c = false →
      e.learnedBy = .alarmFrame ∧ e.repeats = 0 ∧ e.detail = if c = .sensorLoss then d else none)

/-- With a place free a cause of the set is listed. -/
theorem learnIfSet_learns (hroom : s.alarms.length < 24) (hset : inCauseSet m c = true) :
    ∃ e ∈ (s.learnIfSet a m d c).alarms, Learned a d c s e := by
  rw [State.learnIfSet, if_pos hset]
  unfold State.learnAlarm
  dsimp only
  by_cases hl : s.listed (.station a) c = true
  · rw [if_pos hl]
    obtain ⟨x, hx, hk⟩ := List.any_eq_true.1 hl
    refine ⟨x.repeated .announced (if c = .sensorLoss then d else none), List.mem_map.2 ⟨x, hx, if_pos hk⟩, ?_, rfl, rfl, ?_⟩
    · rw [hasKey_iff, key_repeated]
      exact (hasKey_iff _ _ _).1 hk
    · rw [hl]
      exact fun h => absurd h (by decide)
  · rw [if_neg hl, State.placeEntry, if_pos (show s.alarms.length < Figures.alarmCapacity from hroom)]
    refine ⟨_, List.mem_append_right _ (List.mem_singleton.2 rfl), ?_, rfl, rfl, fun _ => ⟨rfl, rfl, rfl⟩⟩
    rw [hasKey_iff, key_newEntry]

theorem foldl_learnIfSet_learns (cs : List Cause) (hnodup : cs.Nodup) (hroom : s.alarms.length + cs.length ≤ 24) (hc : c ∈ cs)
    (hset : inCauseSet m c = true) : ∃ e ∈ (cs.foldl (State.learnIfSet a m d) s).alarms, Learned a d c s e := by
  induction cs generalizing s with
  | nil => cases hc
  | cons x xs ih =>
    rw [List.length_cons] at hroom
    obtain ⟨hx, hxs⟩ := List.nodup_cons.1 hnodup
    rw [List.foldl_cons]
    by_cases hcx : c = x
    · subst hcx
      obtain ⟨e, he, hlearned⟩ := learnIfSet_learns (a := a) (d := d) (s := s) (by omega) hset
      refine ⟨e, mem_foldl_learnIfSet xs he fun y hy hkey => hx ?_, hlearned⟩
      have hyc : y = c := congrArg Prod.snd (hkey.symm.trans ((hasKey_iff _ _ _).1 hlearned.1))
      rwa [← hyc]
    · have hlength := (length_learnIfSet s a m d x).2
      obtain ⟨e, he, hlearned⟩ := ih (s := s.learnIfSet a m d x) hxs (by omega) (List.mem_of_ne_of_mem hcx hc)
      rw [Learned, listed_learnIfSet hcx] at hlearned
      exact ⟨e, he, hlearned⟩

/-- R37: the unlisted flag, once set, stands through a turn; a turn that has no place for its cause sets it. -/
theorem unlisted_learnIfSet (h : s.alc.unlisted = true) (c : Cause) : (s.learnIfSet a m d c).alc.unlisted = true := by
  unfold State.learnIfSet State.learnAlarm State.placeEntry
  dsimp only
  split
  · split
    · exact h
    · split
      · exact h
      · rfl
  · exact h

theorem foldl_learnIfSet_unlisted (cs : List Cause) (hfull : 24 ≤ s.alarms.length) (hc : c ∈ cs) (hset : inCauseSet m c = true)
    (hnew : s.listed (.station a) c = false) : (cs.foldl (State.learnIfSet a m d) s).alc.unlisted = true := by
  induction cs generalizing s with
  | nil => cases hc
  | cons x xs ih =>
    rw [List.foldl_cons]
    by_cases hcx : c = x
    · subst hcx
      refine foldl_keeps (fun t : State => t.alc.unlisted = true) _ (fun t y ht => unlisted_learnIfSet ht y) xs _ ?_
      have hcap : ¬s.alarms.length < Figures.alarmCapacity := not_lt.2 hfull
      rw [State.learnIfSet, if_pos hset]
      unfold State.learnAlarm
      dsimp only
      rw [hnew, if_neg (by decide), State.placeEntry, if_neg hcap]
      rfl
    · exact ih (hfull.trans (length_learnIfSet s a m d x).1) (List.mem_of_ne_of_mem hcx hc)
        ((listed_learnIfSet hcx s).trans hnew)

theorem length_foldl_learnIfSet (a : Fin 16) (m : Byte) (d : Option SensorDetail) (cs : List Cause) (s : State) :
    (cs.foldl (State.learnIfSet a m d) s).alarms.length ≤ s.alarms.length + cs.length := by
  induction cs generalizing s with
  | nil => exact le_rfl
  | cons c cs ih =>
    have h1 := ih (s.learnIfSet a m d c)
    have h2 := (length_learnIfSet s a m d c).2
    simp only [List.foldl_cons, List.length_cons]
    omega

theorem windowClaimed_learnAlarms (s : State) (a : Fin 16) (m : Byte) (d : Option SensorDetail) :
    (s.learnAlarms a m d).alc.windowClaimed = s.alc.windowClaimed := by
  rw [learnAlarms_eq]
  refine foldl_keeps (fun t : State => t.alc.windowClaimed = s.alc.windowClaimed) _ (fun t c ht => ?_) setCauses s rfl
  unfold State.learnIfSet State.learnAlarm State.placeEntry
  dsimp only
  split
  · split
    · exact ht
    · split <;> exact ht
  · exact ht

/-- The end of an event leaves a set unlisted flag set. -/
theorem unlisted_finish_of_set {u : State} (h : u.alc.unlisted = true) (old : State) : (u.finish old).alc.unlisted = true := by
  refine finishBut_alarms_keep (P := fun t => t.alc.unlisted = true) none old (fun t v _ halc _ ht => by rw [halc]; exact ht)
    (fun t x ht => ?_) (fun t c _ ht => ?_) h
  · unfold State.raiseOwn
    dsimp only
    split
    · exact ht
    · split
      · exact ht
      · split <;> rfl
  · unfold State.clearOwn State.placeInternal
    split
    · exact ht
    · split <;> exact ht

end Learned

section AlarmFrame

variable {s : State}

/-- Settles the ALARM part of O51 (R35, R37, R48, R127, R162). -/
theorem alarmReceived_ends (a : Fin 16) (b : AlarmBody) (hr : s.receives a (.alarm b) = true) (ha : a ≠ s.own) :
    ∃ t, exec (.alarmReceived a b) s = .next t ∧
      (s.alarms.length + 6 ≤ 24 → ∀ c ∈ setCauses, inCauseSet b.causes c = true →
        ∃ e ∈ t.alarms, Learned a (detailOfCode b.detail.toNat) c s e) ∧
      (24 ≤ s.alarms.length → ∀ c ∈ setCauses, inCauseSet b.causes c = true → s.listed (.station a) c = false →
        t.alc.unlisted = true) ∧
      t.alc.windowClaimed = (decide (s.rsq.phase = .window) || s.alc.windowClaimed) ∧ t.pt = s.pt ∧
      t.rsq.mode = s.rsq.mode ∧ t.rsq.slotCounter = s.rsq.slotCounter ∧ t.rsq.phase = s.rsq.phase ∧
      t.rsq.resyncCount = s.rsq.resyncCount := by
  have hb : s.body (.alarmReceived a b) = some (s.hearAlarm a b) := if_pos (by simp [hr, ha])
  set w := (s.receiverTo .idle).restartIdle with hw
  set v := w.claimHeard with hv
  set u := s.hearAlarm a b with hu
  have huv : u = v.learnAlarms a b.causes (detailOfCode b.detail.toNat) := rfl
  obtain ⟨calarms, cclaimed, -, crsq, -⟩ := claimHeard_spec w
  have hwalc : w.alc = s.alc := by simp [hw]
  have hwrsq : w.rsq = { s.rsq with idleCount := s.rsq.idleCount.map fun _ => 0 } := by
    rw [hw, ← receiverTo_rsq s .idle]
    rfl
  have halarms : v.alarms = s.alarms := calarms.trans (congrArg AlarmController.entries hwalc)
  have hlisted (c : Cause) : v.listed (.station a) c = s.listed (.station a) c := by rw [State.listed, halarms, State.listed]
  have hursq : u.rsq = w.rsq := by
    rw [← crsq, ← hv, huv]
    simp
  have hown : u.own = s.own := own_congr (by simp [hu])
  have hforeign : Source.station a ≠ .station u.own := by simpa [hown] using ha
  have hlength : s.alarms.length + 6 ≤ 24 → u.alarms.length < 24 := fun hroom => by
    have h := length_foldl_learnIfSet a b.causes (detailOfCode b.detail.toNat) setCauses v
    have hfive : setCauses.length = 5 := rfl
    rw [← learnAlarms_eq, ← huv, halarms] at h
    omega
  refine ⟨_, exec_of_body hb, fun hroom c hc hset => ?_, fun hfull c hc hset hnew => ?_, ?_, by simp [hu], ?_, ?_, ?_, ?_⟩
  · obtain ⟨e, he, hlearned⟩ := foldl_learnIfSet_learns (a := a) (m := b.causes) (d := detailOfCode b.detail.toNat) (s := v)
      setCauses (by decide) (by rw [halarms]; exact (Nat.add_le_add_left (by decide) _).trans hroom) hc hset
    rw [Learned, hlisted] at hlearned
    have hsrc : e.source = .station a := congrArg Prod.fst ((hasKey_iff _ _ _).1 hlearned.1)
    exact ⟨e, mem_finishBut_of_room none s (hlength hroom) (by rw [hsrc]; exact hforeign) he, hlearned⟩
  · refine unlisted_finish_of_set ?_ s
    exact foldl_learnIfSet_unlisted setCauses (by rwa [halarms]) hc hset ((hlisted c).trans hnew)
  · refine (finishBut_holds none u s).2.2.trans ?_
    rw [huv, windowClaimed_learnAlarms, cclaimed, hwrsq, hwalc]
  · rw [(finish_rounds u s).1, hursq, hwrsq]
  · rw [(finish_rounds u s).2.2.2.1, hursq, hwrsq]
  · rw [(finish_rounds u s).2.2.1, hursq, hwrsq]
  · rw [(finish_rounds u s).2.2.2.2.2.1, hursq, hwrsq]

end AlarmFrame

section Duplicate

variable {s u old : State}

/-! ### Frames of the own address (R10, R134) -/

/-- R10: a RAISING pole is lowered as its station leaves RUN. -/
theorem finish_pole_abandoned (hm : u.rsq.mode ≠ .config) (hp : u.role = .pole) (hs : u.ps.supervising = true)
    (ha : u.abandons old = true) {x : PoleId} (hx : (u.pole x).state = .raising) :
    ((u.finish old).pole x).state = .lowering ∨ ((u.finish old).pole x).state = .stowed := by
  have habandoned : u.abandonedPole old x = (u.pole x).lowered (u.stowedClosed x) := if_pos (by simp [ha, hx])
  have hplaced : u.placedPole old x = (u.pole x).lowered (u.stowedClosed x) := by
    rw [State.placedPole, habandoned, State.settledPole, if_neg]
    simp [(lowered_state _ _).2]
  have hdown : ((u.pole x).lowered (u.stowedClosed x)).isQualifying = false := by simp [Pole.isQualifying, lowered_state]
  rw [finish_pole hm hp hs, State.endPole, hplaced, Pole.waited, hdown]
  cases u.stowedClosed x with
  | true => exact .inr rfl
  | false => exact .inl rfl

/-- R134: what a frame of the own address makes of the station that is not muted for it. -/
def State.dupFollowed (body : FrameBody) (s : State) : State := s.muteDuplicate.followDuplicate body s.rsq.mode

theorem dupFollowed_rsq (s : State) (body : FrameBody) :
    (s.dupFollowed body).rsq.mode = .mute ∧ (s.dupFollowed body).rsq.muteCause = .duplicate ∧
      (s.dupFollowed body).rsq.muteTimer = none := by
  have hresync (v : State) (n : Nat) : (v.countResync n).rsq.mode = v.rsq.mode ∧
      (v.countResync n).rsq.muteCause = v.rsq.muteCause ∧ (v.countResync n).rsq.muteTimer = v.rsq.muteTimer := by
    rw [countResync_rsq]
    exact ⟨rfl, rfl, rfl⟩
  unfold State.dupFollowed
  rcases followDuplicate_cases s.muteDuplicate body s.rsq.mode with h | h | h | ⟨-, h⟩ <;> rw [h]
  · exact ⟨rfl, rfl, rfl⟩
  · rw [passSlot_rounds]
    exact ⟨rfl, rfl, rfl⟩
  · rw [passSlot_rounds]
    exact hresync s.muteDuplicate _
  · exact ⟨rfl, rfl, rfl⟩

/-- R48: an ALARM frame met while a window runs. -/
def alarmIn (body : FrameBody) (window : Bool) : Bool := match body with | .alarm _ => window | _ => false

/-- R48: the claim of a window by an ALARM frame of the own address. -/
def State.dupClaimed (body : FrameBody) (s : State) : State := match body with | .alarm _ => s.claimHeard | _ => s

theorem dupClaimed_spec (s : State) (body : FrameBody) :
    (s.dupClaimed body).alc = { s.alc with windowClaimed := (s.dupClaimed body).alc.windowClaimed } ∧
      (s.dupClaimed body).alc.windowClaimed =
        (alarmIn body (decide (s.rsq.phase = .window)) || s.alc.windowClaimed) ∧
      (s.dupClaimed body).li = s.li ∧ (s.dupClaimed body).rsq = s.rsq ∧ (s.dupClaimed body).ps = s.ps ∧
      (s.dupClaimed body).iou = s.iou ∧ (s.dupClaimed body).pt = s.pt ∧ (s.dupClaimed body).cfs = s.cfs ∧
      (s.dupClaimed body).ca = s.ca ∧ (s.dupClaimed body).ll = s.ll := by
  have hclaim : s.claimHeard.alc = { s.alc with windowClaimed := s.claimHeard.alc.windowClaimed } := by
    unfold State.claimHeard
    split <;> rfl
  obtain ⟨-, hclaimed, hli, hrsq, hps, hiou, hpt⟩ := claimHeard_spec s
  cases body with
  | alarm b => exact ⟨hclaim, hclaimed, hli, hrsq, hps, hiou, hpt, by simp [State.dupClaimed], by simp [State.dupClaimed],
      by simp [State.dupClaimed]⟩
  | status b => exact ⟨rfl, rfl, rfl, rfl, rfl, rfl, rfl, rfl, rfl, rfl⟩
  | notice b => exact ⟨rfl, rfl, rfl, rfl, rfl, rfl, rfl, rfl, rfl, rfl⟩

theorem hearDuplicate_eq (s : State) (body : FrameBody) :
    s.hearDuplicate body = ((if s.rsq.muteCause = .duplicate then s else s.dupFollowed body).receiverTo .idle).dupClaimed body := by
  cases body <;> rfl

/-- Settles the part of O51 on a station not yet muted for the own address (R10, R134). -/
theorem duplicate_mutes (body : FrameBody) (hr : s.receives s.own body = true) (hmute : s.rsq.muteCause ≠ .duplicate) :
    ∃ t, exec (.duplicateAddress body) s = .next t ∧ t.rsq.mode = .mute ∧ t.rsq.muteCause = .duplicate ∧
      t.rsq.muteTimer = none ∧ t.ca.allowance = 0 ∧ t.pt = s.pt ∧ t.sl.summary.mode = true ∧
      t.li.driver = .released ∧
      ∀ x, s.role = .pole → s.ps.supervising = true → s.rsq.mode = .run → (s.pole x).state = .raising →
        (t.pole x).state = .lowering ∨ (t.pole x).state = .stowed := by
  have hb : s.body (.duplicateAddress body) = some (s.hearDuplicate body) := if_pos hr
  obtain ⟨hh, -, -⟩ := (receives_iff s _ _).1 hr
  obtain ⟨-, hdriver, -, -⟩ := (hears_iff s).1 hh
  set u := s.hearDuplicate body with hu
  set w := (s.dupFollowed body).receiverTo .idle with hw
  have huw : u = w.dupClaimed body := by rw [hu, hearDuplicate_eq, if_neg hmute]
  obtain ⟨-, -, uli, ursq, -⟩ := dupClaimed_spec w body
  obtain ⟨hmode, hcause, htimer⟩ := dupFollowed_rsq s body
  have hursq : u.rsq = (s.dupFollowed body).rsq := by rw [huw, ursq, hw, receiverTo_rsq]
  have humode : u.rsq.mode = .mute := by rw [hursq, hmode]
  have hucause : u.rsq.muteCause = .duplicate := by rw [hursq, hcause]
  have hm : u.rsq.mode ≠ .config := by rw [humode]; decide
  have hps : u.ps = s.ps := by simp [hu]
  have hli : (u.finish s).li = u.li := (finish_line_of_not s (.inl (by rw [humode]; decide))).1
  refine ⟨_, exec_of_body hb, by simp [humode], by simp [hucause], by simp [hursq, htimer], ?_, by simp [hu], ?_, ?_,
    fun x hp hs hrun hx => ?_⟩
  · refine (currentEnd_finish s hm).allowance.trans (if_neg ?_)
    rw [humode]
    decide
  · have hchanged : (changedTopics none s (u.finish s)).mode = true := by
      have hne : (s.rsq.muteCause != (u.finish s).rsq.muteCause) = true := by
        rw [(finish_rounds u s).2.1, hucause]
        exact bne_iff_ne.2 hmute
      rw [changedTopics, hne, Bool.or_true]
    rw [finish_summary, Topics.union, hchanged, Bool.or_true]
  · rw [hli, huw, uli, hw, receiverTo_li]
    show (s.dupFollowed body).li.driver = .released
    rw [← hdriver, State.dupFollowed]
    simp
  · refine finish_pole_abandoned hm ((role_congr (by simp [hu])).trans hp) (by rw [hps]; exact hs) ?_ (by rwa [pole_congr hps])
    rw [State.abandons, humode, hrun]
    simp

/-- Settles the part of O51 on a station already muted for the own address (R48, R134, R142). -/
theorem duplicate_again (body : FrameBody) (hr : s.receives s.own body = true) (hmode : s.rsq.mode = .mute)
    (hmute : s.rsq.muteCause = .duplicate) :
    ∃ t, exec (.duplicateAddress body) s = .next t ∧ t.rsq.mode = .mute ∧ t.rsq.muteCause = .duplicate ∧
      t.rsq.slotCounter = s.rsq.slotCounter ∧ t.rsq.phase = s.rsq.phase ∧ t.rsq.resyncCount = s.rsq.resyncCount ∧
      t.pt = s.pt ∧
      t.li =
        { s.li with
          receiver := .idle, reception := [], expected := none, startSlot := none, dominantRun := 0
          restarted := false } ∧
      t.alc.windowClaimed =
        (alarmIn body (decide (s.rsq.phase = .window)) || s.alc.windowClaimed) ∧
      (Settled s → t.rsq = s.rsq ∧ t.ps = s.ps ∧ t.alc.entries = s.alc.entries ∧ t.ca = s.ca ∧ t.ll = s.ll) := by
  have hb : s.body (.duplicateAddress body) = some (s.hearDuplicate body) := if_pos hr
  set u := s.hearDuplicate body with hu
  set w := s.receiverTo .idle with hw
  have huw : u = w.dupClaimed body := by rw [hu, hearDuplicate_eq, if_pos hmute]
  obtain ⟨ualc, uclaimed, uli, ursq, ups, uiou, upt, ucfs, uca, ull⟩ := dupClaimed_spec w body
  rw [← huw] at ualc uclaimed uli ursq ups uiou upt ucfs uca ull
  have hwframe : w.alc = s.alc ∧ w.ps = s.ps ∧ w.iou = s.iou ∧ w.pt = s.pt ∧ w.cfs = s.cfs ∧ w.ca = s.ca ∧ w.ll = s.ll := by
    simp [hw]
  obtain ⟨walc, wps, wiou, wpt, wcfs, wca, wll⟩ := hwframe
  have hrsq : u.rsq = s.rsq := ursq.trans (receiverTo_rsq s .idle)
  have hm : s.rsq.mode ≠ .config := by rw [hmode]; decide
  have hli : u.li =
      { s.li with
        receiver := .idle, reception := [], expected := none, startSlot := none, dominantRun := 0, restarted := false } := by
    rw [uli, hw, receiverTo_li]
    rfl
  refine ⟨_, exec_of_body hb, by simp [hrsq, hmode], by simp [hrsq, hmute], by simp [hrsq], by simp [hrsq], by simp [hrsq],
    by simp [hu], ?_, ?_, fun hsettled => ?_⟩
  · exact (finish_line_of_not s (.inl (by rw [hrsq, hmode]; decide))).1.trans hli
  · rw [walc, show w.rsq = s.rsq from receiverTo_rsq s .idle] at uclaimed
    exact (finishBut_holds none u s).2.2.trans uclaimed
  · have hends := endsIdle_of_settled hm hsettled
    have hlike : ReviewedAlike s u :=
      reviewedAlike_of_inputs (ucfs.trans wcfs) (ups.trans wps) (by rw [← walc]; exact ualc) (uiou.trans wiou) (by rw [hrsq])
    have hblocks := blocksEnd_idle hends hlike (by rw [hli]) (upt.trans wpt) (uca.trans wca) (by rw [ull, wll]) hm
    obtain ⟨frsq, fps, falc, fca, fll⟩ := finishBut_idle none hblocks
    refine ⟨frsq.trans hrsq, fps.trans (ups.trans wps), ?_, fca.trans (uca.trans wca), fll.trans (ull.trans wll)⟩
    rw [State.finish, falc, ualc, walc]

/-- Settles O51: the list after an ALARM is `foldl_learnIfSet_learns`, the mute is `duplicate_mutes`. -/
theorem alarmsAndDuplicatesHeard : Obligations.AlarmsAndDuplicatesHeard := by
  refine ⟨fun s => ⟨fun a b h => exec_of_no_body rfl (if_neg (by simp [not_receives h])), fun body h =>
    exec_of_no_body rfl (if_neg (by simp [not_receives h]))⟩, fun s hh hr => ⟨fun a b hpre ha => ?_, fun body hpre hmute => ?_,
    fun body hpre hmode hmute => ?_⟩⟩
  · exact alarmReceived_ends a b ((receives_iff s _ _).2 ⟨hh, hr, hpre⟩) ha
  · exact duplicate_mutes body ((receives_iff s _ _).2 ⟨hh, hr, hpre⟩) hmute
  · exact duplicate_again body ((receives_iff s _ _).2 ⟨hh, hr, hpre⟩) hmode hmute

end Duplicate

end Machine
end Sys2Proof

/-!
PROOFS. Frames in error, runs that go on and activity that ends (R119, R122, R136, R138, R142, R143, R147; O52).
-/

namespace Sys2Proof
namespace Machine

section Judged

/-! ### How a run of characters is judged (R140, R142, R143) -/

theorem headerKind_eq (header : Byte) :
    headerKind header =
      if header.toNat / 16 = 1 then some .status else if header.toNat / 16 = 2 then some .notice
      else if header.toNat / 16 = 3 then some .alarm else none := by
  have hkind : (header >>> 4).toNat = header.toNat / 16 := by simp [BitVec.toNat_ushiftRight, Nat.shiftRight_eq_div_pow]
  simp only [headerKind, hkind]
  split
  next h => simp [h]
  next h => simp [h]
  next h => simp [h]
  next h1 h2 h3 => rw [if_neg h1, if_neg h2, if_neg h3]

/-- R142, R143: a run that its ending meets before a frame is complete. -/
theorem judgeRun_cut {header : Byte} {more : List Byte} {k : FrameKind} (hk : headerKind header = some k)
    (hlen : more.length + 2 < frameLength k) (ending : RunEnding) : judgeRun (0xA7 :: header :: more) ending = cutRun ending := by
  have hshort : (header :: more).length + 1 < frameLength k := by simpa using hlen
  simp only [judgeRun]
  rw [if_neg (by decide), hk]
  dsimp only
  rw [if_pos hshort]

theorem cutRun_cases (ending : RunEnding) :
    (ending = .badStop → cutRun ending = .error .framing) ∧ (ending = .idle → cutRun ending = .error .gap) ∧
      ∀ n, ending = .going n → cutRun ending = .going :=
  ⟨by rintro rfl; rfl, by rintro rfl; rfl, by rintro n rfl; rfl⟩

theorem judgeRun_unknown {header : Byte} (h : header.toNat / 16 = 0 ∨ 3 < header.toNat / 16) (more : List Byte) (ending : RunEnding) :
    judgeRun (0xA7 :: header :: more) ending = .error .length := by
  have hk : headerKind header = none := by
    rw [headerKind_eq, if_neg (by omega), if_neg (by omega), if_neg (by omega)]
  simp only [judgeRun]
  rw [if_neg (by decide), hk]

/-- What opens no frame, and what each ending makes of a run that has not reached its length. -/
theorem judgeRun_cases (first : Byte) (rest : List Byte) (ending : RunEnding) :
    (first ≠ 0xA7 → judgeRun (first :: rest) ending = .noFrame) ∧
      (first = 0xA7 → rest = [] →
        (ending = .idle → judgeRun (first :: rest) ending = .error .gap) ∧
          (ending = .badStop → judgeRun (first :: rest) ending = .error .framing) ∧
          ∀ n, ending = .going n → judgeRun (first :: rest) ending = .going) ∧
      ∀ header more, first = 0xA7 → rest = header :: more →
        (header.toNat / 16 = 0 ∨ 3 < header.toNat / 16 → judgeRun (first :: rest) ending = .error .length) ∧
        ((header.toNat / 16 = 1 ∧ more.length < 16 ∨ header.toNat / 16 = 2 ∧ more.length < 6 ∨
            header.toNat / 16 = 3 ∧ more.length < 4) →
          (ending = .badStop → judgeRun (first :: rest) ending = .error .framing) ∧
            (ending = .idle → judgeRun (first :: rest) ending = .error .gap) ∧
            ∀ n, ending = .going n → judgeRun (first :: rest) ending = .going) := by
  refine ⟨fun h => if_pos h, ?_, ?_⟩
  · rintro rfl rfl
    have hcut : judgeRun [0xA7] ending = cutRun ending := rfl
    obtain ⟨hstop, hidle, hgoing⟩ := cutRun_cases ending
    rw [hcut]
    exact ⟨hidle, hstop, hgoing⟩
  · rintro header more rfl rfl
    refine ⟨fun h => judgeRun_unknown h more ending, fun h => ?_⟩
    have hcut : judgeRun (0xA7 :: header :: more) ending = cutRun ending := by
      rcases h with ⟨hkind, hlen⟩ | ⟨hkind, hlen⟩ | ⟨hkind, hlen⟩
      · exact judgeRun_cut (k := .status) (by rw [headerKind_eq, if_pos hkind]) (Nat.add_lt_add_right hlen 2) ending
      · exact judgeRun_cut (k := .notice) (by rw [headerKind_eq, hkind]; rfl) (Nat.add_lt_add_right hlen 2) ending
      · exact judgeRun_cut (k := .alarm) (by rw [headerKind_eq, hkind]; rfl) (Nat.add_lt_add_right hlen 2) ending
    rw [hcut]
    exact cutRun_cases ending

end Judged

section Seen

variable {s u old : State}

/-! ### The line interface as a run of characters and the end of its event leave it (R138, R142, R143) -/

/-- With the driver not in a frame, a break that the end of an event asserts touches only the driver. -/
theorem finish_li (old : State) (h : u.li.driver ≠ .frame) :
    ∃ d f, (u.finish old).li = { u.li with driver := d, ownFrame := f } := by
  rcases finish_line u old with ⟨hli, -⟩ | ⟨-, -, -, -, -, -, hli, -⟩
  · exact ⟨_, _, hli⟩
  · refine ⟨.brk, none, ?_⟩
    rw [hli, assertBreak_li, if_neg h]

/-- R143: the receiver after a receive error. -/
theorem receiverAfter_eq (k : RxErrorKind) (ending : RunEnding) :
    receiverAfter k ending = if ending ≠ .idle ∧ (k = .framing ∨ k = .length) then .discard else .idle := by
  unfold receiverAfter
  by_cases h : ending = .idle
  · simp [h]
  · cases k <;> simp [h]

/-- R138, R142: the line a run that goes on has shown, where no break holds it. -/
theorem dominantSeen_shows (n : Nat) (hheld : s.lineHeld = false) :
    (s.dominantSeen n).li.dominantRun = min n 19 ∧ (n ≠ 0 → (s.dominantSeen n).pins.line = .dominant) ∧
      (s.dominantSeen n).rsq.idleCount = (if n = 0 then s.rsq.idleCount else s.rsq.idleCount.map fun _ => 0) := by
  rw [dominantSeen_unheld n hheld]
  by_cases h : n = 0
  · subst h
    rw [if_pos rfl, if_pos rfl, lineTo_rsq]
    exact ⟨rfl, fun h => absurd rfl h, rfl⟩
  · rw [if_neg h, if_neg h, lineTo_rsq]
    exact ⟨(lineTo_dominantRun _).1, fun _ => by simp, rfl⟩

/-- R142: to a receiver in FRAME a level of the line is no start bit. -/
theorem dominantSeen_startSlot (n : Nat) (hheld : s.lineHeld = false) (h : s.li.receiver = .frame) :
    (s.dominantSeen n).li.startSlot = s.li.startSlot := by
  rw [dominantSeen_unheld n hheld]
  split
  · exact if_pos h
  · unfold State.lineTo
    dsimp only
    rw [if_neg]
    · rfl
    · simp [h]

theorem lineHeld_of_hears (h : s.hears = true) : s.lineHeld = false := by
  obtain ⟨-, hdriver, hrun, hstuck⟩ := (hears_iff s).1 h
  simp [State.lineHeld, hdriver, hrun, hstuck]

end Seen

section Heard

variable {s : State} {chars : List Byte} {ending : RunEnding}

/-! ### A run in error, one that opens no frame, and one that goes on -/

theorem stuck_hearError (s : State) (chars : List Byte) (ending : RunEnding) :
    (s.hearError chars ending).li.stuck = s.li.stuck := by
  have htaking (t : State) (r : ReceiverState) (l : List Byte) : (t.taking r l).li.stuck = t.li.stuck := rfl
  unfold State.hearError
  dsimp only
  split
  · rw [htaking]
    simp
  · split
    · rw [show ∀ (t : State) k, (t.countRxError k).li.stuck = t.li.stuck from fun t k => by simp, htaking]
      simp
    · rw [htaking]
      simp
    · split
      · simp
      · simp [State.startSeen]
    · rfl

theorem body_receiveError (h : s.hears = true) (chars : List Byte) (ending : RunEnding) :
    s.body (.receiveError chars ending) = some (s.hearError chars ending) := if_pos h

/-- What every run of characters leaves as it was. -/
theorem hearError_keeps (hh : s.hears = true) (chars : List Byte) (ending : RunEnding) :
    ((s.hearError chars ending).finish s).pt = s.pt ∧
      ((s.hearError chars ending).finish s).rsq.slotCounter = s.rsq.slotCounter ∧
      ((s.hearError chars ending).finish s).rsq.phase = s.rsq.phase ∧
      ((s.hearError chars ending).finish s).rsq.mode = s.rsq.mode ∧
      (Settled s → ((s.hearError chars ending).finish s).alc = s.alc ∧
        ((s.hearError chars ending).finish s).ca.lineCondition = s.ca.lineCondition) := by
  obtain ⟨hmode, -, -, -⟩ := (hears_iff s).1 hh
  have hsteady := roundsSteady_hearError s chars ending
  set u := s.hearError chars ending with hu
  refine ⟨by simp [hu], (finish_rounds u s).2.2.2.1.trans hsteady.slot, (finish_rounds u s).2.2.1.trans hsteady.phase,
    (finish_rounds u s).1.trans hsteady.mode, fun hsettled => ?_⟩
  have halc : u.alc = s.alc := by simp [hu]
  have hlike : ReviewedAlike s u :=
    reviewedAlike_of_inputs (by simp [hu]) (by simp [hu]) (by rw [halc]) (by simp [hu]) hsteady.mode
  have hstuck : u.li.stuck = s.li.stuck := stuck_hearError s chars ending
  have hblocks := blocksEnd_idle (endsIdle_of_settled hmode hsettled) hlike hstuck (by simp [hu]) (by simp [hu]) (by simp [hu]) hmode
  obtain ⟨-, -, falc, fca, -⟩ := finishBut_idle none hblocks
  exact ⟨falc.trans halc, (congrArg Apportioner.lineCondition fca).trans (by simp [hu])⟩

/-- R143: a run in error. -/
theorem hearError_error {k : RxErrorKind} (hr : s.li.receiver ≠ .discard)
    (hj : judgeRun (s.li.reception ++ chars) ending = .error k) :
    s.hearError chars ending = ((s.lineAfter chars ending).taking (receiverAfter k ending) []).countRxError k := by
  unfold State.hearError
  dsimp only
  rw [if_neg (by simp [State.assembles, hr]), hj]

/-- R142: a run that opens no frame. -/
theorem hearError_noFrame (hr : s.li.receiver ≠ .discard) (hj : judgeRun (s.li.reception ++ chars) ending = .noFrame) :
    s.hearError chars ending =
      (s.lineAfter chars ending).taking (if s.li.reception ++ chars = [] ∨ ending = .idle then .idle else .discard) [] := by
  unfold State.hearError
  dsimp only
  rw [if_neg (by simp [State.assembles, hr]), hj]
  simp only [List.isEmpty_iff, Bool.or_eq_true, decide_eq_true_eq]

/-- R142: a receiver in DISCARD. -/
theorem hearError_discard (hr : s.li.receiver = .discard) (chars : List Byte) (ending : RunEnding) :
    s.hearError chars ending = (s.lineAfter chars ending).taking (if ending = .idle then .idle else .discard) [] := by
  unfold State.hearError
  dsimp only
  rw [if_pos (by simp [State.assembles, hr])]

/-- R142: the frame in reception, with the characters a run has brought it. -/
def State.receptionGrown (chars : List Byte) (s : State) : State :=
  let t := if s.li.reception ++ chars = [] then s else s.startSeen.taking .frame (s.li.reception ++ chars)
  if chars = [] then t else t.restartIdle

/-- R138, R142: a run that goes on grows the frame in reception and shows the line. -/
theorem hearError_going {n : Nat} (hr : s.li.receiver ≠ .discard) (hj : judgeRun (s.li.reception ++ chars) (.going n) = .going) :
    s.hearError chars (.going n) = (s.receptionGrown chars).dominantSeen n := by
  unfold State.hearError State.lineAfter State.receptionGrown
  dsimp only
  rw [if_neg (by simp [State.assembles, hr]), hj]
  by_cases hrun : s.li.reception ++ chars = []
  · have hchars : chars = [] := (List.append_eq_nil_iff.1 hrun).2
    simp only [List.isEmpty_iff, if_pos hrun, if_pos hchars]
  · simp only [List.isEmpty_iff, if_neg hrun]

theorem receptionGrown_fields (s : State) (chars : List Byte) :
    (s.receptionGrown chars).li.reception = s.li.reception ++ chars ∧
      (s.receptionGrown chars).li.receiver = (if s.li.reception ++ chars = [] then s.li.receiver else .frame) ∧
      (s.li.reception ++ chars ≠ [] →
        (s.receptionGrown chars).li.startSlot = some (s.li.startSlot.getD s.rsq.slotCounter) ∧
          (s.receptionGrown chars).li.expected = expectedLength (s.li.reception ++ chars)) ∧
      (s.receptionGrown chars).li.rxErrors = s.li.rxErrors ∧
      (s.receptionGrown chars).li.lastRxError = s.li.lastRxError ∧
      (s.receptionGrown chars).li.driver = s.li.driver ∧ (s.receptionGrown chars).lineHeld = s.lineHeld ∧
      (s.receptionGrown chars).rsq.idleCount =
        (if chars = [] then s.rsq.idleCount else s.rsq.idleCount.map fun _ => 0) := by
  have hslot : s.startSeen.li.startSlot = some (s.li.startSlot.getD s.rsq.slotCounter) := by
    unfold State.startSeen
    cases s.li.startSlot <;> rfl
  unfold State.receptionGrown
  by_cases hrun : s.li.reception ++ chars = []
  · obtain ⟨hreception, hchars⟩ := List.append_eq_nil_iff.1 hrun
    simp [hreception, hchars]
  · dsimp only
    rw [if_neg hrun]
    by_cases hchars : chars = []
    · rw [if_pos hchars, if_pos hchars, if_neg hrun]
      exact ⟨rfl, rfl, fun _ => ⟨hslot, rfl⟩, rfl, rfl, rfl, rfl, rfl⟩
    · rw [if_neg hchars, if_neg hchars, if_neg hrun]
      exact ⟨rfl, rfl, fun _ => ⟨hslot, rfl⟩, rfl, rfl, rfl, rfl, rfl⟩

/-- R142, R143: a frame in error met outside DISCARD, judged and counted. -/
theorem error_ends {k : RxErrorKind} (hh : s.hears = true) (hr : s.li.receiver ≠ .discard)
    (hj : judgeRun (s.li.reception ++ chars) ending = .error k) {t : State} (ht : t = (s.hearError chars ending).finish s) :
    t.li.rxErrors = min 255 (s.li.rxErrors + 1) ∧ t.li.lastRxError = k ∧
      t.li.receiver = (if ending ≠ .idle ∧ (k = .framing ∨ k = .length) then .discard else .idle) ∧
      t.li.reception = [] ∧ t.li.txErrors = s.li.txErrors ∧ t.sl.summary.lineErrors = true := by
  subst ht
  obtain ⟨-, hdriver, -, -⟩ := (hears_iff s).1 hh
  rw [hearError_error hr hj]
  set v := (s.lineAfter chars ending).taking (receiverAfter k ending) [] with hv
  obtain ⟨hli, -⟩ := countRxError_fields v k
  have hfields : v.li.receiver = receiverAfter k ending ∧ v.li.reception = [] ∧ v.li.driver = s.li.driver ∧
      v.li.rxErrors = s.li.rxErrors ∧ v.li.txErrors = s.li.txErrors :=
    ⟨rfl, rfl, (lineAfter_fields s chars ending).1, by simp [hv], by simp [hv]⟩
  obtain ⟨hreceiver, hreception, hvdriver, hrx, htx⟩ := hfields
  obtain ⟨d, f, hfinish⟩ := finish_li (u := v.countRxError k) s (by rw [hli]; simp [hvdriver, hdriver])
  rw [hli] at hfinish
  refine ⟨?_, ?_, ?_, ?_, ?_, ?_⟩
  · rw [hfinish, ← hrx]
    rfl
  · rw [hfinish]
  · rw [hfinish, ← receiverAfter_eq]
    exact hreceiver
  · rw [hfinish]
    exact hreception
  · rw [hfinish]
    exact htx
  · have htold : (v.countRxError k).sl.summary.lineErrors = true := by
      simp [State.countRxError, setTopics_sl, Topics.union]
    rw [finish_summary, Topics.union, htold, Bool.true_or]

/-- R142: a run that keeps no characters and counts nothing. -/
theorem uncounted_ends {r : ReceiverState} (hh : s.hears = true)
    (hu : s.hearError chars ending = (s.lineAfter chars ending).taking r []) {t : State}
    (ht : t = (s.hearError chars ending).finish s) :
    t.li.rxErrors = s.li.rxErrors ∧ t.li.lastRxError = s.li.lastRxError ∧ t.li.receiver = r := by
  subst ht
  obtain ⟨-, hdriver, -, -⟩ := (hears_iff s).1 hh
  rw [hu]
  set v := (s.lineAfter chars ending).taking r [] with hv
  have hvdriver : v.li.driver = s.li.driver := (lineAfter_fields s chars ending).1
  obtain ⟨d, f, hfinish⟩ := finish_li (u := v) s (by simp [hvdriver, hdriver])
  rw [hfinish]
  exact ⟨by simp [hv], (lineAfter_fields s chars ending).2.2.2.2.2.2.2.2.1, rfl⟩

/-- R138, R142: a run that goes on. -/
theorem going_ends {n : Nat} (hh : s.hears = true) (hr : s.li.receiver ≠ .discard)
    (hj : judgeRun (s.li.reception ++ chars) (.going n) = .going) {t : State} (ht : t = (s.hearError chars (.going n)).finish s) :
    t.li.rxErrors = s.li.rxErrors ∧ t.li.lastRxError = s.li.lastRxError ∧ t.li.reception = s.li.reception ++ chars ∧
      t.li.receiver = (if s.li.reception ++ chars = [] then s.li.receiver else .frame) ∧
      (s.li.reception ++ chars ≠ [] → t.li.startSlot = some (s.li.startSlot.getD s.rsq.slotCounter)) ∧
      t.li.dominantRun = min n 19 ∧ (n ≠ 0 → t.pins.line = .dominant) ∧
      (chars ≠ [] ∨ n ≠ 0 → t.rsq.idleCount = s.rsq.idleCount.map fun _ => 0) ∧
      ∀ first header more, s.li.reception ++ chars = first :: header :: more →
        (header.toNat / 16 = 1 → t.li.expected = some 18) ∧ (header.toNat / 16 = 2 → t.li.expected = some 8) ∧
          (header.toNat / 16 = 3 → t.li.expected = some 6) := by
  subst ht
  obtain ⟨-, hdriver, -, -⟩ := (hears_iff s).1 hh
  rw [hearError_going hr hj]
  set v := s.receptionGrown chars with hv
  obtain ⟨vreception, vreceiver, vstart, vrx, vlast, vdriver, vheld, vidle⟩ := receptionGrown_fields s chars
  rw [← hv] at vreception vreceiver vstart vrx vlast vdriver vheld vidle
  have hheld : v.lineHeld = false := vheld.trans (lineHeld_of_hears hh)
  obtain ⟨wdriver, wreceiver, wreception, wexpected, -, -, -, wrx, wlast, -⟩ := dominantSeen_fields v n
  obtain ⟨wrun, wline, widle⟩ := dominantSeen_shows n hheld
  obtain ⟨d, f, hfinish⟩ := finish_li (u := v.dominantSeen n) s (by rw [wdriver, vdriver, hdriver]; decide)
  rw [hfinish]
  refine ⟨wrx.trans vrx, wlast.trans vlast, wreception.trans vreception, wreceiver.trans vreceiver, fun hrun => ?_, wrun,
    fun hn => ?_, fun hsome => ?_, fun first header more hrun => ?_⟩
  · have hframe : v.li.receiver = .frame := vreceiver.trans (if_neg hrun)
    exact (dominantSeen_startSlot n hheld hframe).trans (vstart hrun).1
  · rw [(finish_line_of_not s (.inr (.inl (wline hn)))).2]
    exact wline hn
  · rw [finish_rounds (v.dominantSeen n) s |>.2.2.2.2.2.2.2.2.2.2.2, widle, vidle]
    by_cases hn : n = 0
    · rw [if_pos hn, if_neg (hsome.resolve_right (absurd hn))]
    · rw [if_neg hn]
      split
      · rfl
      · rw [Option.map_map]
        rfl
  · have hne : s.li.reception ++ chars ≠ [] := by rw [hrun]; exact List.cons_ne_nil _ _
    have hexpected : (v.dominantSeen n).li.expected =
        if header.toNat / 16 = 1 then some 18 else if header.toNat / 16 = 2 then some 8
        else if header.toNat / 16 = 3 then some 6 else none := by
      rw [wexpected, (vstart hne).2, hrun, expectedLength_header]
    refine ⟨fun h => ?_, fun h => ?_, fun h => ?_⟩
    · exact hexpected.trans (if_pos h)
    · rw [h] at hexpected
      exact hexpected
    · rw [h] at hexpected
      exact hexpected

end Heard

section Unheard

variable {s : State}

/-! ### The dominant run shown where the line is not heard (R136, R138, R147) -/

theorem body_dominantSeen (h : s.hears = false) (chars : List Byte) (n : Nat) :
    s.body (.receiveError chars (.going n)) = some (s.dominantSeen n) := if_neg (by simp [h])

/-- R138: during a break the run is kept, up to 256. -/
theorem break_shown (hstuck : s.li.stuck = false) (hrun : 20 ≤ s.li.dominantRun) (chars : List Byte) (n : Nat) :
    ∃ t, exec (.receiveError chars (.going n)) s = .next t ∧ t.pins.line = .dominant ∧
      t.li = { s.li with dominantRun := max s.li.dominantRun (min n 256) } := by
  have hh : s.hears = false := by
    rw [Bool.eq_false_iff, ne_eq, hears_iff]
    rintro ⟨-, -, hlt, -⟩
    exact absurd hrun (not_le.2 hlt)
  have hheld : s.lineHeld = true := by
    unfold State.lineHeld
    rw [decide_eq_true (show Figures.breakBits ≤ s.li.dominantRun from hrun)]
    rfl
  have hseen : s.dominantSeen n =
      (s.withLi { s.li with dominantRun := max s.li.dominantRun (min n 256) }).lineTo .dominant := by
    unfold State.dominantSeen
    rw [if_pos (show Figures.breakBits ≤ s.li.dominantRun from hrun), hstuck, hheld]
    rfl
  have hline : (s.dominantSeen n).pins.line = .dominant := by rw [hseen]; simp
  obtain ⟨hli, hpins⟩ := finish_line_of_not s (u := s.dominantSeen n) (.inr (.inl hline))
  refine ⟨_, exec_of_body (body_dominantSeen hh chars n), by rw [hpins, hline], ?_⟩
  rw [hli, hseen]
  unfold State.lineTo
  dsimp only
  rw [if_neg]
  · rfl
  · rw [Bool.and_eq_true, hears_iff]
    rintro ⟨⟨-, -, hlt, -⟩, -⟩
    exact absurd (hrun.trans (le_max_left _ _)) (not_le.2 hlt)

/-- R136: in CONFIG the run is kept alone. -/
theorem config_shown (hstuck : s.li.stuck = false) (hm : s.rsq.mode = .config) (hrun : s.li.dominantRun < 20)
    (hdriver : s.li.driver = .released) (chars : List Byte) (n : Nat) :
    ∃ t, exec (.receiveError chars (.going n)) s = .next t ∧
      t.li =
        { s.li with
          dominantRun := min n 19
          restarted := s.li.restarted && decide (n ≠ 0)
          startSlot := if n = 0 ∧ s.li.receiver ≠ .frame then none else s.li.startSlot } ∧
      t.pins.line = if n = 0 then .recessive else .dominant := by
  have hh : s.hears = false := by
    rw [Bool.eq_false_iff, ne_eq, hears_iff]
    rintro ⟨hmode, -⟩
    exact hmode hm
  have hheld : s.lineHeld = false := by
    unfold State.lineHeld
    rw [decide_eq_false (show ¬Figures.breakBits ≤ s.li.dominantRun from not_le.2 hrun), hstuck, hdriver]
    rfl
  have hmode : (s.dominantSeen n).rsq.mode ≠ .run := by simp [hm]
  obtain ⟨hli, hpins⟩ := finish_line_of_not s (u := s.dominantSeen n) (.inl hmode)
  refine ⟨_, exec_of_body (body_dominantSeen hh chars n), ?_, ?_⟩
  · rw [hli, dominantSeen_unheld n hheld]
    by_cases hn : n = 0
    · subst hn
      rw [if_pos rfl]
      by_cases hframe : s.li.receiver = .frame <;> simp [State.lineTo, hframe]
    · rw [if_neg hn]
      unfold State.lineTo
      dsimp only
      rw [if_neg]
      · simp [hn, State.restartIdle]
      · rw [Bool.and_eq_true, hears_iff]
        rintro ⟨⟨hmode, -⟩, -⟩
        exact hmode hm
  · rw [hpins, dominantSeen_unheld n hheld]
    split <;> simp

end Unheard

section ErrorFrame

/-- Settles O52: `hearError` at each judgement of a run is `error_ends`, `uncounted_ends` and `going_ends`; what it leaves
is `hearError_keeps`. -/
theorem errorsCounted : Obligations.ErrorsCounted := by
  refine ⟨fun s hh => ⟨fun chars ending => ⟨_, exec_of_body (body_receiveError hh chars ending), hearError_keeps hh chars ending⟩,
    fun chars ending k hr hj => ⟨_, exec_of_body (body_receiveError hh chars ending), error_ends hh hr hj rfl⟩,
    judgeRun_cases,
    fun chars ending hr hj =>
      ⟨_, exec_of_body (body_receiveError hh chars ending), uncounted_ends hh (hearError_noFrame hr hj) rfl⟩,
    fun chars n hr hj => ⟨_, exec_of_body (body_receiveError hh chars _), going_ends hh hr hj rfl⟩,
    fun chars ending hr =>
      ⟨_, exec_of_body (body_receiveError hh chars ending), uncounted_ends hh (hearError_discard hr chars ending) rfl⟩,
    fun h => ?_, fun hframe hj => ?_⟩,
    fun s chars n hstuck => ⟨fun hrun => break_shown hstuck hrun chars n, fun hm hrun hd => config_shown hstuck hm hrun hd chars n⟩⟩
  · have hb : s.body .lineActivityEnd = some (s.hearError [] .idle) := if_pos hh
    obtain ⟨hpt, hslot, hphase, hmode, -⟩ := hearError_keeps hh [] .idle
    have hends : s.hearError [] .idle = (s.lineAfter [] .idle).taking .idle [] := by
      by_cases hr : s.li.receiver = .discard
      · exact hearError_discard hr [] .idle
      · have hnone : judgeRun (s.li.reception ++ []) .idle = .noFrame := by
          rw [h.resolve_right hr]
          rfl
        rw [hearError_noFrame hr hnone, if_pos (.inr rfl)]
    obtain ⟨hrx, -, hreceiver⟩ := uncounted_ends hh hends rfl
    exact ⟨_, exec_of_body hb, hreceiver, hrx, hpt, hslot, hphase, hmode⟩
  · have hb : s.body .lineActivityEnd = some (s.hearError [] .idle) := if_pos hh
    obtain ⟨hpt, hslot, hphase, hmode, -⟩ := hearError_keeps hh [] .idle
    have hr : s.li.receiver ≠ .discard := by rw [hframe]; decide
    obtain ⟨hrx, hlast, hreceiver, hreception, -⟩ :=
      error_ends (chars := []) (ending := .idle) (k := .gap) hh hr (by rwa [List.append_nil]) rfl
    exact ⟨_, exec_of_body hb, hreceiver, hreception, hrx, hlast, hpt, hslot, hphase, hmode⟩

end ErrorFrame

end Machine
end Sys2Proof

/-!
PROOFS. CONFIG_WRITE: the record as held is the record written (12.4, R138, R179, R196 to R199; O34).
-/

namespace Sys2Proof
namespace Machine

section Codes

/-! ### A code that names a value is that value's code (12.4) -/

theorem roleCode_of {v : Nat} {r : Role} (h : roleOfCode v = some r) : roleCode r = v := by
  unfold roleOfCode at h
  split at h <;> cases h <;> rfl

theorem bitRateCode_of {v : Nat} {r : BitRate} (h : bitRateOfCode v = some r) : bitRateCode r = v := by
  unfold bitRateOfCode at h
  split at h
  next hv => cases h; exact hv.symm
  next =>
    split at h
    next hv => cases h; exact hv.symm
    next => cases h

theorem requestSourceCode_of {v : Nat} {r : RequestSource} (h : requestSourceOfCode v = some r) : requestSourceCode r = v := by
  unfold requestSourceOfCode at h
  split at h <;> cases h <;> rfl

theorem flagByte_of {v : Nat} {b : Bool} (h : flagOfCode v = some b) : (flagByte b).toNat = v := by
  unfold flagOfCode at h
  split at h
  next hv => cases h; exact hv.symm
  next =>
    split at h
    next hv => cases h; exact hv.symm
    next => cases h

theorem inputFnCode_of {v : Nat} {f : InputFn} (h : inputFnOfCode v = some f) : inputFnCode f = v := by
  unfold inputFnOfCode at h
  split at h
  case h_8 =>
    split at h
    next hlo =>
      split at h
      next hhi =>
        cases h
        exact Nat.add_sub_cancel' hlo
      next => cases h
    next => cases h
  all_goals
    cases h
    rfl

theorem outputFnCode_of {v : Nat} {f : OutputFn} (h : outputFnOfCode v = some f) : outputFnCode f = v := by
  unfold outputFnOfCode at h
  split at h
  case h_10 =>
    split at h
    next hlo =>
      split at h
      next hhi =>
        cases h
        exact Nat.add_sub_cancel' hlo
      next => cases h
    next => cases h
  all_goals
    cases h
    rfl

/-- What a code read with a default names has that code, where the code names anything. -/
theorem code_getD {α : Type} {code : α → Nat} {ofCode : Nat → Option α} (h : ∀ {v x}, ofCode v = some x → code x = v)
    {v : Nat} (hv : (ofCode v).isSome = true) (d : α) : code ((ofCode v).getD d) = v := by
  obtain ⟨x, hx⟩ := Option.isSome_iff_exists.1 hv
  rw [hx]
  exact h hx

end Codes

section Records

variable {c : Settings} {vs : List Nat}

/-! ### The items of a written record (R198) -/

/-- A list is its items in their order. -/
theorem map_item {n : Nat} (h : vs.length = n) : (List.range n).map (fun k => item vs (k + 1)) = vs := by
  refine List.ext_getElem (by simp [h]) fun k hk hk' => ?_
  simp [item, List.getElem?_eq_getElem hk']

/-- The functions of a written record's inputs or outputs, as codes. -/
theorem map_tabulate {α : Type} {code : α → Nat} {ofCode : Nat → Option α} (hcode : ∀ {v x}, ofCode v = some x → code x = v)
    (d : α) (hpass : ∀ i : Fin 16, (ofCode (item vs (i.val + 1))).isSome = true) :
    (tabulate (n := 16) fun i => (ofCode (item vs (i.val + 1))).getD d).toList.map code =
      (List.range 16).map fun k => item vs (k + 1) := by
  refine List.ext_getElem (by simp) fun k hk hk' => ?_
  have hk16 : k < 16 := by simpa using hk'
  have hcell := cell_tabulate (n := 16) (fun i => (ofCode (item vs (i.val + 1))).getD d) ⟨k, hk16⟩
  simp only [List.getElem_map, List.getElem_range, Vector.getElem_toList]
  exact (congrArg code hcell).trans (code_getD hcode (hpass ⟨k, hk16⟩) d)

theorem recordItems_station (h : ItemsPass 0 vs) :
    recordItems 0 (writeRecord 0 vs c) = (List.range 11).map fun k => item vs (k + 1) := by
  have haddress : item vs 1 % 16 = item vs 1 := Nat.mod_eq_of_lt (Nat.lt_succ_of_le (h.within 0 rfl).2)
  have hcls : item vs 3 % 4 = item vs 3 := Nat.mod_eq_of_lt (Nat.lt_succ_of_le (h.within 2 rfl).2)
  have hrole : roleCode ((roleOfCode (item vs 2)).getD .aux) = item vs 2 := code_getD roleCode_of (h 1 _ rfl) _
  have hrate : bitRateCode ((bitRateOfCode (item vs 5)).getD .kbit500) = item vs 5 := code_getD bitRateCode_of (h 4 _ rfl) _
  simp only [recordItems, writeRecord, haddress, hcls, hrole, hrate]
  rfl

theorem recordItems_ladder (h : ItemsPass 3 vs) :
    recordItems 3 (writeRecord 3 vs c) = (List.range 3).map fun k => item vs (k + 1) := by
  have hflag : (flagByte ((flagOfCode (item vs 3)).getD false)).toNat = item vs 3 :=
    code_getD (code := fun b => (flagByte b).toNat) flagByte_of (h 2 _ rfl) _
  simp only [recordItems, writeRecord, hflag]
  rfl

theorem itemTests_fns {f : Nat → Bool} {l : List (Nat → Bool)} (i : Fin 16) : (List.replicate 16 f ++ l)[i.val]? = some f := by
  rw [List.getElem?_append_left (by simp), List.getElem?_replicate, if_pos i.isLt]

theorem recordItems_inputs (h : ItemsPass 5 vs) :
    recordItems 5 (writeRecord 5 vs c) = (List.range 17).map fun k => item vs (k + 1) := by
  have hfns := map_tabulate (vs := vs) inputFnCode_of .general fun i => h i.val _ (itemTests_fns i)
  simp only [recordItems, writeRecord, hfns]
  rfl

theorem recordItems_outputs (h : ItemsPass 6 vs) :
    recordItems 6 (writeRecord 6 vs c) = (List.range 16).map fun k => item vs (k + 1) := by
  have hfns := map_tabulate (vs := vs) outputFnCode_of .general fun i =>
    h i.val _ ((List.append_nil _ ▸ itemTests_fns (l := []) i : (List.replicate 16 _)[i.val]? = _))
  simp only [recordItems, writeRecord, hfns]

theorem recordItems_channel {r : Nat} (h : ItemsPass (r + 7) vs) :
    recordItems (r + 7) (writeRecord (r + 7) vs c) = (List.range 3).map fun k => item vs (k + 1) := by
  have hflag : (flagByte ((flagOfCode (item vs 2)).getD false)).toNat = item vs 2 :=
    code_getD (code := fun b => (flagByte b).toNat) flagByte_of (h 1 _ rfl) _
  have hsource : requestSourceCode ((requestSourceOfCode (item vs 3)).getD .link) = item vs 3 :=
    code_getD requestSourceCode_of (h 2 _ rfl) _
  simp only [recordItems, writeRecord, cell_setCell_self, hflag, hsource]
  rfl

/-- R198: a record written with values that pass their tests holds them. -/
theorem recordItems_writeRecord {record : Nat} (hlen : vs.length = (itemTests record).length) (h : ItemsPass record vs) :
    recordItems record (writeRecord record vs c) = vs := by
  match record, hlen, h with
  | 0, hlen, h => exact (recordItems_station h).trans (map_item hlen)
  | 1, hlen, _ => exact (map_item (n := 9) hlen)
  | 2, hlen, _ => exact (map_item (n := 14) hlen)
  | 3, hlen, h => exact (recordItems_ladder h).trans (map_item hlen)
  | 4, hlen, _ => exact (map_item (n := 1) hlen)
  | 5, hlen, h => exact (recordItems_inputs h).trans (map_item hlen)
  | 6, hlen, h => exact (recordItems_outputs h).trans (map_item hlen)
  | r + 7, hlen, h => exact (recordItems_channel h).trans (map_item hlen)

/-- R198: what a record written leaves of the settings' parts. -/
theorem writeRecord_parts (record : Nat) (vs : List Nat) (c : Settings) :
    (record ≠ 0 → (writeRecord record vs c).station = c.station) ∧
      (record ≠ 1 → (writeRecord record vs c).apportion = c.apportion) ∧
      (record ≠ 2 → (writeRecord record vs c).pole = c.pole) ∧
      (record ≠ 3 → (writeRecord record vs c).ladder = c.ladder) ∧
      (record ≠ 4 → (writeRecord record vs c).alarm = c.alarm) ∧
      (record ≠ 5 → (writeRecord record vs c).inputs = c.inputs) ∧
      (record ≠ 6 → (writeRecord record vs c).outputs = c.outputs) := by
  unfold writeRecord
  dsimp only
  split <;> simp

/-- R198: a record written leaves the channels of every other record. -/
theorem writeRecord_channels {record r : Nat} (hrecord : record < 15) (hr : r + 7 < 15) (h : r + 7 ≠ record) :
    cell (writeRecord record vs c).channels ⟨(r + 7 - 7) % 8, Nat.mod_lt _ (by decide)⟩ =
      cell c.channels ⟨(r + 7 - 7) % 8, Nat.mod_lt _ (by decide)⟩ := by
  refine writeRecord_channel (fun hw => h ?_) vs c
  obtain ⟨hlo, hval⟩ := hw
  simp only [] at hval
  omega

/-- R198: a record written leaves every other record. -/
theorem recordItems_writeRecord_ne {record r : Nat} (hrecord : record < 15) (hr : r < 15) (h : r ≠ record) :
    recordItems r (writeRecord record vs c) = recordItems r c := by
  obtain ⟨hstation, happortion, hpole, hladder, halarm, hinputs, houtputs⟩ := writeRecord_parts record vs c
  match r, hr, h with
  | 0, _, h => simp only [recordItems, hstation (Ne.symm h)]
  | 1, _, h => simp only [recordItems, happortion (Ne.symm h)]
  | 2, _, h => simp only [recordItems, hpole (Ne.symm h)]
  | 3, _, h => simp only [recordItems, hladder (Ne.symm h)]
  | 4, _, h => simp only [recordItems, halarm (Ne.symm h)]
  | 5, _, h => simp only [recordItems, hinputs (Ne.symm h)]
  | 6, _, h => simp only [recordItems, houtputs (Ne.symm h)]
  | r + 7, hr, h => simp only [recordItems, writeRecord_channels hrecord hr h]

end Records

section Written

variable {s : State} {record : Nat} {vs : List Nat}

/-! ### What a written record changes beside the settings (R138, R175, R179, R199) -/

/-- R138, R179: the dominant run restarts at a change of the bit rate, and the latches are judged at one of the timeout. -/
theorem recorded_spec (s : State) (record : Nat) (vs : List Nat) :
    (s.recorded record vs).cfs = { s.cfs with settings := writeRecord record vs s.cfs.settings, valid := false } ∧
      (s.recorded record vs).li =
        (if s.station.bitRate = (writeRecord record vs s.cfs.settings).station.bitRate then s.li else s.restartRun.li) ∧
      (s.recorded record vs).ll = s.ll ∧
      (s.recorded record vs).iou = { s.iou with latches := (s.recorded record vs).iou.latches } ∧
      ∀ c, (s.recorded record vs).latch c =
        { s.latch c with
          stale := (s.latch c).stale ||
            (decide (s.poleCfg.sampleTimeout ≠ (writeRecord record vs s.cfs.settings).pole.sampleTimeout) &&
              decide ((writeRecord record vs s.cfs.settings).pole.sampleTimeout ≤ (s.latch c).age)) } := by
  set d := writeRecord record vs s.cfs.settings with hd
  set u := if s.station.bitRate = d.station.bitRate then s.withCfs { s.cfs with settings := d, valid := false }
    else (s.withCfs { s.cfs with settings := d, valid := false }).restartRun with hu
  have hframe : u.cfs = { s.cfs with settings := d, valid := false } ∧
      u.li = (if s.station.bitRate = d.station.bitRate then s.li else s.restartRun.li) ∧ u.ll = s.ll ∧ u.iou = s.iou := by
    rw [hu]
    split <;> exact ⟨rfl, rfl, rfl, rfl⟩
  obtain ⟨ucfs, uli, ull, uiou⟩ := hframe
  have hrecorded : s.recorded record vs = if s.poleCfg.sampleTimeout = d.pole.sampleTimeout then u else u.judgeLatches := rfl
  have hulatch (c : Fin 8) : u.latch c = s.latch c := by rw [State.latch, uiou, State.latch]
  have htimeout : u.poleCfg.sampleTimeout = d.pole.sampleTimeout := by rw [State.poleCfg, ucfs]
  rw [hrecorded]
  by_cases h : s.poleCfg.sampleTimeout = d.pole.sampleTimeout
  · rw [if_pos h]
    refine ⟨ucfs, uli, ull, by rw [uiou], fun c => ?_⟩
    rw [hulatch, decide_eq_false (not_not.2 h), Bool.false_and, Bool.or_false]
  · rw [if_neg h]
    refine ⟨ucfs, uli, ull, ?_, fun c => ?_⟩
    · rw [← uiou]
      rfl
    · have hjudged : u.judgeLatches.latch c =
          if u.poleCfg.sampleTimeout ≤ (u.latch c).age then { u.latch c with stale := true } else u.latch c :=
        cell_mapCells _ _ _
      rw [hjudged, hulatch, htimeout, decide_eq_true h, Bool.true_and]
      by_cases hage : d.pole.sampleTimeout ≤ (s.latch c).age
      · rw [if_pos hage, decide_eq_true hage, Bool.or_true]
      · rw [if_neg hage, decide_eq_false hage, Bool.or_false]

theorem rewriteChannel_kept (record : Nat) (s : State) :
    (rewriteChannel record s).li = s.li ∧ (rewriteChannel record s).iou = s.iou ∧
      (rewriteChannel record s).ll.lowest = s.ll.lowest := by
  unfold rewriteChannel
  split <;> exact ⟨rfl, rfl, rfl⟩

/-- R138: the line interface once its dominant run is restarted. -/
theorem restartRun_interface (s : State) :
    s.restartRun.li =
      { s.li with
        dominantRun := 0
        restarted := s.li.restarted || decide (s.pins.line = .dominant ∧ (20 ≤ s.li.dominantRun ∨ s.li.stuck = true)) } := by
  have hbreak : (s.pins.line == .dominant && (decide (Figures.breakBits ≤ s.li.dominantRun) || s.li.stuck)) =
      decide (s.pins.line = .dominant ∧ (20 ≤ s.li.dominantRun ∨ s.li.stuck = true)) := by
    rw [Bool.eq_iff_iff, Bool.and_eq_true, Bool.or_eq_true, beq_iff_eq, decide_eq_true_eq, decide_eq_true_eq]
    exact Iff.rfl
  rw [State.restartRun, hbreak]
  rfl

/-- R175: the GENERAL values that a change of functions leaves. -/
theorem getLsbD_dropGeneral (before after : OutputSettings) (general : Half) (o : Fin 16) :
    (dropGeneral before after general).getLsbD o.val =
      (general.getLsbD o.val && decide (cell before.fn o = cell after.fn o)) := getLsbD_sixteen _ o

/-- R138, R175, R179, R198, R199: the store, the line, the latches and the GENERAL values after a record is written. -/
theorem writeConfig_spec (s : State) (record : Nat) (vs : List Nat) :
    (s.writeConfig record vs).cfs = { s.cfs with settings := writeRecord record vs s.cfs.settings, valid := false } ∧
      (s.writeConfig record vs).li = (s.recorded record vs).li ∧ (s.writeConfig record vs).ll.lowest = s.ll.lowest ∧
      (s.writeConfig record vs).iou =
        { s.iou with
          latches := (s.recorded record vs).iou.latches
          general := dropGeneral s.cfs.settings.outputs (writeRecord record vs s.cfs.settings).outputs s.iou.general } := by
  obtain ⟨rcfs, -, rll, riou, -⟩ := recorded_spec s record vs
  set w := (s.recorded record vs).withIou
    { (s.recorded record vs).iou with
      general := dropGeneral s.cfs.settings.outputs (writeRecord record vs s.cfs.settings).outputs
        (s.recorded record vs).iou.general } with hw
  obtain ⟨kli, kiou, klowest⟩ := rewriteChannel_kept record w
  have hwrite : s.writeConfig record vs = rewriteChannel record w := writeConfig_eq s record vs
  rw [hwrite]
  refine ⟨(rewriteChannel_cfs record w).trans rcfs, kli, klowest.trans (congrArg Ladder.lowest rll), kiou.trans ?_⟩
  rw [hw, withIou_iou, riou]

end Written

section Config

variable {s : State} {record : Byte} {items : List Half}

/-! ### CONFIG_WRITE in CONFIG (R198, R199; O34) -/

/-- R1, R28, R51, R74, R136: in CONFIG the end of an event drives the outputs and sets the topics alone. -/
theorem finish_config {u : State} (h : u.rsq.mode = .config) (old : State) :
    (u.finish old).li = u.li ∧ (u.finish old).rsq = u.rsq ∧ (u.finish old).ps = u.ps ∧ (u.finish old).alc = u.alc ∧
      (u.finish old).ca = u.ca ∧ (u.finish old).ll = u.ll ∧ (u.finish old).pins = u.pins := by
  have hblocks := finishBut_blocks none u old
  rwa [blocksEnd_of_config h] at hblocks

theorem judge_configWrite (hm : s.rsq.mode = .config) (hr : record.toNat < 15)
    (hform : items = [] ∨ items.length = (itemTests record.toNat).length) :
    s.judge (.configWrite record items) =
      (firstBad 1 (itemTests record.toNat) (items.map BitVec.toNat)).map fun n => (.configInvalid, n) := by
  refine judge_obstacle ?_ (by rw [hm]; rfl) rfl (decide_eq_true hr)
  have hcount : ¬recordCount ≤ record.toNat := not_le.2 hr
  rcases hform with rfl | hlen
  · simp [formOk, hcount]
  · simp [formOk, hlen]

theorem length_itemTests (r : Nat) : 0 < (itemTests r).length ∧ (itemTests r).length ≤ 17 := by
  match r with
  | 0 | 1 | 2 | 3 | 4 | 5 | 6 => decide
  | r + 7 => exact ⟨Nat.le_of_ble_eq_true rfl, Nat.le_of_ble_eq_true rfl⟩

theorem payload_configWrite (hform : items = [] ∨ items.length = (itemTests record.toNat).length) :
    (requestPayload (.configWrite record items)).length ≤ Figures.payloadMax := by
  have hitems : items.length ≤ 17 := by
    rcases hform with rfl | hlen
    · exact Nat.zero_le _
    · exact hlen.trans_le (length_itemTests _).2
  have hbytes : ((items.map halfBytes).flatten).length = 2 * items.length := by
    rw [List.length_flatten, List.map_map]
    have htwo : items.map (List.length ∘ halfBytes) = items.map fun _ => 2 := List.map_congr_left fun _ _ => rfl
    rw [htwo]
    simp [Nat.mul_comm]
  simp only [requestPayload, List.length_cons, hbytes, Figures.payloadMax]
  omega

theorem firstBad_nil (n : Nat) (ts : List (Nat → Bool)) : firstBad n ts [] = none := by
  cases ts <;> rfl

/-- What a record taken whole leaves in CONFIG, before its answer. -/
theorem written_finish (hm : s.rsq.mode = .config) (vs : List Nat) (r : Nat) :
    let u := s.writeConfig r vs
    (u.finish s).li = u.li ∧ (u.finish s).rsq = s.rsq ∧ (u.finish s).ps = s.ps ∧ (u.finish s).alc = s.alc ∧
      (u.finish s).ca = s.ca ∧ (u.finish s).ll = u.ll ∧ (u.finish s).pins = s.pins ∧ (u.finish s).pending = s.pending ∧
      (u.finish s).pt = s.pt ∧ (u.finish s).cfs = u.cfs := by
  intro u
  obtain ⟨hp, hrsq, hpt, hps, halc, hca, -, hpins⟩ := writeConfig_frame r vs s
  obtain ⟨fli, frsq, fps, falc, fca, fll, fpins⟩ := finish_config (u := u) (by rw [hrsq]; exact hm) s
  obtain ⟨fp, fcfs, fpt⟩ := finishBut_frame u none s
  exact ⟨fli, frsq.trans hrsq, fps.trans hps, falc.trans halc, fca.trans hca, fll, fpins.trans hpins, fp.trans hp,
    fpt.trans hpt, fcfs⟩

theorem written_cfs (s : State) (r : Nat) (vs : List Nat) :
    ((s.writeConfig r vs).finish s).cfs = { s.cfs with settings := writeRecord r vs s.cfs.settings, valid := false } := by
  rw [← (writeConfig_spec s r vs).1]
  exact (finishBut_frame (s.writeConfig r vs) none s).2.1

theorem written_li (hm : s.rsq.mode = .config) (r : Nat) (vs : List Nat) :
    ((s.writeConfig r vs).finish s).li =
      if s.station.bitRate = ((s.writeConfig r vs).finish s).station.bitRate then s.li
      else
        { s.li with
          dominantRun := 0
          restarted := s.li.restarted || decide (s.pins.line = .dominant ∧ (20 ≤ s.li.dominantRun ∨ s.li.stuck = true)) } := by
  have hrate : ((s.writeConfig r vs).finish s).station.bitRate = (writeRecord r vs s.cfs.settings).station.bitRate := by
    rw [State.station, written_cfs]
  rw [hrate, (written_finish hm vs r).1, (writeConfig_spec s r vs).2.1, (recorded_spec s r vs).2.1, restartRun_interface]

theorem written_channel (hm : s.rsq.mode = .config) {r : Nat} (hr : r < 15) (vs : List Nat) (k : Fin 8) :
    ((s.writeConfig r vs).finish s).channel k =
      if r = 7 + k.val then freshChannel (((s.writeConfig r vs).finish s).rating k) else s.channel k := by
  have hk : r = 7 + k.val ↔ Rewrites r k := by
    unfold Rewrites
    omega
  have hdec : Decidable (Rewrites r k) := decidable_of_iff _ hk
  obtain ⟨-, -, -, -, -, fll, -, -, -, fcfs⟩ := written_finish hm vs r
  rw [channel_congr fll, writeConfig_channel, rating_congr fcfs]
  by_cases hrewrites : Rewrites r k
  · rw [if_pos hrewrites, if_pos (hk.2 hrewrites)]
  · rw [if_neg hrewrites, if_neg (mt hk.1 hrewrites)]

theorem written_iou (s : State) (r : Nat) (vs : List Nat) :
    ((s.writeConfig r vs).finish s).iou =
      { s.iou with
        general := ((s.writeConfig r vs).finish s).iou.general
        latches := ((s.writeConfig r vs).finish s).iou.latches
        outputs := ((s.writeConfig r vs).finish s).iou.outputs } ∧
      ((s.writeConfig r vs).finish s).iou.latches = (s.recorded r vs).iou.latches ∧
      ((s.writeConfig r vs).finish s).iou.general =
        dropGeneral s.cfs.settings.outputs (writeRecord r vs s.cfs.settings).outputs s.iou.general := by
  have hiou : ((s.writeConfig r vs).finish s).iou =
      { (s.writeConfig r vs).iou with outputs := ((s.writeConfig r vs).finish s).iou.outputs } :=
    finishBut_iou none (s.writeConfig r vs) s
  obtain ⟨-, -, -, uiou⟩ := writeConfig_spec s r vs
  rw [hiou, uiou]
  exact ⟨rfl, rfl, rfl⟩

theorem written_latch (s : State) (r : Nat) (vs : List Nat) (c : Fin 8) :
    ((s.writeConfig r vs).finish s).latch c =
      { s.latch c with
        stale := (s.latch c).stale ||
          (decide (s.poleCfg.sampleTimeout ≠ ((s.writeConfig r vs).finish s).poleCfg.sampleTimeout) &&
            decide (((s.writeConfig r vs).finish s).poleCfg.sampleTimeout ≤ (s.latch c).age)) } := by
  have htimeout : ((s.writeConfig r vs).finish s).poleCfg.sampleTimeout =
      (writeRecord r vs s.cfs.settings).pole.sampleTimeout := by
    rw [State.poleCfg, written_cfs]
  rw [htimeout, ← (recorded_spec s r vs).2.2.2.2 c]
  exact congrArg (cell · c) (written_iou s r vs).2.1

theorem written_general (s : State) (r : Nat) (vs : List Nat) (o : Fin 16) :
    ((s.writeConfig r vs).finish s).iou.general.getLsbD o.val =
      (s.iou.general.getLsbD o.val && decide (s.outputFn o = ((s.writeConfig r vs).finish s).outputFn o)) := by
  rw [(written_iou s r vs).2.2, getLsbD_dropGeneral]
  have hfn : ((s.writeConfig r vs).finish s).outputFn o = cell (writeRecord r vs s.cfs.settings).outputs.fn o := by
    rw [State.outputFn, written_cfs]
  rw [hfn]
  rfl

theorem items_nonempty (hlen : items.length = (itemTests record.toNat).length) : items.isEmpty = false := by
  rw [List.isEmpty_eq_false_iff_exists_mem, ← List.length_pos_iff_exists_mem, hlen]
  exact (length_itemTests _).1

/-- R198: the reply to a record written carries the record. -/
theorem written_answered (items : List Half)
    (hitems : recordItems record.toNat ((s.writeConfig record.toNat (items.map BitVec.toNat)).finish s).cfs.settings =
      items.map BitVec.toNat) :
    AnsweredWith (replyBytes 0x01 (record :: (items.map fun i => twoBytes i.toNat).flatten)) s
      (s.replied (.configWrite record items) ((s.writeConfig record.toNat (items.map BitVec.toNat)).finish s)) := by
  set u := s.writeConfig record.toNat (items.map BitVec.toNat) with hu
  have hmask : (u.finish s).sl.mask = s.sl.mask := by
    refine (finishBut_mask none u s).trans ?_
    rw [hu, (writeConfig_frame record.toNat _ s).2.2.2.2.2.2.1]
  have hdata : replyData (.configWrite record items) s (u.finish s) =
      record :: (items.map fun i => twoBytes i.toNat).flatten := by
    rw [replyData, configRecord, hitems, List.map_map]
    rfl
  have hanswer := replied_answered s (u.finish s) (.configWrite record items) hmask
  rw [hdata] at hanswer
  exact hanswer

/-- CONFIG_WRITE with contents in range. -/
theorem configWrite_taken (h : LinkClear s) (hm : s.rsq.mode = .config) (hr : record.toNat < 15)
    (hlen : items.length = (itemTests record.toNat).length)
    (hgood : firstBad 1 (itemTests record.toNat) (items.map BitVec.toNat) = none) :
    exec (.configWrite record items) s =
        .next (s.replied (.configWrite record items) ((s.writeConfig record.toNat (items.map BitVec.toNat)).finish s)) ∧
      recordItems record.toNat ((s.writeConfig record.toNat (items.map BitVec.toNat)).finish s).cfs.settings =
        items.map BitVec.toNat := by
  have hj : s.judge (.configWrite record items) = none := by
    rw [judge_configWrite hm hr (.inr hlen), hgood]
    rfl
  have hne := items_nonempty hlen
  have hrun := exec_replied h (r := .configWrite record items) rfl (by simp) (payload_configWrite (.inr hlen)) hj .recessive
  have heffect : s.effect (.configWrite record items) = (s.writeConfig record.toNat (items.map BitVec.toNat)).finish s := by
    simp only [State.effect, hne]
    rfl
  rw [heffect] at hrun
  refine ⟨hrun, ?_⟩
  rw [written_cfs]
  exact recordItems_writeRecord (by rw [List.length_map, hlen]) (itemsPass_of_judge hj hne)

/-- Settles O34: the items held are `recordItems_writeRecord`, the other effects `recorded_spec` and `writeConfig_spec`. -/
theorem configWritten : Obligations.ConfigWritten := by
  intro s record items h hm hr
  refine ⟨?_, fun hlen => ⟨fun n hn => ?_, fun hgood => ?_⟩⟩
  · have hj : s.judge (.configWrite record []) = none := by
      rw [judge_configWrite hm hr (.inl rfl), List.map_nil, firstBad_nil]
      rfl
    exact ⟨_, exec_replied h (r := .configWrite record []) rfl (by simp) (payload_configWrite (.inl rfl)) hj .recessive, rfl⟩
  · have hj : s.judge (.configWrite record items) = some (.configInvalid, n) := by
      rw [judge_configWrite hm hr (.inr hlen), hn]
      rfl
    exact ⟨_, congrArg Host.Outcome.next (deliverRequest_clear h (payload_configWrite (.inr hlen))), takeRequest_refused h hj⟩
  · obtain ⟨hrun, hitems⟩ := configWrite_taken h hm hr hlen hgood
    have hanswer := written_answered (s := s) items hitems
    set vs := items.map BitVec.toNat with hvs
    have hcfs := written_cfs s record.toNat vs
    have hli := written_li hm record.toNat vs
    have hchannel := written_channel hm hr vs
    have hlatch := written_latch s record.toNat vs
    have hgeneral := written_general s record.toNat vs
    obtain ⟨hiou, -, -⟩ := written_iou s record.toNat vs
    obtain ⟨-, frsq, fps, falc, fca, fll, fpins, fp, fpt, -⟩ := written_finish hm vs record.toNat
    obtain ⟨-, -, ulowest, -⟩ := writeConfig_spec s record.toNat vs
    have urestore := writeConfig_restoreTimer record.toNat vs s
    have hshown := (finishBut_shows none (s.writeConfig record.toNat vs) s).1
    have hother (r : Nat) (hr' : r < 15) (hne : r ≠ record.toNat) :
        recordItems r ((s.writeConfig record.toNat vs).finish s).cfs.settings = recordItems r s.cfs.settings := by
      rw [hcfs]
      exact recordItems_writeRecord_ne hr hr' hne
    rw [← fll] at ulowest urestore
    have hvalid : ((s.writeConfig record.toNat vs).finish s).cfs.valid = false := by rw [hcfs]
    have hcause : ((s.writeConfig record.toNat vs).finish s).cfs.resetCause = s.cfs.resetCause := by rw [hcfs]
    change OutputsShown ((s.writeConfig record.toNat vs).finish s) at hshown
    generalize (s.writeConfig record.toNat vs).finish s = f at *
    exact ⟨_, hrun, hitems, hother, hvalid, hcause, fp, frsq, fpt, fps, falc, fca, fpins, hli, ulowest, urestore, hchannel,
      hlatch, hiou, hgeneral, hshown.same rfl rfl rfl rfl rfl rfl rfl, hanswer⟩

end Config

end Machine
end Sys2Proof

/-!
PROOFS. JOIN: the checks of the configuration and what each block begins (R31, R76, R77, R80, R142, R200, R201; O35).
-/

namespace Sys2Proof
namespace Machine

section Checks

variable {c : Settings}

/-! ### The checks of JOIN (R200) -/

theorem firstFailed_eq_none_iff (l : List Bool) : firstFailed l = none ↔ ∀ b ∈ l, b = true := by
  simp [firstFailed, List.findIdx?_eq_none_iff]

theorem bindingsHold_iff (c : Settings) :
    bindingsHold c = true ↔
      ∀ i k, cell c.inputs.fn i = .channelReq k → (cell c.channels k).source ≠ .link ∧ (cell c.channels k).rating ≠ 0 := by
  rw [bindingsHold, List.all_eq_true]
  refine ⟨fun h i k hi => ?_, fun h i _ => ?_⟩
  · have hx := h i (mem_sixteen i)
    rw [hi] at hx
    simpa using hx
  · split
    next k hi => simpa using h i k hi
    next => rfl

/-- At most one member of a list of distinct elements passes a test exactly when those that pass are equal. -/
theorem length_filter_le_one_iff {α : Type} [DecidableEq α] {l : List α} (hl : l.Nodup) (p : α → Bool) :
    (l.filter p).length ≤ 1 ↔ ∀ a ∈ l, ∀ b ∈ l, p a = true → p b = true → a = b := by
  rw [← List.toFinset_card_of_nodup (hl.filter p), Finset.card_le_one]
  simp only [List.mem_toFinset, List.mem_filter]
  exact ⟨fun h a ha b hb hpa hpb => h a ⟨ha, hpa⟩ b ⟨hb, hpb⟩, fun h a ha b hb => h a ha.1 b hb.1 ha.2 hb.2⟩

theorem outputsDistinct_iff (c : Settings) :
    outputsDistinct c = true ↔
      ∀ o p k, cell c.outputs.fn o = .channel k → cell c.outputs.fn p = .channel k → o = p := by
  rw [outputsDistinct, List.all_eq_true]
  refine ⟨fun h o p k ho hp => ?_, fun h k _ => ?_⟩
  · have hk := (length_filter_le_one_iff (by decide) _).1 (of_decide_eq_true (h k (mem_eight k)))
    exact hk o (mem_sixteen o) p (mem_sixteen p) (beq_iff_eq.2 ho) (beq_iff_eq.2 hp)
  · refine decide_eq_true ((length_filter_le_one_iff (by decide) _).2 fun a _ b _ ha hb => ?_)
    exact h a b k (beq_iff_eq.1 ha) (beq_iff_eq.1 hb)

/-- R200: what the checks of JOIN ask. -/
theorem joinChecks_hold_iff (c : Settings) :
    firstFailed (joinChecks c) = none ↔
      c.station.address.val < c.station.roundLength ∧ c.station.staleMs < c.station.lostMs ∧
        c.apportion.vFloor + 50 ≤ c.apportion.vKnee ∧
        (c.station.role = .pole →
          c.pole.contactLo + 20 ≤ c.pole.contactHi ∧ c.pole.tGap + c.pole.hyst + 10 ≤ c.pole.tLow) ∧
        (∀ i k, cell c.inputs.fn i = .channelReq k →
          (cell c.channels k).source ≠ .link ∧ (cell c.channels k).rating ≠ 0) ∧
        ∀ o p k, cell c.outputs.fn o = .channel k → cell c.outputs.fn p = .channel k → o = p := by
  have hrole (p q : Prop) [Decidable p] [Decidable q] :
      (c.station.role != .pole || (decide p && decide q)) = true ↔ (c.station.role = .pole → p ∧ q) := by
    rw [Bool.or_eq_true, Bool.and_eq_true, bne_iff_ne, decide_eq_true_eq, decide_eq_true_eq, ne_eq, ← imp_iff_not_or]
  rw [firstFailed_eq_none_iff]
  simp only [joinChecks, List.mem_cons, List.not_mem_nil, or_false, forall_eq_or_imp, forall_eq, decide_eq_true_eq, hrole,
    bindingsHold_iff, outputsDistinct_iff]

end Checks

section Levels

variable {s : State}

/-! ### The channels that JOIN requests (R76, R80) -/

/-- R76: channel `k` is to be requested at JOIN. -/
def State.levelAsked (s : State) (k : Fin 8) : Bool := (s.channelCfg k).source = .inputLevel && s.channelReqActive k

/-- R76: one channel's turn. -/
def State.levelTurn (s : State) (k : Fin 8) : State := if s.levelAsked k then s.inputRequest k Channel.request else s

theorem requestLevels_eq (s : State) : s.requestLevels = eight.foldl State.levelTurn s := rfl

theorem levelTurn_asked (s : State) (k j : Fin 8) : (s.levelTurn k).levelAsked j = s.levelAsked j := by
  unfold State.levelTurn State.inputRequest
  split
  · dsimp only
    split <;> rfl
  · rfl

theorem levelTurn_channel (s : State) (k j : Fin 8) :
    (s.levelTurn k).channel j = if j = k ∧ s.levelAsked k = true then (s.channel j).request else s.channel j := by
  have hon : (s.onChannel k Channel.request).channel j = if j = k then (s.channel j).request else s.channel j := by
    by_cases hj : j = k
    · subst hj
      simp [State.onChannel]
    · rw [if_neg hj]
      exact channel_withChannel_ne _ _ hj
  unfold State.levelTurn
  by_cases h : s.levelAsked k = true
  · rw [if_pos h]
    have hrequest : (s.inputRequest k Channel.request).channel j = (s.onChannel k Channel.request).channel j := by
      unfold State.inputRequest
      dsimp only
      split <;> rfl
    rw [hrequest, hon]
    by_cases hj : j = k <;> simp [hj, h]
  · rw [if_neg h, if_neg fun hx => h hx.2]

theorem foldl_levelTurn_channel (l : List (Fin 8)) (hl : l.Nodup) (j : Fin 8) :
    (l.foldl State.levelTurn s).channel j = if j ∈ l ∧ s.levelAsked j = true then (s.channel j).request else s.channel j := by
  induction l generalizing s with
  | nil => simp
  | cons k l ih =>
    obtain ⟨hk, hl⟩ := List.nodup_cons.1 hl
    rw [List.foldl_cons, ih hl, levelTurn_asked, levelTurn_channel]
    by_cases hj : j = k
    · subst hj
      simp [hk]
    · simp [hj]

theorem requestLevels_channel (s : State) (j : Fin 8) :
    s.requestLevels.channel j = if s.levelAsked j = true then (s.channel j).request else s.channel j := by
  rw [requestLevels_eq, foldl_levelTurn_channel eight (by decide) j]
  simp [mem_eight]

theorem requestLevels_lowest (s : State) : s.requestLevels.ll.lowest = s.ll.lowest := by
  rw [requestLevels_eq]
  refine foldl_keeps (fun t : State => t.ll.lowest = s.ll.lowest) _ (fun t k ht => ?_) _ s rfl
  rw [← ht]
  unfold State.levelTurn State.inputRequest
  split
  · dsimp only
    split <;> rfl
  · rfl

/-- R80: a channel fresh from reset that is requested waits, unless it is UNUSED. -/
theorem request_fresh (rating : Nat) :
    (freshChannel rating).request =
      if rating ≠ 0 then { requested := true, masked := false, state := .waiting, shedCause := .none } else freshChannel rating := by
  by_cases h : rating = 0
  · subst h
    rfl
  · rw [if_pos h]
    simp [freshChannel, Channel.request, h]

end Levels

section Joining

variable {s u old : State}

/-! ### The event of a JOIN (R31, R52, R76, R142, R201) -/

/-- R28: with no pole under supervision and no stop entry acknowledged, the end of an event leaves the rounds, the poles
and the alarm list. -/
theorem finish_unsupervised (hm : u.rsq.mode ≠ .config) (hs : u.ps.supervising = false) (ha : u.ownAcknowledged .deskStop = false)
    (old : State) : (u.finish old).rsq = u.rsq ∧ (u.finish old).ps = u.ps ∧ (u.finish old).alc = u.alc := by
  have hreviewed : u.reviewed old = u := by
    rw [State.reviewed, polesEnd_of_not (fun h => by rw [hs] at h; exact Bool.false_ne_true h.2), clearStop_eq, State.clearIf, ha]
    rfl
  obtain ⟨-, hrsq, hps, halc, -⟩ := finishBut_blocks none u old
  rw [blocksEnd_of_joined hm, hreviewed] at hrsq hps halc
  exact ⟨hrsq.trans (by simp), hps.trans (by simp), halc.trans (by simp)⟩

/-- R31, R201: what JOIN has begun, the channels apart. -/
theorem join_fields (s : State) :
    s.join.cfs = { s.cfs with valid := true } ∧ s.join.rsq = { s.rsq with mode := .listen, idleCount := some 0 } ∧
      s.join.li = s.li.taking .discard [] ∧ s.join.pt = s.pt ∧ s.join.ps = s.ps ∧ s.join.pins = s.pins ∧
      s.join.pending = s.pending ∧ s.join.iou = s.iou ∧ s.join.ca = s.ca ∧ s.join.alc = s.joinListed.alc := by
  rw [join_eq]
  simp

/-- R31: a STOP_BUTTON active at JOIN is listed. -/
theorem joinListed_alc (h : s.alc = {}) :
    s.joinListed.alc =
      { ({} : AlarmController) with
        entries := if s.activeStops = 0 then [] else [⟨.station s.own, .deskStop, none, .pending, .localRaise, 0, 0⟩] } := by
  have halc : s.joinBegun.alc = {} := h
  have halarms : s.joinBegun.alarms = [] := congrArg AlarmController.entries halc
  have hstops : s.joinBegun.activeStops = s.activeStops := rfl
  unfold State.joinListed
  rw [hstops]
  split
  · exact halc
  · have hnew : s.joinBegun.listed (.station s.joinBegun.own) .deskStop = false := by
      rw [State.listed, halarms]
      rfl
    have hroom : s.joinBegun.alarms.length < Figures.alarmCapacity := by
      rw [halarms]
      decide
    unfold State.raiseOwn
    dsimp only
    rw [hnew, if_neg (by decide), if_pos hroom, State.withAlarms, withAlc_alc, halc, halarms]
    rfl

/-- R76: a channel at JOIN, from its value after reset. -/
theorem join_channel (h : ∀ k, s.channel k = freshChannel (s.rating k)) (k : Fin 8) :
    s.join.channel k =
      if (s.channelCfg k).source = .inputLevel ∧ s.channelReqActive k = true ∧ s.rating k ≠ 0 then
        { requested := true, masked := false, state := .waiting, shedCause := .none }
      else s.channel k := by
  have hll : s.joinListed.ll = s.ll := (joinListed_frame s).2.2.2.2.2.2.2.1
  have hasked : s.joinListed.levelAsked k = s.levelAsked k := by
    unfold State.levelAsked State.channelCfg State.channelReqActive State.inputFn State.inputActive
    simp
  have hstart (v : State) : v.restoreStarted.channel k = v.channel k := rfl
  rw [join_eq, hstart, requestLevels_channel, hasked, channel_congr hll, h k, request_fresh]
  by_cases hask : s.levelAsked k = true
  · have hboth := hask
    rw [State.levelAsked, Bool.and_eq_true, decide_eq_true_eq] at hboth
    obtain ⟨hsource, hactive⟩ := hboth
    by_cases hrating : s.rating k = 0 <;> simp [hask, hsource, hactive, hrating]
  · rw [if_neg hask, if_neg]
    rintro ⟨hsource, hactive, -⟩
    refine hask ?_
    rw [State.levelAsked, Bool.and_eq_true, decide_eq_true_eq]
    exact ⟨hsource, hactive⟩

theorem restoreStarted_ll (s : State) :
    s.restoreStarted.ll.restoreTimer = some 0 ∧ s.restoreStarted.ll.lowest = s.ll.lowest := ⟨rfl, rfl⟩

theorem join_ll (s : State) : s.join.ll.restoreTimer = some 0 ∧ s.join.ll.lowest = s.ll.lowest := by
  rw [join_eq]
  obtain ⟨htimer, hlowest⟩ := restoreStarted_ll s.joinListed.requestLevels
  refine ⟨htimer, hlowest.trans ?_⟩
  rw [requestLevels_lowest, (joinListed_frame s).2.2.2.2.2.2.2.1]

theorem mask_join (s : State) : s.join.sl.mask = s.sl.mask := by
  have hstart (v : State) : v.restoreStarted.sl = v.sl := rfl
  rw [join_eq, hstart, requestLevels_eq, ← (joinListed_frame s).2.2.2.2.2.2.2.2.2.1]
  refine foldl_keeps (fun t : State => t.sl.mask = s.joinListed.sl.mask) _ (fun t k ht => ?_) eight _ rfl
  rw [← ht]
  unfold State.levelTurn State.inputRequest
  split
  · dsimp only
    split
    · rfl
    · rw [setTopics_sl]
      rfl
  · rfl

theorem judge_join (hm : s.rsq.mode = .config) :
    s.judge .join = (firstFailed (joinChecks s.cfs.settings)).map fun n => (.configInvalid, n) :=
  judge_obstacle rfl (by rw [hm]; rfl) rfl rfl

/-- R57: the line condition with no peer heard, in a station whose poles hold their values after reset. -/
theorem judgeLine_at_join {t : State} (halarm : t.alarmEffect = false) (hps : t.ps = {}) (hpeer : ∀ a, t.peer a = {}) :
    t.judgeLine = if t.li.stuck = true ∨ t.role ≠ .pole then .unknown else .offWire := by
  rw [State.judgeLine, halarm]
  by_cases hp : t.role = .pole
  · have hsources : t.poleSources = [⟨0, some .initial, some .initial, some .none, false⟩] := by
      rw [State.poleSources, if_pos hp, hps]
    rw [hsources]
    cases t.li.stuck <;> simp [hp, PoleSource.offWire]
  · have hsources : t.poleSources = [] := poleSources_eq_nil hp fun a => by rw [hpeer]; rfl
    simp [hsources, hp]

/-- What the event of a JOIN leaves outside the current and the channels. -/
theorem joined_blocks (hm : s.rsq.mode = .config) (hq : Quiet s) :
    let t := s.join.finish s
    t.cfs = { s.cfs with valid := true } ∧ t.rsq = { s.rsq with mode := .listen, idleCount := some 0 } ∧
      t.li = s.li.taking .discard [] ∧ t.pt = s.pt ∧ t.ps = s.ps ∧ t.pins = s.pins ∧ t.pending = s.pending ∧ SameInputs s t ∧
      t.alc =
        { ({} : AlarmController) with
          entries := if s.activeStops = 0 then [] else [⟨.station s.own, .deskStop, none, .pending, .localRaise, 0, 0⟩] } ∧
      t.sl.summary.mode = true ∧ t.sl.mask = s.sl.mask := by
  obtain ⟨ucfs, ursq, uli, upt, ups, upins, upending, uiou, -, ualc⟩ := join_fields s
  have umask := mask_join s
  rw [joinListed_alc hq.alarms] at ualc
  generalize s.join = u at *
  intro t
  have hack : u.ownAcknowledged .deskStop = false := by
    rw [State.ownAcknowledged, State.alarms, ualc]
    split <;> simp
  obtain ⟨frsq, fps, falc⟩ := finish_unsupervised (u := u) (by rw [ursq]; simp) (by rw [ups, hq.poles]) hack s
  obtain ⟨fli, fpins⟩ := finish_line_of_not s (u := u) (.inl (by rw [ursq]; simp))
  obtain ⟨fpending, fcfs, fpt⟩ := finishBut_frame u none s
  have hiou : t.iou = { u.iou with outputs := t.iou.outputs } := finishBut_iou none u s
  have hmode : t.rsq.mode = .listen := by rw [show t.rsq = u.rsq from frsq, ursq]
  have hchanged : (changedTopics none s t).mode = true := by
    have hne : (s.rsq.mode != t.rsq.mode) = true := by
      rw [hmode, hm]
      rfl
    rw [changedTopics, hne, Bool.true_or]
  have hsummary : t.sl.summary = u.sl.summary.union (changedTopics none s t) := finish_summary u s
  refine ⟨fcfs.trans ucfs, frsq.trans ursq, fli.trans uli, fpt.trans upt, fps.trans ups, fpins.trans upins,
    fpending.trans upending, ?_, falc.trans ualc, ?_, (finishBut_mask none u s).trans umask⟩
  · rw [uiou] at hiou
    exact hiou
  · rw [hsummary, Topics.union, hchanged, Bool.or_true]

/-- What the event of a JOIN leaves of the current and the channels. -/
theorem joined_current (hm : s.rsq.mode = .config) (hq : Quiet s) :
    let t := s.join.finish s
    t.ll.restoreTimer = some 0 ∧ t.ll.lowest = s.ll.lowest ∧
      (∀ k, t.channel k =
        if (s.channelCfg k).source = .inputLevel ∧ s.channelReqActive k = true ∧ s.rating k ≠ 0 then
          { requested := true, masked := false, state := .waiting, shedCause := .none }
        else s.channel k) ∧
      t.ca.allowance = 0 ∧ t.ca.lineCondition = (if s.li.stuck = true ∨ s.role ≠ .pole then .unknown else .offWire) := by
  obtain ⟨tcfs, -, tli, tpt, tps, -, -, -, talc, -⟩ := joined_blocks hm hq
  obtain ⟨-, ursq, -⟩ := join_fields s
  have hend := currentEnd_finish (u := s.join) s (by rw [ursq]; simp)
  have uchannel := join_channel hq.channels
  obtain ⟨urestore, ulowest⟩ := join_ll s
  generalize s.join = u at *
  intro t
  have hoff (k : Fin 8) : (u.channel k).state ≠ .on := by
    rw [uchannel k, hq.channels k]
    split
    · simp
    · unfold freshChannel
      dsimp only
      split <;> simp
  have halarm : t.alarmEffect = false := by
    rw [alarmEffect_iff, State.alarms, show t.alc = _ from talc]
    refine ⟨?_, rfl, rfl⟩
    dsimp only
    split <;> simp [givesAlarm]
  have hpeer (a : Fin 16) : t.peer a = {} := (peer_congr tpt a).trans (hq.peers a)
  have hstuck : t.li.stuck = s.li.stuck := by rw [show t.li = _ from tli]; rfl
  have hrole : t.role = s.role := by rw [State.role, State.station, show t.cfs = _ from tcfs]; rfl
  refine ⟨hend.restore.trans urestore, hend.lowest.trans ulowest,
    fun k => ((hend.sheds k).eq_of_not_on (hoff k)).trans (uchannel k), ?_, ?_⟩
  · rw [show t.ca.allowance = _ from hend.allowance, if_neg (by rw [ursq]; simp)]
  · rw [show t.ca.lineCondition = t.judgeLine from hend.line, judgeLine_at_join halarm (tps.trans hq.poles) hpeer, hstuck, hrole]

/-- Settles O35: the checks are `joinChecks_hold_iff`, and the event of JOIN is `joined_blocks` and `joined_current`. -/
theorem joined : Obligations.Joined := by
  intro s h hm hquiet
  have hq : Quiet s := (configQuiet_iff s).1 hquiet hm
  refine ⟨fun n hn => ?_, joinChecks_hold_iff _, fun hchecks => ?_⟩
  · have hj : s.judge .join = some (.configInvalid, n) := by
      rw [judge_join hm, hn]
      rfl
    refine ⟨_, congrArg Host.Outcome.next (deliverRequest_clear h ?_), takeRequest_refused h hj⟩
    simp [requestPayload, Figures.payloadMax]
  · have hj : s.judge .join = none := by
      rw [judge_join hm, hchecks]
      rfl
    have hrun := exec_replied h (r := .join) rfl (by simp) (by simp [requestPayload, Figures.payloadMax]) hj .recessive
    have heffect : s.effect .join = s.join.finish s := rfl
    rw [heffect] at hrun
    obtain ⟨tcfs, trsq, tli, tpt, tps, tpins, tpending, tinputs, talc, tmode, tmask⟩ := joined_blocks hm hq
    obtain ⟨trestore, tlowest, tchannel, tallowance, tline⟩ := joined_current hm hq
    generalize s.join.finish s = t at *
    have hdata : replyData .join s t = [1] := by
      rw [replyData, trsq]
      rfl
    have hanswer := replied_answered s t .join tmask
    rw [hdata] at hanswer
    refine ⟨_, hrun, tcfs, trsq, tli.trans rfl, tpt, tps, tpins, tpending, tinputs, trestore, tlowest, tchannel, ?_, tallowance,
      tline, tmode, hanswer⟩
    exact (congrArg AlarmController.entries talc).trans rfl

end Joining

end Machine
end Sys2Proof

/-!
PROOFS. Inputs sampled and settled: the record of the input, the change set and the INPUTS topic (R170, R172; O36, O37).
-/

namespace Sys2Proof
namespace Machine

section Sampled

variable {s t u : State} {i : Fin 16} {active : Bool}

/-! ### What a sample leaves of the inputs (R170) -/

theorem TopicsGrow.inputs (h : TopicsGrow s t) (hs : s.sl.summary.inputs = true) : t.sl.summary.inputs = true := by
  rw [← h.2, Topics.union, hs, Bool.true_or]

theorem getLsbD_addBit_fin {n : Nat} (m : BitVec n) (k j : Fin n) :
    (addBit m k.val).getLsbD j.val = (m.getLsbD j.val || decide (j = k)) := by
  rw [getLsbD_addBit]
  by_cases h : j = k
  · simp [h]
  · simp [h, Fin.val_inj]

theorem getLsbD_dropBit_fin {n : Nat} (m : BitVec n) (k j : Fin n) :
    (dropBit m k.val).getLsbD j.val = (m.getLsbD j.val && decide (j ≠ k)) := by
  rw [getLsbD_dropBit]
  simp [Fin.val_inj]

theorem finish_iou (u old : State) : (u.finish old).iou = { u.iou with outputs := (u.finish old).iou.outputs } :=
  finishBut_iou none u old

/-- R172: the inputs after a debounced change. -/
theorem changeInput_iou (s : State) (i : Fin 16) (active : Bool) :
    (s.changeInput i active).iou =
      { s.iou with
        inputs := setCell s.iou.inputs i { cell s.iou.inputs i with value := levelOf active }
        changeSet := addBit s.iou.changeSet i.val } := by
  unfold State.changeInput
  dsimp only
  split
  · rfl
  · obtain ⟨-, -, -, -, -, hiou, -⟩ := deliver_frame
      (((s.withInput i { cell s.iou.inputs i with value := levelOf active }).withIou
        { (s.withInput i { cell s.iou.inputs i with value := levelOf active }).iou with
          changeSet := addBit s.iou.changeSet i.val }).setTopics { inputs := true })
      i (cell s.iou.inputs i).value active s.activeStops
    exact hiou

theorem changeInput_tells (s : State) (i : Fin 16) (active : Bool) : (s.changeInput i active).sl.summary.inputs = true := by
  unfold State.changeInput
  dsimp only
  split
  · rw [setTopics_sl]
    exact Bool.or_true _
  · refine (topicsGrow_deliver _ i _ active _).inputs ?_
    rw [setTopics_sl]
    exact Bool.or_true _

/-- R170: the sample of the millisecond is one whose level differs and that is the first of it. -/
def State.takes (i : Fin 16) (active : Bool) (s : State) : Bool :=
  (cell s.iou.inputs i).lastRaw != active && !s.iou.sampled.getLsbD i.val

/-- R170: a sample taken settles its input at once. -/
def State.settlesAtOnce (i : Fin 16) (active : Bool) (s : State) : Bool :=
  s.takes i active && decide (s.cfs.settings.inputs.debounce ≤ 1) && (cell s.iou.inputs i).value != levelOf active

/-- R170: the inputs once a sample that differs has been taken. -/
def State.sampleTaken (i : Fin 16) (active : Bool) (s : State) : State :=
  ((s.contact i active).withIou { s.iou with sampled := addBit s.iou.sampled i.val }).settled i |>.withInput i
    ⟨active, 1, (cell s.iou.inputs i).value⟩

theorem sampleInput_eq (s : State) (i : Fin 16) (active : Bool) :
    s.sampleInput i active =
      if s.settlesAtOnce i active = true then (s.sampleTaken i active).changeInput i active
      else if s.takes i active = true then s.sampleTaken i active else s.contact i active := by
  rw [State.settlesAtOnce]
  cases htakes : s.takes i active with
  | false =>
    have hguard : (cell s.iou.inputs i).lastRaw = active ∨ s.iou.sampled.getLsbD i.val = true := by
      simpa [State.takes, or_iff_not_imp_left] using htakes
    simp only [State.sampleInput, Bool.or_eq_true, decide_eq_true_eq, if_pos hguard, Bool.false_and, Bool.false_eq_true,
      if_false]
  | true =>
    have hguard : ¬((cell s.iou.inputs i).lastRaw = active ∨ s.iou.sampled.getLsbD i.val = true) := by
      simpa [State.takes] using htakes
    have hx : (cell s.iou.inputs i).sampled active = ⟨active, 1, (cell s.iou.inputs i).value⟩ := by
      rw [Input.sampled, if_neg fun h => hguard (.inl h)]
    have htake : s.sampleInput i active =
        ((s.contact i active).withIou { s.iou with sampled := addBit s.iou.sampled i.val }).takeSample i active := by
      simp only [State.sampleInput, Bool.or_eq_true, decide_eq_true_eq, if_neg hguard]
      rfl
    rw [htake, State.takeSample]
    change (if Input.settles _ ((cell s.iou.inputs i).sampled active) = true then State.changeInput i active
        (State.withInput i ((cell s.iou.inputs i).sampled active) _) else State.withInput i ((cell s.iou.inputs i).sampled active) _) = _
    rw [hx]
    simp only [Input.settles, Bool.true_and, if_true]
    rfl

/-- R170: what a sample leaves of the inputs. -/
theorem sampleInput_iou (s : State) (i : Fin 16) (active : Bool) :
    let t := s.sampleInput i active
    cell t.iou.inputs i =
      (if s.takes i active = true then
        ⟨active, 1, if s.settlesAtOnce i active = true then levelOf active else (cell s.iou.inputs i).value⟩
      else cell s.iou.inputs i) ∧
    (∀ j, j ≠ i → cell t.iou.inputs j = cell s.iou.inputs j) ∧
    t.iou =
      { s.iou with
        inputs := t.iou.inputs
        changeSet := if s.settlesAtOnce i active = true then addBit s.iou.changeSet i.val else s.iou.changeSet
        sampled := if s.takes i active = true then addBit s.iou.sampled i.val else s.iou.sampled
        settling := if s.takes i active = true then dropBit s.iou.settling i.val else s.iou.settling } := by
  have htaken : (s.sampleTaken i active).iou =
      { s.iou with
        inputs := setCell s.iou.inputs i ⟨active, 1, (cell s.iou.inputs i).value⟩
        sampled := addBit s.iou.sampled i.val
        settling := dropBit s.iou.settling i.val } := rfl
  rw [sampleInput_eq]
  dsimp only
  by_cases hsettles : s.settlesAtOnce i active = true
  · have htakes : s.takes i active = true := by
      simp only [State.settlesAtOnce, Bool.and_eq_true] at hsettles
      exact hsettles.1.1
    simp only [if_pos hsettles, if_pos htakes, changeInput_iou, htaken, cell_setCell_self, true_and, and_true]
    exact fun j hj => by rw [cell_setCell_ne _ _ hj, cell_setCell_ne _ _ hj]
  · by_cases htakes : s.takes i active = true
    · simp only [if_neg hsettles, if_pos htakes, htaken, cell_setCell_self, true_and, and_true]
      exact fun j hj => cell_setCell_ne _ _ hj
    · simp only [if_neg hsettles, if_neg htakes]
      exact ⟨rfl, fun _ _ => rfl, rfl⟩

theorem sampleInput_contacts (s : State) (i : Fin 16) (active : Bool) (j : Fin 16) :
    (s.sampleInput i active).pins.contacts.getLsbD j.val = if j = i then active else s.pins.contacts.getLsbD j.val := by
  have hcontact : (s.sampleInput i active).pins = (s.contact i active).pins := by
    rw [sampleInput_eq]
    split
    · obtain ⟨-, -, -, -, -, hpins⟩ := changeInput_frame (s.sampleTaken i active) i active
      rw [hpins]
      rfl
    · split <;> rfl
  rw [hcontact]
  change (if active = true then addBit s.pins.contacts i.val else dropBit s.pins.contacts i.val).getLsbD j.val = _
  cases active with
  | true => by_cases h : j = i <;> simp only [if_true, getLsbD_addBit_fin, h, decide_true, decide_false, Bool.or_true,
      Bool.or_false, if_false]
  | false => by_cases h : j = i <;> simp only [Bool.false_eq_true, if_false, getLsbD_dropBit_fin, h, ne_eq,
      not_true_eq_false, not_false_eq_true, decide_true, decide_false, Bool.and_true, Bool.and_false, if_true]

end Sampled

/-- Settles O36: the sample is taken exactly where its level differs and the input has not been sampled; the event end
moves no item of the inputs but the outputs. -/
theorem inputSampled : Obligations.InputSampled := by
  intro s i active
  have hbody : s.body (.inputSample i active) = some (s.sampleInput i active) := rfl
  obtain ⟨hpending, hcfs, hpt, hca⟩ := body_input_frame rfl hbody
  obtain ⟨hself, hothers, hiou⟩ := sampleInput_iou s i active
  have hlink : SameLink s ((s.sampleInput i active).finish s) :=
    ((topicsGrow_sampleInput s i active).trans (topicsGrow_finish _ s)).1
  have hend := finish_iou (s.sampleInput i active) s
  obtain ⟨-, -, hcontacts⟩ := (samePins_iff _ _).1 (samePins_finish (s.sampleInput i active) s)
  have hinputs : ((s.sampleInput i active).finish s).iou.inputs = (s.sampleInput i active).iou.inputs := by
    rw [hend]
  refine ⟨_, exec_of_body hbody, ?_, fun j => ?_, fun j => ?_, fun j hj => ?_, ?_, fun hchange => ?_, ?_, fun j => ?_, ?_,
    ?_, hlink⟩
  · rw [hinputs]
    exact hself
  · rw [hend, hiou]
    change BitVec.getLsbD (if s.takes i active = true then _ else _) _ = (_ || s.takes i active && _)
    cases s.takes i active
    · simp only [Bool.false_eq_true, if_false, Bool.false_and, Bool.or_false]
    · simp only [if_true, getLsbD_addBit_fin, Bool.true_and]
  · rw [hend, hiou]
    change BitVec.getLsbD (if s.takes i active = true then _ else _) _ = (_ && !(s.takes i active && _))
    cases s.takes i active
    · simp only [Bool.false_eq_true, if_false, Bool.false_and, Bool.not_false, Bool.and_true]
    · simp only [if_true, getLsbD_dropBit_fin, Bool.true_and, ne_eq, decide_not]
  · rw [hinputs]
    exact hothers j hj
  · rw [hend, hiou]
    rfl
  · have htells : (s.sampleInput i active).sl.summary.inputs = true := by
      rw [sampleInput_eq, if_pos (show s.settlesAtOnce i active = true from hchange)]
      exact changeInput_tells _ i active
    exact (topicsGrow_finish _ s).inputs htells
  · rw [hend, hiou]
  · rw [hcontacts]
    exact sampleInput_contacts s i active j
  · simp
  · simp

section Changed

variable {s t u : State} {i : Fin 16} {active : Bool} {line : LineLevel}

/-! ### A debounced change (R170 to R173) -/

/-- R170: the state in which a debounced change is delivered. -/
def State.changed (i : Fin 16) (active : Bool) (line : LineLevel) (s : State) : State :=
  ((s.sense line).settled i).changeInput i active

theorem body_debouncedChange (h : ChangeDue i active s) :
    s.body (.debouncedChange i active line) = some (s.changed i active line) :=
  if_pos ((changeDue_iff s i active).2 h)

theorem changed_iou (s : State) (i : Fin 16) (active : Bool) (line : LineLevel) :
    (s.changed i active line).iou =
      { s.iou with
        inputs := setCell s.iou.inputs i { cell s.iou.inputs i with value := levelOf active }
        changeSet := addBit s.iou.changeSet i.val
        settling := dropBit s.iou.settling i.val } := by
  have hsense : (s.sense line).iou = s.iou := by simp
  have hsettled : ((s.sense line).settled i).iou = { s.iou with settling := dropBit s.iou.settling i.val } := by
    rw [State.settled, hsense]
    rfl
  rw [State.changed, changeInput_iou, hsettled]

/-- R173: in CONFIG a debounced change reaches no owner. -/
theorem changeInput_config (h : s.rsq.mode = .config) :
    (s.changeInput i active).rsq = s.rsq ∧ (s.changeInput i active).ps = s.ps ∧ (s.changeInput i active).alc = s.alc ∧
      (s.changeInput i active).ll = s.ll := by
  unfold State.changeInput
  dsimp only
  rw [if_pos h]
  exact ⟨rfl, rfl, rfl, rfl⟩

theorem changed_finish_config (h : s.rsq.mode = .config) :
    (s.changed i active line).finish s =
      { s.sense line with
        iou := ((s.changed i active line).finish s).iou, sl := ((s.changed i active line).finish s).sl } := by
  have hsettled : ((s.sense line).settled i).rsq.mode = .config := by simpa using h
  obtain ⟨hrsq, hps, halc, hll⟩ := changeInput_config (i := i) (active := active) hsettled
  obtain ⟨hpending, hcfs, hli, hpt, hca, hpins⟩ := changeInput_frame ((s.sense line).settled i) i active
  have hm : (s.changed i active line).rsq.mode = .config := (congrArg Sequencer.mode hrsq).trans hsettled
  obtain ⟨hli', hrsq', hps', halc', hca', hll', hpins'⟩ := finish_config hm s
  obtain ⟨hpending', hcfs', hpt'⟩ := finish_frame (s.changed i active line) s
  exact State.eq_of_blocks (hpending'.trans hpending) (hcfs'.trans hcfs) (hli'.trans hli) (hrsq'.trans hrsq)
    (hpt'.trans hpt) (hps'.trans hps) (halc'.trans halc) (hca'.trans hca) (hll'.trans hll) rfl rfl (hpins'.trans hpins)

theorem inputChanged_due (h : ChangeDue i active s) :
    ∃ t, exec (.debouncedChange i active line) s = .next t ∧
      cell t.iou.inputs i = { cell s.iou.inputs i with value := levelOf active } ∧
      (∀ j : Fin 16, t.iou.settling.getLsbD j.val = (s.iou.settling.getLsbD j.val && decide (j ≠ i))) ∧
      (∀ j, j ≠ i → cell t.iou.inputs j = cell s.iou.inputs j) ∧
      (∀ j : Fin 16, t.iou.changeSet.getLsbD j.val = (decide (j = i) || s.iou.changeSet.getLsbD j.val)) ∧
      t.iou =
        { s.iou with
          inputs := t.iou.inputs, changeSet := t.iou.changeSet, outputs := t.iou.outputs, settling := t.iou.settling } ∧
      t.sl.summary.inputs = true ∧ t.cfs = s.cfs ∧ t.pt = s.pt ∧
      t.sl = { s.sl with summary := t.sl.summary, attn := t.sl.attn } ∧
      (s.rsq.mode = .config → t = { s.sense line with iou := t.iou, sl := t.sl }) := by
  have hbody := body_debouncedChange (line := line) h
  obtain ⟨-, hcfs, hpt, -⟩ := body_input_frame rfl hbody
  have hgrow : TopicsGrow s (s.changed i active line) := (TopicsGrow.of_sl (by simp)).trans
    (topicsGrow_changeInput ((s.sense line).settled i) i active)
  have hlink : SameLink s ((s.changed i active line).finish s) := (hgrow.trans (topicsGrow_finish _ s)).1
  have hend := (finish_iou (s.changed i active line) s).trans (by rw [changed_iou])
  refine ⟨_, exec_of_body hbody, ?_, fun j => ?_, fun j hj => ?_, fun j => ?_, ?_, ?_, ?_, ?_, hlink,
    changed_finish_config⟩
  · rw [hend]
    exact cell_setCell_self _ _ _
  · rw [hend]
    exact getLsbD_dropBit_fin _ i j
  · rw [hend]
    exact cell_setCell_ne _ _ hj
  · rw [hend]
    exact (getLsbD_addBit_fin _ i j).trans (Bool.or_comm _ _)
  · rw [hend]
  · exact (topicsGrow_finish _ s).inputs (changeInput_tells _ i active)
  · rw [(finish_frame _ s).2.1, hcfs]
  · rw [(finish_frame _ s).2.2, hpt]

end Changed

/-- Settles O37: the command acts exactly where the sample of the millisecond settled the input, and then changes its
record, the change set and INPUTS; in CONFIG no owner receives it. -/
theorem inputChanged : Obligations.InputChanged := by
  refine ⟨fun s i active line h => ?_, fun s i active line h => inputChanged_due h⟩
  change Host.Outcome.next _ = _
  rw [if_neg fun hdue => h ((changeDue_iff s i active).1 hdue)]

end Machine
end Sys2Proof

/-!
PROOFS. Sample words: the latch, the quiet timer, the overdraw timer and the band (R3, R16, R69, R177, R178, R180; O39).
-/

namespace Sys2Proof
namespace Machine

section Words

variable {s t u v : State} {x : PoleId} {word : Half} {line : LineLevel}

/-! ### The word and its latch (R177, R178) -/

theorem wordChannel_val (w : Half) : (wordChannel w).val = w.toNat / 8192 := by
  have hw := w.isLt
  change (w >>> 13).toNat % 8 = _
  rw [BitVec.toNat_ushiftRight, Nat.shiftRight_eq_div_pow]
  omega

theorem wordValue_eq (w : Half) : wordValue w = w.toNat % 8192 :=
  (BitVec.toNat_and w 0x1FFF).trans (Nat.and_two_pow_sub_one_eq_mod w.toNat 13)

theorem wordChannel_eq {c : Fin 8} (h : word.toNat / 8192 = c.val) : wordChannel word = c :=
  Fin.ext ((wordChannel_val word).trans h)

theorem latch_congr (h : t.iou.latches = s.iou.latches) (c : Fin 8) : t.latch c = s.latch c := by
  rw [State.latch, State.latch, h]

/-- R178: the state in which the consumers of a word take it. -/
def State.arrived (word : Half) (line : LineLevel) (s : State) : State :=
  (s.sense line).latchArrival (wordChannel word) (wordValue word)

theorem body_sampleWord (s : State) (word : Half) (line : LineLevel) :
    s.body (.sampleWord word line) = some ((s.arrived word line).poleArrival (wordChannel word)) := rfl

theorem arrived_latch (s : State) (word : Half) (line : LineLevel) (c : Fin 8) :
    (s.arrived word line).latch c =
      if c.val = word.toNat / 8192 then ⟨min (channelMax c) (word.toNat % 8192), 0, false⟩ else s.latch c := by
  have hsense : (s.sense line).iou = s.iou := by simp
  by_cases h : c.val = word.toNat / 8192
  · rw [if_pos h]
    obtain rfl := wordChannel_eq h.symm
    rw [State.arrived, State.latchArrival, latch_withLatch_self, wordValue_eq]
  · rw [if_neg h]
    have hc : c ≠ wordChannel word := fun hc => h (hc ▸ wordChannel_val word)
    rw [State.arrived, State.latchArrival, latch_withLatch_ne _ _ hc]
    exact latch_congr (congrArg InputOutput.latches hsense) c

theorem arrived_latch_self {c : Fin 8} (h : word.toNat / 8192 = c.val) :
    (s.arrived word line).latch c = ⟨min (channelMax c) (word.toNat % 8192), 0, false⟩ := by
  rw [arrived_latch, if_pos h.symm]

theorem arrived_iou (s : State) (word : Half) (line : LineLevel) :
    (s.arrived word line).iou = { s.iou with latches := (s.arrived word line).iou.latches } := by
  have hsense : (s.sense line).iou = s.iou := by simp
  rw [State.arrived, State.latchArrival, State.withLatch, hsense]
  rfl

theorem arrived_blocks (s : State) (word : Half) (line : LineLevel) :
    (s.arrived word line).cfs = s.cfs ∧ (s.arrived word line).ps = s.ps ∧ (s.arrived word line).alc = s.alc ∧
      (s.arrived word line).ca = s.ca ∧ (s.arrived word line).rsq.mode = s.rsq.mode := by
  unfold State.arrived
  simp

/-! ### The pole consumers (R180) -/

theorem poleArrival_pole_only (c : Fin 8) (h : s.rsq.mode = .config ∨ s.role ≠ .pole) : s.poleArrival c = s := by
  unfold State.poleArrival
  dsimp only
  rw [if_pos (by simpa using h)]

theorem examineQuiet_pole (s : State) (x y : PoleId) :
    (s.examineQuiet x).pole y =
      if y = x ∧ (s.pole x).state = .lowerWait then
        { s.pole y with quietTimer := if s.quietCondition then (s.pole y).quietTimer <|> Timer.started else none }
      else s.pole y := by
  by_cases hr : (s.pole x).state = .lowerWait
  · have hself : s.withPole x (s.pole x) = s := by cases x <;> rfl
    have hquiet := examineQuiet_waiting s x (s.pole x) hr
    rw [hself] at hquiet
    rw [hquiet, withPole_pole]
    by_cases hy : y = x
    · rw [hy, if_pos rfl]
      exact (if_pos ⟨rfl, hr⟩).symm
    · rw [if_neg hy, if_neg fun h => hy h.1]
  · rw [if_neg fun h => hr h.2, State.examineQuiet, if_neg hr]

/-- R16: the quiet condition examined for both poles, at a pole that waits to come down. -/
theorem examineQuiet_both (h : (s.pole x).state = .lowerWait) :
    ((s.examineQuiet .p).examineQuiet .n).pole x =
      { s.pole x with quietTimer := if s.quietCondition then (s.pole x).quietTimer <|> Timer.started else none } := by
  have hcondition : (s.examineQuiet .p).quietCondition = s.quietCondition := quietCondition_congr (by simp) (by simp)
  rw [examineQuiet_pole, hcondition]
  cases x with
  | p =>
    rw [if_neg (fun h => nomatch h.1), examineQuiet_pole, if_pos ⟨rfl, h⟩]
  | n =>
    have hn : (s.examineQuiet .p).pole .n = s.pole .n := by rw [examineQuiet_pole, if_neg (fun h => nomatch h.1)]
    rw [hn, if_pos ⟨rfl, h⟩]

theorem poleArrival_currents {c : Fin 8} (hm : s.rsq.mode ≠ .config) (hp : s.role = .pole) (hs : s.ps.supervising = true)
    (hc : c.val = 2 ∨ c.val = 3) : s.poleArrival c = (s.examineQuiet .p).examineQuiet .n := by
  unfold State.poleArrival
  dsimp only
  rw [if_neg (by simp [hm, hp])]
  rcases hc with hc | hc
  · obtain rfl : c = 2 := Fin.ext hc
    exact if_pos hs
  · obtain rfl : c = 3 := Fin.ext hc
    exact if_pos hs

theorem poleArrival_line (hm : s.rsq.mode ≠ .config) (hp : s.role = .pole) :
    s.poleArrival 4 = s.lineArrival (s.latch 4).value := by
  unfold State.poleArrival
  exact if_neg (by simp [hm, hp])

theorem examineQualify_ps (s : State) (x : PoleId) :
    (s.examineQualify x).ps.band = s.ps.band ∧ (s.examineQualify x).ps.lineVoltage = s.ps.lineVoltage := by
  unfold State.examineQualify
  dsimp only
  split
  · exact ⟨rfl, rfl⟩
  · split
    · split
      · exact ⟨rfl, rfl⟩
      · cases x <;> exact ⟨rfl, rfl⟩
    · cases x <;> exact ⟨rfl, rfl⟩

theorem lineArrival_ps (s : State) (v : Nat) :
    (s.lineArrival v).ps.band = nextBand s.poleCfg s.ps.band v ∧ (s.lineArrival v).ps.lineVoltage = v := by
  unfold State.lineArrival
  dsimp only
  split
  · exact ⟨rfl, rfl⟩
  · simp only [examineQualify_ps]
    exact ⟨rfl, rfl⟩

/-- R3: the bands in their order, for every setting that JOIN passes. -/
theorem nextBand_table {g : PoleSettings} (b : Band) (v : Nat) (hg : g.tGap + g.hyst ≤ g.tLow) :
    (v < g.tGap → nextBand g b v = .none) ∧
      (g.tGap ≤ v → v < g.tGap + g.hyst → nextBand g b v = if b = .none then .none else .low) ∧
      (g.tGap + g.hyst ≤ v → v < g.tLow → nextBand g b v = .low) ∧
      (g.tLow ≤ v → v < g.tLow + g.hyst → nextBand g b v = if b = .normal then .normal else .low) ∧
      (g.tLow + g.hyst ≤ v → nextBand g b v = .normal) := by
  unfold nextBand
  refine ⟨fun h => if_pos h, fun h h' => ?_, fun h h' => ?_, fun h h' => ?_, fun h => ?_⟩
  · rw [if_neg (not_lt.2 h), if_pos h']
    cases b <;> rfl
  · rw [if_neg (by omega), if_neg (not_lt.2 h), if_pos h']
  · rw [if_neg (by omega), if_neg (by omega), if_neg (not_lt.2 h), if_pos h']
    cases b <;> rfl
  · rw [if_neg (by omega), if_neg (by omega), if_neg (by omega), if_neg (not_lt.2 h)]

theorem finish_tells_band (u old : State) (h : (u.finish old).ps.band ≠ old.ps.band) :
    (u.finish old).sl.summary.poles = true := by
  rw [finish_summary]
  simp only [Topics.union, changedTopics, Bool.or_eq_true, bne_iff_ne, ne_eq, Prod.mk.injEq]
  exact .inr fun hsame => h hsame.2.2.2.2.1.symm

/-! ### What a word leaves (R177 to R180) -/

/-- R180: in CONFIG a word reaches its latch alone. -/
theorem wordTaken_config (h : s.rsq.mode = .config) (u : State)
    (hu : u = (s.arrived word line).poleArrival (wordChannel word)) :
    u.finish s = { s.sense line with iou := (u.finish s).iou, sl := (u.finish s).sl } := by
  obtain ⟨-, -, -, -, hmode⟩ := arrived_blocks s word line
  rw [poleArrival_pole_only _ (.inl (hmode.trans h)), State.arrived] at hu
  have hm : u.rsq.mode = .config := by simp [hu, h]
  obtain ⟨hli, hrsq, hps, halc, hca, hll, hpins⟩ := finish_config hm s
  obtain ⟨hpending, hcfs, hpt⟩ := finish_frame u s
  exact State.eq_of_blocks (hpending.trans (by simp [hu])) (hcfs.trans (by simp [hu])) (hli.trans (by simp [hu]))
    (hrsq.trans (by simp [hu])) (hpt.trans (by simp [hu])) (hps.trans (by simp [hu])) (halc.trans (by simp [hu]))
    (hca.trans (by simp [hu])) (hll.trans (by simp [hu])) rfl rfl (hpins.trans (by simp [hu]))

theorem wordTaken_frame (s : State) (word : Half) (line : LineLevel) :
    ∃ t, exec (.sampleWord word line) s = .next t ∧
      (∀ c, t.latch c =
        if c.val = word.toNat / 8192 then ⟨min (channelMax c) (word.toNat % 8192), 0, false⟩ else s.latch c) ∧
      t.iou = { s.iou with latches := t.iou.latches, outputs := t.iou.outputs } ∧
      (s.rsq.mode = .config → t = { s.sense line with iou := t.iou, sl := t.sl }) ∧
      (s.role ≠ .pole → t.ps = s.ps) ∧ t.cfs = s.cfs ∧ t.pt = s.pt ∧ t.pending = s.pending ∧ SamePins s t ∧
      t.sl = { s.sl with summary := t.sl.summary, attn := t.sl.attn } ∧ SameRounds (s.sense line).rsq t := by
  obtain ⟨hcfs, hps, -, -, hmode⟩ := arrived_blocks s word line
  have hbody := body_sampleWord s word line
  obtain ⟨hpending', hcfs', hpt', -⟩ := body_input_frame rfl hbody
  set u := (s.arrived word line).poleArrival (wordChannel word) with hu
  have hiou : u.iou = (s.arrived word line).iou := by simp [hu]
  have hrsq : u.rsq = (s.sense line).rsq := by simp [hu, State.arrived]
  have hend := finish_iou u s
  have hlatches : (u.finish s).iou.latches = (s.arrived word line).iou.latches := by rw [hend, hiou]
  have hrole : (s.arrived word line).role = s.role := role_congr hcfs
  have hgrow : TopicsGrow s u := .of_sl (by simp [hu, State.arrived])
  have hpins : SamePins s u := (samePins_sense s line).trans (.of_pins (by simp [hu, State.arrived]))
  refine ⟨u.finish s, exec_of_body hbody, fun c => (latch_congr hlatches c).trans (arrived_latch s word line c), ?_, ?_,
    fun h => ?_, by simp [hcfs'], by simp [hpt'], by simp [hpending'], hpins.trans (samePins_finish u s),
    (hgrow.trans (topicsGrow_finish u s)).1, ?_⟩
  · rw [hend, hiou, arrived_iou]
  · exact fun h => wordTaken_config h u hu
  · have hstands : u = s.arrived word line := poleArrival_pole_only _ (.inr (by rw [hrole]; exact h))
    rw [State.finish, finishBut_ps_of_not none s (fun hc => h ((role_congr hcfs').symm.trans hc.2.1)), hstands, hps]
  · have hkept := roundsKept_finish u s
    rw [RoundsKept, hrsq] at hkept
    exact hkept

/-- R16: the quiet timer of a pole that waits to come down, after a word of a pole current. -/
theorem wordTaken_quiet (hm : s.rsq.mode ≠ .config) (hp : s.role = .pole) (hs : s.ps.supervising = true)
    (hword : word.toNat / 8192 = 2 ∨ word.toNat / 8192 = 3) (hx : (s.pole x).state = .lowerWait) :
    ∃ t, exec (.sampleWord word line) s = .next t ∧
      t.pole x =
        { s.pole x with
          quietTimer :=
            if t.fresh currPChannel = true ∧ t.fresh currNChannel = true ∧
                (t.latch currPChannel).value ≤ s.poleCfg.quiet ∧ (t.latch currNChannel).value ≤ s.poleCfg.quiet then
              (s.pole x).quietTimer <|> some 0
            else none } := by
  obtain ⟨hcfs, hps, halc, -, hmode⟩ := arrived_blocks s word line
  have hbody := body_sampleWord s word line
  rw [poleArrival_currents (by rw [hmode]; exact hm) ((role_congr hcfs).trans hp) (by rw [hps]; exact hs)
    (by rw [wordChannel_val]; exact hword)] at hbody
  set v := s.arrived word line
  have hpole : v.pole x = s.pole x := pole_congr hps x
  have hquiet := examineQuiet_both (s := v) (by rw [hpole]; exact hx)
  set u := (v.examineQuiet .p).examineQuiet .n with hu
  have hucfs : u.cfs = s.cfs := by simp [hu, hcfs]
  have humode : u.rsq.mode = s.rsq.mode := by simp [hu, hmode]
  have husup : u.ps.supervising = true := by
    have hkeep (w : State) (y : PoleId) : (w.examineQuiet y).ps.supervising = w.ps.supervising := by
      unfold State.examineQuiet
      dsimp only
      split
      · split
        · split
          · rfl
          · cases y <;> rfl
        · cases y <;> rfl
      · rfl
    rw [hu, hkeep, hkeep, hps, hs]
  have hends : (u.finish s).pole x = u.pole x := by
    rw [finish_pole (by rw [humode]; exact hm) ((role_congr hucfs).trans hp) husup]
    refine endPole_of_rest (abandons_of_kept humode (newStop_of_alc (by simp [hu, halc]))) rfl ?_ (.inl ?_) <;>
      rw [hquiet, hpole] <;> simp [hx]
  have hlatches : (u.finish s).iou.latches = v.iou.latches := by
    rw [finish_iou]
    simp [hu]
  have hcondition : v.quietCondition = decide ((u.finish s).fresh currPChannel = true ∧
      (u.finish s).fresh currNChannel = true ∧ ((u.finish s).latch currPChannel).value ≤ s.poleCfg.quiet ∧
      ((u.finish s).latch currNChannel).value ≤ s.poleCfg.quiet) := by
    have hcfg : v.poleCfg = s.poleCfg := by rw [State.poleCfg, hcfs]; rfl
    simp only [State.quietCondition, State.fresh, latch_congr hlatches, hcfg, Bool.decide_and, Bool.decide_eq_true,
      Bool.and_assoc]
  refine ⟨u.finish s, exec_of_body hbody, ?_⟩
  rw [hends, hquiet, hpole, hcondition]
  simp only [decide_eq_true_eq]
  rfl

/-- R69: the overdraw timer and flag after a word of the drawn current. -/
theorem wordTaken_drawn (hm : s.rsq.mode ≠ .config) (hword : word.toNat / 8192 = 5) :
    ∃ t, exec (.sampleWord word line) s = .next t ∧
      (let above := t.ca.allowance + s.cfs.settings.apportion.overdrawMargin < min 2047 (word.toNat % 8192)
       (above → t.ca.overdrawTimer = (s.ca.overdrawTimer <|> some 0) ∧ t.ca.overdrawFlag = s.ca.overdrawFlag) ∧
         (¬above → t.ca.overdrawTimer = none ∧ t.ca.overdrawFlag = false)) := by
  obtain ⟨-, -, -, hca, hmode⟩ := arrived_blocks s word line
  have hbody := body_sampleWord s word line
  obtain ⟨-, hcfs, -, -⟩ := body_input_frame rfl hbody
  set u := (s.arrived word line).poleArrival (wordChannel word) with hu
  have huca : u.ca = s.ca := by simp [hu, hca]
  have humode : u.rsq.mode = s.rsq.mode := by simp [hu, hmode]
  have hcurrent := currentEnd_finish s (show u.rsq.mode ≠ .config by rw [humode]; exact hm)
  have hlatch : (u.finish s).latch drawnChannel = ⟨min 2047 (word.toNat % 8192), 0, false⟩ := by
    have hlatches : (u.finish s).iou.latches = (s.arrived word line).iou.latches := by
      rw [finish_iou]
      simp [hu]
    exact (latch_congr hlatches _).trans (arrived_latch_self (c := drawnChannel) hword)
  have hover : (u.finish s).overdrawn = decide ((u.finish s).ca.allowance +
      s.cfs.settings.apportion.overdrawMargin < min 2047 (word.toNat % 8192)) := by
    simp [State.overdrawn, State.drawnCurrent, State.fresh, hlatch, hcfs]
  have htimer := hcurrent.overTimer
  have hflag := hcurrent.overFlag
  rw [hover, huca] at htimer hflag
  refine ⟨u.finish s, exec_of_body hbody, fun habove => ?_, fun habove => ?_⟩
  · rw [htimer, hflag]
    simp only [habove, decide_true, if_true, Bool.and_true, and_true]
    rfl
  · rw [htimer, hflag]
    simp [habove]

/-- R3: the band after a word of the line voltage. -/
theorem wordTaken_line (hm : s.rsq.mode ≠ .config) (hp : s.role = .pole) (hword : word.toNat / 8192 = 4)
    (hg : s.poleCfg.tGap + s.poleCfg.hyst ≤ s.poleCfg.tLow) :
    ∃ t, exec (.sampleWord word line) s = .next t ∧
      (let v := min 1023 (word.toNat % 8192)
       let g := s.poleCfg
       t.ps.lineVoltage = v ∧
         (v < g.tGap → t.ps.band = .none) ∧
         (g.tGap ≤ v → v < g.tGap + g.hyst → t.ps.band = if s.ps.band = .none then .none else .low) ∧
         (g.tGap + g.hyst ≤ v → v < g.tLow → t.ps.band = .low) ∧
         (g.tLow ≤ v → v < g.tLow + g.hyst → t.ps.band = if s.ps.band = .normal then .normal else .low) ∧
         (g.tLow + g.hyst ≤ v → t.ps.band = .normal) ∧
         (t.ps.band ≠ s.ps.band → t.sl.summary.poles = true)) := by
  obtain ⟨hcfs, hps, -, -, hmode⟩ := arrived_blocks s word line
  have hbody := body_sampleWord s word line
  have hchannel : wordChannel word = 4 := wordChannel_eq hword
  rw [hchannel, poleArrival_line (by rw [hmode]; exact hm) ((role_congr hcfs).trans hp),
    arrived_latch_self (c := 4) hword] at hbody
  have hcfg : (s.arrived word line).poleCfg = s.poleCfg := by rw [State.poleCfg, hcfs]; rfl
  obtain ⟨hband, hvoltage⟩ := lineArrival_ps (s.arrived word line) (min 1023 (word.toNat % 8192))
  rw [hcfg, hps] at hband
  obtain ⟨hband', hvoltage'⟩ :=
    finishBut_line_voltage none ((s.arrived word line).lineArrival (min 1023 (word.toNat % 8192))) s
  refine ⟨_, exec_of_body hbody, hvoltage'.trans hvoltage, ?_⟩
  obtain ⟨h1, h2, h3, h4, h5⟩ := nextBand_table s.ps.band (min 1023 (word.toNat % 8192)) hg
  rw [← hband, ← hband'] at h1 h2 h3 h4 h5
  exact ⟨h1, h2, h3, h4, h5, finish_tells_band _ s⟩

end Words

/-- Settles O39: a word reaches its latch, clamped, and from JOIN onward its consumer. -/
theorem sampleTaken : Obligations.SampleTaken := by
  refine ⟨fun s word line => ⟨wordTaken_frame s word line, fun bits h => ?_⟩, fun s x word line hm hp hs hword hx =>
    wordTaken_quiet hm hp hs hword hx, fun s word line hm hword => wordTaken_drawn hm hword, fun s word line hm hp hword hg =>
    wordTaken_line hm hp hword hg⟩
  change Host.Outcome.next _ = _
  rw [if_neg h]
  rfl

end Machine
end Sys2Proof

/-!
PROOFS. Latches becoming stale: their values kept, the poles they hold, and the announced loss of a sensor (R8, R16, R20,
R24, R179; O41).
-/

namespace Sys2Proof
namespace Machine

section Stale

variable {s t u old : State} {x : PoleId} {c : Fin 8} {m : Byte} {line : LineLevel}

/-! ### The qualification condition examined (R8, R9) -/

/-- R8, R9: the record of pole `x` once its qualification condition has been examined. -/
def State.examinedPole (s : State) (x : PoleId) : Pole :=
  let r := s.pole x
  if !r.isQualifying then r
  else if s.qualificationCondition x then
    if r.qualifyTimer.isSome || r.qualified then r else { r with qualifyTimer := Timer.started }
  else
    { r with
      qualifyTimer := none
      qualified := false
      stateTimer := if r.qualified && r.state == .raising then Timer.started else r.stateTimer }

theorem examineQualify_eq (s : State) (x : PoleId) : s.examineQualify x = s.withPole x (s.examinedPole x) := by
  unfold State.examineQualify State.examinedPole
  dsimp only
  split
  · exact (withPole_self s x).symm
  · split
    · split
      · exact (withPole_self s x).symm
      · rfl
    · rfl

/-! ### One latch that becomes stale (R16, R20, R179) -/

/-- What the staleness of a latch leaves of a pole's record. -/
def Pole.Steady (r q : Pole) : Prop := q.state = r.state ∧ q.qualifying = r.qualifying ∧ q.drops = r.drops

/-- What the staleness of another latch than its own leaves of a pole's record. -/
def Pole.Untouched (r q : Pole) : Prop :=
  q.confirmTimer = r.confirmTimer ∧ q.qualifyTimer = r.qualifyTimer ∧ q.qualified = r.qualified

theorem examinedPole_steady (s : State) (x : PoleId) : (s.pole x).Steady (s.examinedPole x) := by
  unfold State.examinedPole
  dsimp only
  split
  · exact ⟨rfl, rfl, rfl⟩
  · split
    · split <;> exact ⟨rfl, rfl, rfl⟩
    · exact ⟨rfl, rfl, rfl⟩

theorem examineQuiet_steady (s : State) (y x : PoleId) :
    (s.pole x).Steady ((s.examineQuiet y).pole x) ∧ (s.pole x).Untouched ((s.examineQuiet y).pole x) := by
  rw [examineQuiet_pole]
  split <;> exact ⟨⟨rfl, rfl, rfl⟩, ⟨rfl, rfl, rfl⟩⟩

/-- R20: the pole whose own elevation is stale. -/
theorem poleStale_elev (s : State) (x : PoleId) :
    s.poleStale (elevChannel x) = s.withPole x { s.examinedPole x with confirmTimer := none } := by
  have htwice (r q : Pole) : (s.withPole x r).withPole x q = s.withPole x q := by cases x <;> rfl
  have helev : s.poleStale (elevChannel x) =
      (s.examineQualify x).withPole x { (s.examineQualify x).pole x with confirmTimer := none } := by
    cases x <;> rfl
  rw [helev, examineQualify_eq, withPole_pole, if_pos rfl, htwice]

theorem poleStale_other (s : State) (h : ∀ x, c ≠ elevChannel x) :
    s.poleStale c = s ∨ s.poleStale c = (s.examineQuiet .p).examineQuiet .n := by
  match c with
  | 0 => exact absurd rfl (h .p)
  | 1 => exact absurd rfl (h .n)
  | 2 | 3 => exact .inr rfl
  | 4 | 5 | 6 | 7 => exact .inl rfl

theorem poleStale_steady (s : State) (c : Fin 8) (x : PoleId) :
    (s.pole x).Steady ((s.poleStale c).pole x) ∧
      (c ≠ elevChannel x → (s.pole x).Untouched ((s.poleStale c).pole x)) := by
  by_cases h : ∃ y, c = elevChannel y
  · obtain ⟨y, rfl⟩ := h
    rw [poleStale_elev, withPole_pole]
    by_cases hy : x = y
    · subst hy
      rw [if_pos rfl]
      exact ⟨examinedPole_steady s x, fun hne => absurd rfl hne⟩
    · rw [if_neg hy]
      exact ⟨⟨rfl, rfl, rfl⟩, fun _ => ⟨rfl, rfl, rfl⟩⟩
  · rcases poleStale_other s fun y hy => h ⟨y, hy⟩ with hsame | hquiet
    · rw [hsame]
      exact ⟨⟨rfl, rfl, rfl⟩, fun _ => ⟨rfl, rfl, rfl⟩⟩
    · rw [hquiet]
      obtain ⟨⟨h1, h2, h3⟩, h4, h5, h6⟩ := examineQuiet_steady s .p x
      obtain ⟨⟨g1, g2, g3⟩, g4, g5, g6⟩ := examineQuiet_steady (s.examineQuiet .p) .n x
      exact ⟨⟨g1.trans h1, g2.trans h2, g3.trans h3⟩, fun _ => ⟨g4.trans h4, g5.trans h5, g6.trans h6⟩⟩

theorem poleStale_supervising (s : State) (c : Fin 8) : (s.poleStale c).ps.supervising = s.ps.supervising := by
  by_cases h : ∃ y, c = elevChannel y
  · obtain ⟨y, rfl⟩ := h
    rw [poleStale_elev, withPole_supervising]
  · have hquiet (t : State) (y : PoleId) : (t.examineQuiet y).ps.supervising = t.ps.supervising := by
      unfold State.examineQuiet
      dsimp only
      split
      · split
        · split
          · rfl
          · exact withPole_supervising _ _ _
        · exact withPole_supervising _ _ _
      · rfl
    rcases poleStale_other s fun y hy => h ⟨y, hy⟩ with hsame | hboth
    · rw [hsame]
    · rw [hboth, hquiet, hquiet]

/-- R179: the state with a latch made stale. -/
def State.staled (c : Fin 8) (s : State) : State := s.withLatch c { s.latch c with stale := true }

theorem latchExpires_due (h : s.latchDue c = true) :
    s.latchExpires c = s.staled c ∨ s.latchExpires c = (s.staled c).poleStale c := by
  unfold State.latchExpires
  rw [if_pos h]
  dsimp only
  split
  · exact .inr rfl
  · exact .inl rfl

theorem latchExpires_not_due (h : s.latchDue c ≠ true) : s.latchExpires c = s := if_neg h

theorem latchExpires_watched (h : s.latchDue c = true) (hm : s.rsq.mode ≠ .config) (hp : s.role = .pole)
    (hs : s.ps.supervising = true) : s.latchExpires c = (s.staled c).poleStale c := by
  unfold State.latchExpires
  rw [if_pos h]
  refine if_pos ?_
  change (s.rsq.mode != .config && s.role == .pole && s.ps.supervising) = true
  simp [hm, hp, hs]

theorem latchExpires_iou (s : State) (c : Fin 8) :
    (s.latchExpires c).iou = if s.latchDue c = true then (s.staled c).iou else s.iou := by
  split
  next h =>
    rcases latchExpires_due h with hx | hx
    · rw [hx]
    · rw [hx]
      simp
  next h => rw [latchExpires_not_due h]

theorem latchExpires_latch (s : State) (c d : Fin 8) :
    (s.latchExpires c).latch d = if d = c ∧ s.latchDue c = true then { s.latch d with stale := true } else s.latch d := by
  by_cases h : s.latchDue c = true
  · have hiou := (latchExpires_iou s c).trans (if_pos h)
    rw [latch_congr (congrArg InputOutput.latches hiou) d]
    by_cases hd : d = c
    · subst hd
      rw [if_pos ⟨rfl, h⟩]
      exact latch_withLatch_self s d _
    · rw [if_neg fun hc => hd hc.1]
      exact latch_withLatch_ne s _ hd
  · rw [if_neg fun hc => h hc.2, latchExpires_not_due h]

theorem latchExpires_steady (s : State) (c : Fin 8) (x : PoleId) :
    (s.pole x).Steady ((s.latchExpires c).pole x) ∧
      (c ≠ elevChannel x → (s.pole x).Untouched ((s.latchExpires c).pole x)) := by
  by_cases h : s.latchDue c = true
  · rcases latchExpires_due h with hx | hx
    · rw [hx]
      exact ⟨⟨rfl, rfl, rfl⟩, fun _ => ⟨rfl, rfl, rfl⟩⟩
    · rw [hx]
      exact poleStale_steady (s.staled c) c x
  · rw [latchExpires_not_due h]
    exact ⟨⟨rfl, rfl, rfl⟩, fun _ => ⟨rfl, rfl, rfl⟩⟩

theorem latchExpires_supervising (s : State) (c : Fin 8) : (s.latchExpires c).ps.supervising = s.ps.supervising := by
  by_cases h : s.latchDue c = true
  · rcases latchExpires_due h with hx | hx
    · rw [hx]
      rfl
    · rw [hx, poleStale_supervising]
      rfl
  · rw [latchExpires_not_due h]

/-- R20: the hold of a pole by its own stale elevation. -/
def Pole.Held (r q : Pole) : Prop :=
  q.confirmTimer = none ∧ (r.isQualifying = true → q.qualifyTimer = none ∧ q.qualified = false)

theorem latchExpires_held (h : s.latchDue (elevChannel x) = true) (hm : s.rsq.mode ≠ .config) (hp : s.role = .pole)
    (hs : s.ps.supervising = true) : (s.pole x).Held ((s.latchExpires (elevChannel x)).pole x) := by
  rw [latchExpires_watched h hm hp hs, poleStale_elev, withPole_pole, if_pos rfl]
  refine ⟨rfl, fun hq => ?_⟩
  have hstale : (s.staled (elevChannel x)).qualificationCondition x = false := by
    have hlatch : ((s.staled (elevChannel x)).latch (elevChannel x)).stale = true :=
      congrArg Latch.stale (latch_withLatch_self s _ _)
    simp [State.qualificationCondition, State.fresh, hlatch]
  have hq' : ((s.staled (elevChannel x)).pole x).isQualifying = true := hq
  unfold State.examinedPole
  simp only [hq', hstale, Bool.not_true, Bool.false_eq_true, if_false]
  exact ⟨trivial, trivial⟩

/-! ### The channels of a map expiring in one event (R179) -/

/-- What a turn of a fold establishes and every other turn keeps holds after the fold. -/
theorem foldl_reaches {α β : Type} {P Q : β → Prop} {f : β → α → β} {a : α} (hP : ∀ b a, P b → P (f b a))
    (hset : ∀ b, P b → Q (f b a)) (hQ : ∀ b a, P b → Q b → Q (f b a)) :
    ∀ l : List α, a ∈ l → ∀ b, P b → Q (l.foldl f b) := by
  have hkeep : ∀ l : List α, ∀ b, P b → Q b → Q (l.foldl f b) := by
    intro l
    induction l with
    | nil => exact fun b _ hq => hq
    | cons c l ih => exact fun b hp hq => ih _ (hP b c hp) (hQ b c hp hq)
  intro l
  induction l with
  | nil => exact fun ha => nomatch ha
  | cons c l ih =>
    intro ha b hb
    rcases List.mem_cons.1 ha with rfl | ha
    · exact hkeep l _ (hP b a hb) (hset b hb)
    · exact ih ha _ (hP b c hb)

/-- One turn of the pass over the latches. -/
def State.latchTurn (m : Byte) (s : State) (c : Fin 8) : State := if m.getLsbD c.val then s.latchExpires c else s

/-- R179: the state once the channels of a map have expired. -/
def State.latchesExpired (m : Byte) (s : State) : State := eight.foldl (State.latchTurn m) s

/-- A state on the way through the latches. -/
structure Expiring (m : Byte) (v t : State) : Prop where
  cfs : t.cfs = v.cfs
  rsq : t.rsq = v.rsq
  alc : t.alc = v.alc
  supervising : t.ps.supervising = v.ps.supervising
  iou : t.iou = { v.iou with latches := t.iou.latches }
  latches : ∀ d, t.latch d = v.latch d ∨
    m.getLsbD d.val = true ∧ v.latchDue d = true ∧ t.latch d = { v.latch d with stale := true }
  poles : ∀ x, (v.pole x).Steady (t.pole x)

theorem Expiring.refl (m : Byte) (v : State) : Expiring m v v :=
  ⟨rfl, rfl, rfl, rfl, rfl, fun _ => .inl rfl, fun _ => ⟨rfl, rfl, rfl⟩⟩

theorem latchDue_congr (hcfs : t.cfs = s.cfs) (hc : t.latch c = s.latch c) : t.latchDue c = s.latchDue c := by
  rw [State.latchDue, State.fresh, State.poleCfg, hc, hcfs]
  rfl

theorem Expiring.turn (h : Expiring m s t) (c : Fin 8) : Expiring m s (t.latchTurn m c) := by
  unfold State.latchTurn
  split
  next hbit =>
    refine ⟨by simp [h.cfs], by simp [h.rsq], by simp [h.alc], (latchExpires_supervising t c).trans h.supervising, ?_,
      fun d => ?_, fun x => ?_⟩
    · rw [latchExpires_iou]
      split
      · rw [State.staled, State.withLatch, h.iou]
        rfl
      · exact h.iou
    · rw [latchExpires_latch]
      split
      next hd =>
        obtain ⟨rfl, hdue⟩ := hd
        rcases h.latches d with hsame | ⟨hm, hv, hstale⟩
        · exact .inr ⟨hbit, (latchDue_congr h.cfs hsame).symm.trans hdue, by rw [hsame]⟩
        · exact .inr ⟨hm, hv, by rw [hstale]⟩
      next => exact h.latches d
    · obtain ⟨h1, h2, h3⟩ := h.poles x
      obtain ⟨⟨g1, g2, g3⟩, -⟩ := latchExpires_steady t c x
      exact ⟨g1.trans h1, g2.trans h2, g3.trans h3⟩
  next => exact h

theorem expiring_latchesExpired (m : Byte) (s : State) : Expiring m s (s.latchesExpired m) :=
  foldl_keeps (Expiring m s) (State.latchTurn m) (fun _ c ht => ht.turn c) eight s (.refl m s)

theorem latchesExpired_latch (m : Byte) (s : State) (d : Fin 8) :
    (s.latchesExpired m).latch d =
      if m.getLsbD d.val = true ∧ s.latchDue d = true then { s.latch d with stale := true } else s.latch d := by
  split
  next h =>
    obtain ⟨hbit, hdue⟩ := h
    refine foldl_reaches (P := Expiring m s) (Q := fun t => t.latch d = { s.latch d with stale := true })
      (fun t c ht => ht.turn c) (fun t ht => ?_) (fun t c ht hq => ?_) eight (mem_eight d) s (.refl m s)
    · rw [State.latchTurn, if_pos hbit, latchExpires_latch]
      rcases ht.latches d with hsame | ⟨-, -, hstale⟩
      · rw [if_pos ⟨rfl, (latchDue_congr ht.cfs hsame).trans hdue⟩, hsame]
      · split <;> rw [hstale]
    · unfold State.latchTurn
      split
      · rw [latchExpires_latch]
        split <;> rw [hq]
      · exact hq
  next h =>
    rcases (expiring_latchesExpired m s).latches d with hsame | ⟨hbit, hdue, -⟩
    · exact hsame
    · exact absurd ⟨hbit, hdue⟩ h

theorem Held.untouched {r q q' : Pole} (h : r.Held q) (hq : q.Untouched q') : r.Held q' := by
  obtain ⟨hconfirm, hqualify⟩ := h
  obtain ⟨h1, h2, h3⟩ := hq
  exact ⟨h1.trans hconfirm, fun hr => ⟨h2.trans (hqualify hr).1, h3.trans (hqualify hr).2⟩⟩

/-- R20: every pole whose own elevation expires is held. -/
theorem latchesExpired_held (hm : s.rsq.mode ≠ .config) (hp : s.role = .pole) (hs : s.ps.supervising = true)
    (hbit : m.getLsbD (elevChannel x).val = true) (hdue : s.latchDue (elevChannel x) = true) :
    (s.pole x).Held ((s.latchesExpired m).pole x) := by
  have hset (t : State) (ht : Expiring m s t) (hsame : t.latch (elevChannel x) = s.latch (elevChannel x)) :
      (s.pole x).Held ((t.latchExpires (elevChannel x)).pole x) := by
    obtain ⟨hstate, hqualifying, -⟩ := ht.poles x
    have hheld := latchExpires_held (s := t) ((latchDue_congr ht.cfs hsame).trans hdue) (by rw [ht.rsq]; exact hm)
      ((role_congr ht.cfs).trans hp) (ht.supervising.trans hs)
    have hq : (t.pole x).isQualifying = (s.pole x).isQualifying := by simp only [Pole.isQualifying, hstate, hqualifying]
    exact ⟨hheld.1, fun h => hheld.2 (hq.trans h)⟩
  have hown (t : State) (ht : Expiring m s t)
      (hor : t.latch (elevChannel x) = s.latch (elevChannel x) ∨ (s.pole x).Held (t.pole x)) :
      (s.pole x).Held ((t.latchTurn m (elevChannel x)).pole x) := by
    rw [State.latchTurn, if_pos hbit]
    rcases hor with hsame | hheld
    · exact hset t ht hsame
    · rcases ht.latches (elevChannel x) with hsame | ⟨-, -, hstale⟩
      · exact hset t ht hsame
      · rw [latchExpires_not_due (by simp [State.latchDue, State.fresh, hstale])]
        exact hheld
  have hother (t : State) (c : Fin 8) (hc : c ≠ elevChannel x) (hheld : (s.pole x).Held (t.pole x)) :
      (s.pole x).Held ((t.latchTurn m c).pole x) := by
    unfold State.latchTurn
    split
    · exact Held.untouched hheld ((latchExpires_steady t c x).2 hc)
    · exact hheld
  have hlatch (t : State) (c : Fin 8) (hc : c ≠ elevChannel x) :
      (t.latchTurn m c).latch (elevChannel x) = t.latch (elevChannel x) := by
    unfold State.latchTurn
    split
    · rw [latchExpires_latch, if_neg fun h => hc h.1.symm]
    · rfl
  refine foldl_reaches (Q := fun t => (s.pole x).Held (t.pole x))
    (P := fun t => Expiring m s t ∧ (t.latch (elevChannel x) = s.latch (elevChannel x) ∨ (s.pole x).Held (t.pole x)))
    (fun t c ht => ⟨ht.1.turn c, ?_⟩) (fun t ht => hown t ht.1 ht.2) (fun t c ht hq => ?_) eight
    (mem_eight (elevChannel x)) s ⟨.refl m s, .inl rfl⟩
  · by_cases hc : c = elevChannel x
    · exact .inr (hc ▸ hown t ht.1 ht.2)
    · exact ht.2.imp (hlatch t c hc).trans (hother t c hc)
  · by_cases hc : c = elevChannel x
    · exact hc ▸ hown t ht.1 ht.2
    · exact hother t c hc hq

/-! ### The poles and the loss of a sensor at the event's end (R4, R9, R24) -/

theorem body_latchStale (s : State) (m : Byte) (line : LineLevel) :
    s.body (.latchStale m line) = some ((s.sense line).latchesExpired m) := rfl

/-- What an event's end leaves of a pole held by a stale elevation. -/
theorem endPole_of_stale (ha : u.abandons old = false) (hfresh : u.fresh (elevChannel x) = false)
    (hq : (u.pole x).isQualifying = true → (u.pole x).qualified = false) : u.endPole old x = u.pole x := by
  have hplaced : u.placedPole old x = u.pole x := by
    simp [State.placedPole, State.settledPole, State.abandonedPole, ha, hfresh]
  rw [State.endPole, hplaced, Pole.waited, if_neg]
  intro hc
  simp only [Bool.and_eq_true] at hc
  obtain ⟨⟨hqualifying, hmark⟩, -⟩ := hc
  rw [hq hqualifying] at hmark
  cases hmark

/-- A SENSOR_LOSS raised in the event's end stands PENDING with its detail. -/
def LossAnnounced (d : SensorDetail) (s : State) : Prop :=
  s.ownEntries .sensorLoss ≠ [] ∧ ∀ e ∈ s.ownEntries .sensorLoss, e.state = .pending ∧ e.detail = some d

theorem lossAnnounced_raise (d : SensorDetail) (h : HasPlace (.station s.own) .sensorLoss s) :
    LossAnnounced d (s.raiseOwn .sensorLoss (some d)) := by
  obtain ⟨hne, hpending⟩ := ownPending_raiseOwn (some d) h
  refine ⟨hne, fun e he => ⟨hpending e he, ?_⟩⟩
  obtain ⟨hmem, hkey⟩ := mem_ownEntries.1 he
  have hown : (s.raiseOwn .sensorLoss (some d)).own = s.own := own_congr (by simp)
  rw [hown] at hkey
  unfold State.raiseOwn at hmem
  dsimp only at hmem
  split at hmem
  next hl =>
    obtain ⟨e', -, rfl⟩ := List.mem_map.1 hmem
    by_cases hk : e'.hasKey (.station s.own) .sensorLoss = true
    · rw [if_pos hk]
      rfl
    · rw [if_neg hk] at hkey
      exact absurd hkey hk
  next hl =>
    rw [if_pos (h.resolve_left hl)] at hmem
    rcases List.mem_append.1 hmem with hmem | hmem
    · exact absurd (List.any_eq_true.2 ⟨e, hmem, hkey⟩) hl
    · rw [List.mem_singleton.1 hmem]
      rfl

theorem LossAnnounced.not_acknowledged {d : SensorDetail} (h : LossAnnounced d s) : s.ownAcknowledged .sensorLoss = false :=
  not_ownAcknowledged_of_pending ⟨h.1, fun e he => (h.2 e he).1⟩

theorem LossAnnounced.congr {d : SensorDetail} (h : LossAnnounced d s)
    (he : t.ownEntries .sensorLoss = s.ownEntries .sensorLoss) : LossAnnounced d t := by
  unfold LossAnnounced
  rw [he]
  exact h

/-- R24: what the event's raise of SENSOR_LOSS leaves stands when the event has ended. -/
theorem lossAnnounced_finish {d : SensorDetail} (hm : u.rsq.mode ≠ .config) (hp : u.role = .pole)
    (hs : u.ps.supervising = true) (h : LossAnnounced d ((u.polesPlaced old).raiseSensorLoss old)) :
    LossAnnounced d (u.finish old) := by
  have hlisted : LossAnnounced d ((u.polesPlaced old).polesListed old) := by
    rw [polesListed_eq]
    refine h.congr ((ownEntries_clearIf (by decide) _).trans ((ownEntries_clearIf (by decide) _).trans ?_))
    rw [State.clearIf, h.not_acknowledged]
    rfl
  have hreviewed : LossAnnounced d (u.reviewed old) := by
    rw [reviewed_eq, polesEnd_of_supervising hp hs]
    exact hlisted.congr ((ownEntries_clearIf (by decide) _).trans (ownEntries_restoreQualifyRule _ _))
  obtain ⟨-, -, -, halc, -⟩ := finishBut_blocks none u old
  rw [blocksEnd_of_joined hm] at halc
  refine hreviewed.congr (ownEntries_congr (halc.trans ?_) ?_ _)
  · simp
  · simp

/-- A pole out of STOWED and INITIAL stays out of STOWED in an event that ends no raise. -/
theorem polesPlaced_out (ha : u.abandons old = false) (hstowed : (u.pole x).state ≠ .stowed) (hi : (u.pole x).state ≠ .initial) :
    ((u.polesPlaced old).pole x).state ≠ .stowed := by
  have hplaced : u.placedPole old x = u.pole x := by
    simp [State.placedPole, State.settledPole, State.abandonedPole, ha, hi]
  rw [polesPlaced_pole, hplaced, Pole.waited]
  split
  · simp [Pole.qualifiedOn]
  · exact hstowed

theorem sensorLoss_newly {d : SensorDetail} (hout : s.somePoleOut = true) (hs : old.ps.supervising = true)
    (hd : lowestDetail (fun d => (s.latch (detailChannel d)).stale && !(old.latch (detailChannel d)).stale) = some d) :
    s.sensorLoss old = some d := by
  unfold State.sensorLoss
  dsimp only
  rw [hout, hd, hs]
  rfl

/-- R24: the sensors newly stale after the channels of a map have expired. -/
theorem newly_latchesExpired (m : Byte) (s : State) (c : Fin 8) :
    (((s.latchesExpired m).latch c).stale && !(s.latch c).stale) = (m.getLsbD c.val && s.latchDue c) := by
  rw [latchesExpired_latch]
  by_cases h : m.getLsbD c.val = true ∧ s.latchDue c = true
  · obtain ⟨hbit, hdue⟩ := h
    have hfresh : (s.latch c).stale = false := by
      rw [State.latchDue, Bool.and_eq_true, State.fresh, Bool.not_eq_true'] at hdue
      exact hdue.1
    simp [hbit, hdue, hfresh]
  · rw [if_neg h, Bool.and_not_self, eq_comm, Bool.and_eq_false_iff]
    rcases not_and_or.1 h with h | h
    · exact .inl (eq_false_of_ne_true h)
    · exact .inr (eq_false_of_ne_true h)

theorem latchesStale_poles (s : State) (m : Byte) (line : LineLevel) (hm : s.rsq.mode ≠ .config) (hp : s.role = .pole)
    (hs : s.ps.supervising = true) (hbit : m.getLsbD (elevChannel x).val = true)
    (hdue : s.latchDue (elevChannel x) = true) :
    let t := ((s.sense line).latchesExpired m).finish s
    (t.pole x).confirmTimer = none ∧ (t.pole x).drops = (s.pole x).drops ∧
      ((s.pole x).state = .raising ∨ (s.pole x).state = .initial ∧ (s.pole x).qualifying = true →
        (t.pole x).qualifyTimer = none ∧ (t.pole x).qualified = false) := by
  have hdue' : (s.sense line).latchDue (elevChannel x) = true :=
    (latchDue_congr (by simp) (latch_congr (by simp) _)).trans hdue
  have hpole : (s.sense line).pole x = s.pole x := pole_congr (by simp) x
  have hexp := expiring_latchesExpired m (s.sense line)
  have hheld := latchesExpired_held (x := x) (s := s.sense line) (m := m) (by simpa using hm)
    ((role_congr (by simp)).trans hp) (by simpa using hs) hbit hdue'
  obtain ⟨hstate, hqualifying, hdrops⟩ := hexp.poles x
  have hlatch := latchesExpired_latch m (s.sense line) (elevChannel x)
  rw [if_pos ⟨hbit, hdue'⟩] at hlatch
  rw [hpole] at hheld hstate hqualifying hdrops
  set u := (s.sense line).latchesExpired m
  have hmode : u.rsq.mode = s.rsq.mode := by simp [hexp.rsq]
  have hsup : u.ps.supervising = true := by simp [hexp.supervising, hs]
  have hrole : u.role = .pole := (role_congr (hexp.cfs.trans (by simp))).trans hp
  have hq : (u.pole x).isQualifying = (s.pole x).isQualifying := by simp only [Pole.isQualifying, hstate, hqualifying]
  have hend : (u.finish s).pole x = u.pole x := by
    rw [finish_pole (by rw [hmode]; exact hm) hrole hsup]
    refine endPole_of_stale (abandons_of_kept hmode (newStop_of_alc (by simp [hexp.alc]))) ?_ fun h => ?_
    · rw [State.fresh, hlatch]
      rfl
    · exact (hheld.2 (hq.symm.trans h)).2
  dsimp only
  rw [hend]
  refine ⟨hheld.1, hdrops, fun h => hheld.2 ?_⟩
  rcases h with h | ⟨h, h'⟩
  · simp [Pole.isQualifying, h]
  · simp [Pole.isQualifying, h, h']

theorem latchesStale_loss (s : State) (m : Byte) (line : LineLevel) {d : SensorDetail} (hm : s.rsq.mode ≠ .config)
    (hp : s.role = .pole) (hs : s.ps.supervising = true)
    (hd : sensorDetails.find? (fun d => m.getLsbD (detailCode d) && s.latchDue (detailChannel d)) = some d)
    (hout : ∃ x, (s.pole x).state ≠ .stowed ∧ (s.pole x).state ≠ .initial) (hplace : HasPlace (.station s.own) .sensorLoss s) :
    ∃ e ∈ (((s.sense line).latchesExpired m).finish s).alarms,
      e.hasKey (.station s.own) .sensorLoss = true ∧ e.state = .pending ∧ e.detail = some d := by
  have hexp := expiring_latchesExpired m (s.sense line)
  have hnewly := newly_latchesExpired m (s.sense line)
  set u := (s.sense line).latchesExpired m
  have hmode : u.rsq.mode = s.rsq.mode := by simp [hexp.rsq]
  have hsup : u.ps.supervising = true := by simp [hexp.supervising, hs]
  have hcfs : u.cfs = s.cfs := hexp.cfs.trans (by simp)
  have halc : u.alc = s.alc := hexp.alc.trans (by simp)
  have hrole : u.role = .pole := (role_congr hcfs).trans hp
  have hloss : (u.polesPlaced s).sensorLoss s = some d := by
    refine sensorLoss_newly ?_ hs ?_
    · obtain ⟨x, hstowed, hi⟩ := hout
      have hstate : (u.pole x).state = (s.pole x).state :=
        (hexp.poles x).1.trans (congrArg Pole.state (pole_congr (by simp) x))
      have houtside := polesPlaced_out (abandons_of_kept hmode (newStop_of_alc halc)) (by rw [hstate]; exact hstowed)
        (by rw [hstate]; exact hi)
      cases x <;> simp [State.somePoleOut, houtside]
    · rw [lowestDetail, ← hd]
      congr 1
      funext d'
      have hplaced : (u.polesPlaced s).latch (detailChannel d') = u.latch (detailChannel d') := latch_congr (by simp) _
      have hsense : (s.sense line).latch (detailChannel d') = s.latch (detailChannel d') := latch_congr (by simp) _
      have hdue : (s.sense line).latchDue (detailChannel d') = s.latchDue (detailChannel d') :=
        latchDue_congr (by simp) hsense
      rw [hplaced, ← hsense, hnewly, hdue]
      rfl
  have hplaced : HasPlace (.station (u.polesPlaced s).own) .sensorLoss (u.polesPlaced s) := by
    have hown : (u.polesPlaced s).own = s.own := own_congr (by simp [hcfs])
    have halarms : (u.polesPlaced s).alarms = s.alarms := by simp [State.alarms, halc]
    rw [hown, HasPlace, State.listed, halarms]
    exact hplace
  have hraised : LossAnnounced d ((u.polesPlaced s).raiseSensorLoss s) := by
    rw [State.raiseSensorLoss, hloss]
    exact lossAnnounced_raise d hplaced
  obtain ⟨hne, hall⟩ := lossAnnounced_finish (old := s) (by rw [hmode]; exact hm) hrole hsup hraised
  obtain ⟨e, he⟩ := List.exists_mem_of_ne_nil _ hne
  obtain ⟨hmem, hkey⟩ := mem_ownEntries.1 he
  have hown : (u.finish s).own = s.own := own_congr (by simp [hcfs])
  rw [hown] at hkey
  exact ⟨e, hmem, hkey, hall e he⟩

end Stale

/-- Settles O41: each latch of the map that is due is stale with its value kept, the poles it holds are held, and the
lowest newly stale sensor is announced. -/
theorem latchesStale : Obligations.LatchesStale := by
  intro s m line
  have hbody := body_latchStale s m line
  obtain ⟨hpending, hcfs, hpt, -⟩ := body_input_frame rfl hbody
  have hexp := expiring_latchesExpired m (s.sense line)
  have hlatch := latchesExpired_latch m (s.sense line)
  have hpins : SamePins s ((s.sense line).latchesExpired m) := (samePins_sense s line).trans
    (latchFold_keeps (SamePins (s.sense line)) m (fun t c ht => ht.trans (.of_pins (by simp))) _ (.of_pins rfl))
  have hend := finish_iou ((s.sense line).latchesExpired m) s
  have hlatches : (((s.sense line).latchesExpired m).finish s).iou.latches = ((s.sense line).latchesExpired m).iou.latches := by
    rw [hend]
  have hkept := roundsKept_finish ((s.sense line).latchesExpired m) s
  rw [RoundsKept, hexp.rsq] at hkept
  refine ⟨_, exec_of_body hbody, fun c => ?_, ?_, by simp [hcfs], by simp [hpt], by simp [hpending],
    hpins.trans (samePins_finish _ s), hkept, fun hm hp hs => ⟨fun x hbit hdue => latchesStale_poles s m line hm hp hs hbit hdue,
      fun d hd hout hplace => latchesStale_loss s m line hm hp hs hd hout hplace⟩⟩
  · have hsense : (s.sense line).latch c = s.latch c := latch_congr (by simp) c
    have hdue : (s.sense line).latchDue c = s.latchDue c := latchDue_congr (by simp) hsense
    rw [latch_congr hlatches, hlatch, hsense, hdue]
    simp only [State.latchDue, Bool.and_eq_true, decide_eq_true_eq]
  · have hsense : (s.sense line).iou = s.iou := by simp
    rw [hend, hexp.iou, hsense]

end Machine
end Sys2Proof

/-!
PROOFS. An elevation that arrives: the pole settled, judged in its state, and the elevation kept (R4, R5, R8, R11, R12, R15,
R17, R18; O40).
-/

namespace Sys2Proof
namespace Machine

section Judged

variable {s t u v old : State} {x : PoleId} {e : Nat} {word : Half} {line : LineLevel}

/-! ### The judgement of an elevation (R5, R8, R11, R12, R15) -/

/-- R13: the record of a pole that has dropped. -/
def State.droppedPole (x : PoleId) (s : State) : Pole :=
  ({ s.pole x with drops := min 255 ((s.pole x).drops + 1) } : Pole).lowered (s.stowedClosed x)

/-- The record of pole `x` once an elevation has been judged in its state. -/
def State.judgedPole (x : PoleId) (e : Nat) (s : State) : Pole :=
  let r := s.pole x
  let inside := poleWindow s.poleCfg e
  match r.state with
  | .initial => if r.qualifying then (if inside then s.examinedPole x else r.lowered (s.stowedClosed x)) else r
  | .raising => s.examinedPole x
  | .onWire =>
    if poleJump s.poleCfg r.elevation e then s.droppedPole x
    else if inside then r else { r with state := .suspect, confirmTimer := Timer.started }
  | .suspect =>
    if poleJump s.poleCfg r.elevation e then s.droppedPole x
    else if inside then { r with state := .onWire, confirmTimer := none, bounces := min 255 (r.bounces + 1) }
    else { r with confirmTimer := r.confirmTimer <|> Timer.started }
  | .lowerWait =>
    if poleJump s.poleCfg r.elevation e then s.droppedPole x
    else if inside then
      if r.confirmTimer.isSome then { r with confirmTimer := none, bounces := min 255 (r.bounces + 1) } else r
    else { r with confirmTimer := r.confirmTimer <|> Timer.started }
  | _ => r

theorem withPole_pole_self (s : State) (x : PoleId) (r : Pole) : (s.withPole x r).pole x = r := by
  rw [withPole_pole, if_pos rfl]

theorem examineQualify_pole (s : State) (x : PoleId) : (s.examineQualify x).pole x = s.examinedPole x := by
  rw [examineQualify_eq, withPole_pole_self]

/-- A confirm timer started unless it runs already. -/
theorem confirm_started {r : Pole} (hr : s.pole x = r) :
    (if r.confirmTimer.isSome then s else s.withPole x { r with confirmTimer := Timer.started }).pole x =
      { r with confirmTimer := r.confirmTimer <|> Timer.started } := by
  cases hc : r.confirmTimer with
  | none => exact withPole_pole_self s x _
  | some n =>
    refine hr.trans ?_
    obtain ⟨⟩ := r
    cases hc
    rfl

theorem judgeElevation_pole (s : State) (x : PoleId) (e : Nat) : (s.judgeElevation x e).pole x = s.judgedPole x e := by
  unfold State.judgeElevation State.judgedPole
  dsimp only
  cases hstate : (s.pole x).state with
  | initial =>
    dsimp only
    split
    · split
      · exact examineQualify_pole s x
      · exact lower_pole s x
    · rfl
  | raising => exact examineQualify_pole s x
  | onWire =>
    dsimp only
    split
    · exact drop_pole s x
    · split
      · rfl
      · exact withPole_pole_self s x _
  | suspect =>
    dsimp only
    split
    · exact drop_pole s x
    · split
      · exact withPole_pole_self s x _
      · have hstarted := confirm_started (rfl : s.pole x = s.pole x)
        simp only [hstate] at hstarted
        exact hstarted
  | lowerWait =>
    dsimp only
    split
    · exact drop_pole s x
    · split
      · split
        · exact withPole_pole_self s x _
        · rfl
      · have hstarted := confirm_started (rfl : s.pole x = s.pole x)
        simp only [hstate] at hstarted
        exact hstarted
  | stowed | lowering | stuck => rfl

theorem elevArrival_pole (s : State) (x : PoleId) (e : Nat) :
    (s.elevArrival x e).pole x = { (s.settle x).judgedPole x e with elevation := e } := by
  unfold State.elevArrival
  dsimp only
  rw [withPole_pole_self, judgeElevation_pole]

theorem settle_of_settled (h : (s.pole x).state ≠ .initial ∨ (s.pole x).qualifying = true) : s.settle x = s := by
  rw [settle_eq]
  have hkept : s.settledPole x (s.pole x) = s.pole x := by
    unfold State.settledPole
    rcases h with h | h <;> simp [h]
  rw [hkept, withPole_self]

/-- An elevation arriving at a RAISING or INITIAL pole lists nothing. -/
theorem elevArrival_alc (h : (s.pole x).state = .raising ∨ (s.pole x).state = .initial) (e : Nat) :
    (s.elevArrival x e).alc = s.alc := by
  have hjudge (t : State) (ht : (t.pole x).state = .raising ∨ (t.pole x).state = .initial ∨ (t.pole x).state = .stowed ∨
      (t.pole x).state = .lowering) : (t.judgeElevation x e).alc = t.alc := by
    unfold State.judgeElevation
    dsimp only
    rcases ht with ht | ht | ht | ht
    · rw [ht]
      simp
    · rw [ht]
      dsimp only
      split
      · split <;> simp
      · rfl
    · rw [ht]
    · rw [ht]
  have hsettle : (s.settle x).alc = s.alc := by simp
  unfold State.elevArrival
  simp only [withPole_frame]
  refine (hjudge _ ?_).trans hsettle
  rw [settle_eq, withPole_pole_self, State.settledPole]
  split
  next hc =>
    simp only [Bool.and_eq_true, beq_iff_eq] at hc
    obtain ⟨⟨⟨⟨-, hinitial⟩, -⟩, -⟩, -⟩ := hc
    split
    · simp [Pole.hooked, Pole.lowered]
    · split
      · exact .inr (.inl hinitial)
      · unfold Pole.lowered
        cases s.stowedClosed x <;> simp
  next => exact h.imp_right .inl

theorem elevArrival_supervising (s : State) (x : PoleId) (e : Nat) :
    (s.elevArrival x e).ps.supervising = s.ps.supervising := by
  have hdrop (t : State) : (t.drop x).ps.supervising = t.ps.supervising := by
    simp [State.drop, State.lower, withPole_supervising]
  have hjudge (t : State) : (t.judgeElevation x e).ps.supervising = t.ps.supervising := by
    unfold State.judgeElevation
    dsimp only
    cases (t.pole x).state with
    | initial =>
      dsimp only
      split
      · split <;> simp [State.lower, examineQualify_eq, withPole_supervising]
      · rfl
    | raising => simp [examineQualify_eq, withPole_supervising]
    | onWire =>
      dsimp only
      split
      · exact hdrop t
      · split <;> simp [withPole_supervising]
    | suspect =>
      dsimp only
      split
      · exact hdrop t
      · split
        · exact withPole_supervising t x _
        · split <;> simp [withPole_supervising]
    | lowerWait =>
      dsimp only
      split
      · exact hdrop t
      · split
        · split <;> simp [withPole_supervising]
        · split <;> simp [withPole_supervising]
    | stowed | lowering | stuck => rfl
  unfold State.elevArrival
  dsimp only
  rw [withPole_supervising, hjudge, settle_eq, withPole_supervising]

/-! ### A word of an elevation (R8, R11, R180) -/

theorem poleWindow_iff {g : PoleSettings} : poleWindow g e = true ↔ g.contactLo ≤ e ∧ e ≤ g.contactHi := by
  simp [poleWindow]

theorem poleJump_iff {g : PoleSettings} {n : Nat} : poleJump g n e = true ↔ n + g.dropStep ≤ e := by
  simp [poleJump]

theorem poleArrival_elev (hm : s.rsq.mode ≠ .config) (hp : s.role = .pole) (hs : s.ps.supervising = true) (x : PoleId) :
    s.poleArrival (elevChannel x) = s.elevArrival x (s.latch (elevChannel x)).value := by
  unfold State.poleArrival
  dsimp only
  rw [if_neg (by simp [hm, hp])]
  cases x <;> exact if_pos hs

/-- The elevation a word brings (R178). -/
def wordElevation (w : Half) : Nat := min 900 (w.toNat % 8192)

/-- The state once a word of an elevation has been judged. -/
def State.elevated (x : PoleId) (word : Half) (line : LineLevel) (s : State) : State :=
  (s.arrived word line).elevArrival x (wordElevation word)

theorem body_elevation (hm : s.rsq.mode ≠ .config) (hp : s.role = .pole) (hs : s.ps.supervising = true)
    (hword : word.toNat / 8192 = (elevChannel x).val) :
    s.body (.sampleWord word line) = some (s.elevated x word line) := by
  obtain ⟨hcfs, hps, -, -, hmode⟩ := arrived_blocks s word line
  rw [body_sampleWord, wordChannel_eq hword, poleArrival_elev (by rw [hmode]; exact hm) ((role_congr hcfs).trans hp)
    (by rw [hps]; exact hs), arrived_latch_self hword]
  cases x <;> rfl

/-- What the judgement of an elevation reads in the state in which it arrives. -/
structure ElevationMet (x : PoleId) (e : Nat) (s v : State) : Prop where
  pole : v.pole x = s.pole x
  cfg : v.poleCfg = s.poleCfg
  closed : v.stowedClosed x = s.stowedClosed x
  known : v.stowedKnown x = s.stowedKnown x
  supervising : v.ps.supervising = true
  band : v.ps.band = s.ps.band
  fresh : v.fresh (elevChannel x) = true
  value : (v.latch (elevChannel x)).value = e

theorem elevationMet_arrived (hs : s.ps.supervising = true) (hword : word.toNat / 8192 = (elevChannel x).val) :
    ElevationMet x (wordElevation word) s (s.arrived word line) := by
  obtain ⟨hcfs, hps, -, -, -⟩ := arrived_blocks s word line
  have hlatch := arrived_latch_self (s := s) (line := line) hword
  have hinputs : (s.arrived word line).iou.inputs = s.iou.inputs := by rw [arrived_iou]
  have hstowed : (s.arrived word line).stowedInput x = s.stowedInput x := by
    simp only [State.stowedInput, State.inputFn, hcfs]
  refine ⟨pole_congr hps x, by rw [State.poleCfg, hcfs]; rfl, ?_, ?_, by rw [hps]; exact hs, by rw [hps], ?_, ?_⟩
  · simp only [State.stowedClosed, State.inputActive, hstowed, hinputs]
  · simp only [State.stowedKnown, hstowed, hinputs]
  · rw [State.fresh, hlatch]
    rfl
  · rw [hlatch]
    cases x <;> rfl

theorem ElevationMet.condition (h : ElevationMet x e s v) :
    v.qualificationCondition x = (poleWindow s.poleCfg e && s.ps.band != .none) := by
  rw [State.qualificationCondition, h.fresh, h.cfg, h.value, h.band, Bool.true_and]

/-- The judgement reads no more of the state than `ElevationMet` says. -/
theorem ElevationMet.judged (h : ElevationMet x e s v) (hq : (s.pole x).isQualifying = false) :
    v.judgedPole x e = s.judgedPole x e := by
  have hexamined (w : State) (hw : w.pole x = s.pole x) : w.examinedPole x = s.pole x := by
    unfold State.examinedPole
    dsimp only
    rw [hw, hq]
    rfl
  simp only [State.judgedPole, State.droppedPole, h.pole, h.cfg, h.closed, hexamined v h.pole, hexamined s rfl]

theorem elevated_pole_settled (hs : s.ps.supervising = true) (hword : word.toNat / 8192 = (elevChannel x).val)
    (hstate : (s.pole x).state ≠ .initial ∨ (s.pole x).qualifying = true) :
    (s.elevated x word line).pole x =
      { (s.arrived word line).judgedPole x (wordElevation word) with elevation := wordElevation word } := by
  have hmet := elevationMet_arrived (line := line) hs hword
  rw [State.elevated, elevArrival_pole, settle_of_settled (by rw [hmet.pole]; exact hstate)]

/-- The record an elevation leaves of a pole that is not held for qualification. -/
theorem elevated_pole (hs : s.ps.supervising = true) (hword : word.toNat / 8192 = (elevChannel x).val)
    (hr : (s.pole x).state ≠ .raising) (hi : (s.pole x).state ≠ .initial) :
    (s.elevated x word line).pole x =
      { s.judgedPole x (wordElevation word) with elevation := wordElevation word } := by
  rw [elevated_pole_settled hs hword (.inl hi), (elevationMet_arrived hs hword).judged (by simp [Pole.isQualifying, hr, hi])]

theorem judgedPole_at_rest (hr : (s.pole x).state ≠ .raising) (hi : (s.pole x).state ≠ .initial) (e : Nat) :
    (s.judgedPole x e).state ≠ .raising ∧ (s.judgedPole x e).state ≠ .initial := by
  have hdropped : (s.droppedPole x).state ≠ .raising ∧ (s.droppedPole x).state ≠ .initial := lowered_state _ _
  unfold State.judgedPole
  dsimp only
  cases hstate : (s.pole x).state with
  | initial => exact absurd hstate hi
  | raising => exact absurd hstate hr
  | onWire | suspect =>
    dsimp only
    split
    · exact hdropped
    · split <;> simp [hstate]
  | lowerWait =>
    dsimp only
    split
    · exact hdropped
    · split
      · split <;> simp [hstate]
      · simp
  | stowed | lowering | stuck => simp [hstate]

theorem elevated_finish_at_rest (hs : s.ps.supervising = true) (hword : word.toNat / 8192 = (elevChannel x).val)
    (hr : (s.pole x).state ≠ .raising) (hi : (s.pole x).state ≠ .initial) :
    ((s.elevated x word line).finish s).pole x =
      { s.judgedPole x (wordElevation word) with elevation := wordElevation word } := by
  have hpole := elevated_pole (line := line) hs hword hr hi
  obtain ⟨hr', hi'⟩ := judgedPole_at_rest hr hi (wordElevation word)
  rw [finish_pole_at_rest s x (by rw [hpole]; exact hr') (by rw [hpole]; exact hi'), hpole]

/-! ### A drop (R11, R13) -/

theorem judgeElevation_of_jump (hstate : (s.pole x).state = .onWire ∨ (s.pole x).state = .suspect ∨ (s.pole x).state = .lowerWait)
    (hjump : poleJump s.poleCfg (s.pole x).elevation e = true) : s.judgeElevation x e = s.drop x := by
  unfold State.judgeElevation
  dsimp only
  rcases hstate with hstate | hstate | hstate <;> rw [hstate] <;> exact if_pos hjump

theorem judgedPole_of_jump (hstate : (s.pole x).state = .onWire ∨ (s.pole x).state = .suspect ∨ (s.pole x).state = .lowerWait)
    (hjump : poleJump s.poleCfg (s.pole x).elevation e = true) : s.judgedPole x e = s.droppedPole x := by
  unfold State.judgedPole
  dsimp only
  rcases hstate with hstate | hstate | hstate <;> rw [hstate] <;> exact if_pos hjump

theorem elevated_listed (hs : s.ps.supervising = true) (hword : word.toNat / 8192 = (elevChannel x).val)
    (hstate : (s.pole x).state = .onWire ∨ (s.pole x).state = .suspect ∨ (s.pole x).state = .lowerWait)
    (hjump : (s.pole x).elevation + s.poleCfg.dropStep ≤ wordElevation word)
    (hplace : HasPlace (.station s.own) (dropCause x) s) :
    ListedPending (.station s.own) (dropCause x) ((s.elevated x word line).finish s) := by
  obtain ⟨hcfs, -, halc, -, -⟩ := arrived_blocks s word line
  have hmet := elevationMet_arrived (line := line) hs hword
  set v := s.arrived word line with hv
  have hi : (v.pole x).state ≠ .initial := by
    rw [hmet.pole]
    rcases hstate with h | h | h <;> rw [h] <;> decide
  have hdrop : (v.settle x).judgeElevation x (wordElevation word) = v.drop x := by
    rw [settle_of_settled (.inl hi)]
    refine judgeElevation_of_jump (by rw [hmet.pole]; exact hstate) ?_
    rw [hmet.pole, hmet.cfg]
    exact poleJump_iff.2 hjump
  set w := (v.withPole x { v.pole x with drops := satInc 255 (v.pole x).drops }).lower x with hw
  have hown : w.own = s.own := own_congr (by simp [hw, hcfs])
  have hplace' : HasPlace (.station w.own) (dropCause x) w := by
    have hwalc : w.alc = s.alc := by simp [hw, State.lower, halc]
    rw [hown, HasPlace, State.listed, State.alarms, hwalc]
    exact hplace
  have hraised := ownPending_raiseOwn none hplace'
  have hu : s.elevated x word line =
      (w.raiseOwn (dropCause x) none).withPole x
        { (w.raiseOwn (dropCause x) none).pole x with elevation := wordElevation word } := by
    rw [State.elevated, State.elevArrival, ← hv, hdrop]
    rfl
  rw [hu]
  have hpending := ownPending_finishBut none s (hraised.congr (t := (w.raiseOwn (dropCause x) none).withPole x
    { (w.raiseOwn (dropCause x) none).pole x with elevation := wordElevation word }) (by simp) (by simp))
  have hlisted := hpending.listed
  have hend : (((w.raiseOwn (dropCause x) none).withPole x
      { (w.raiseOwn (dropCause x) none).pole x with elevation := wordElevation word }).finish s).own = s.own :=
    own_congr (by simp [hw, hcfs])
  rwa [← hend]

theorem elevated_mode (s : State) (x : PoleId) (word : Half) (line : LineLevel) :
    (s.elevated x word line).rsq.mode = s.rsq.mode ∧ (s.elevated x word line).cfs = s.cfs := by
  obtain ⟨hcfs, -, -, -, hmode⟩ := arrived_blocks s word line
  simp [State.elevated, hcfs, hmode]

theorem elevation_drops (hm : s.rsq.mode ≠ .config) (hs : s.ps.supervising = true)
    (hword : word.toNat / 8192 = (elevChannel x).val)
    (hstate : (s.pole x).state = .onWire ∨ (s.pole x).state = .suspect ∨ (s.pole x).state = .lowerWait)
    (hjump : (s.pole x).elevation + s.poleCfg.dropStep ≤ wordElevation word) :
    let t := (s.elevated x word line).finish s
    t.pole x =
        { ({ s.pole x with drops := min 255 ((s.pole x).drops + 1) } : Pole).lowered (s.stowedClosed x) with
          elevation := wordElevation word } ∧
      (HasPlace (.station s.own) (dropCause x) s → ListedPending (.station s.own) (dropCause x) t) ∧
      (HasPlace (.station s.own) (dropCause x) s → t.ca.lineCondition = .alarm) := by
  have hr : (s.pole x).state ≠ .raising := by rcases hstate with h | h | h <;> rw [h] <;> decide
  have hi : (s.pole x).state ≠ .initial := by rcases hstate with h | h | h <;> rw [h] <;> decide
  have hgives : givesAlarm (dropCause x) = true := by cases x <;> rfl
  have hmode : (s.elevated x word line).rsq.mode ≠ .config := by rw [(elevated_mode s x word line).1]; exact hm
  refine ⟨?_, elevated_listed hs hword hstate hjump, fun hplace => ?_⟩
  · rw [elevated_finish_at_rest hs hword hr hi, judgedPole_of_jump hstate (poleJump_iff.2 hjump)]
    rfl
  · rw [(currentEnd_finish s hmode).line]
    exact judgeLine_of_alarm (alarmEffect_of_listed hgives (elevated_listed hs hword hstate hjump hplace))

/-! ### On the wire, in doubt, and waiting to come down (R11, R12, R15) -/

theorem elevation_onWire (hs : s.ps.supervising = true) (hword : word.toNat / 8192 = (elevChannel x).val)
    (hstate : (s.pole x).state = .onWire) (hjump : ¬(s.pole x).elevation + s.poleCfg.dropStep ≤ wordElevation word) :
    ((s.elevated x word line).finish s).pole x =
      if s.poleCfg.contactLo ≤ wordElevation word ∧ wordElevation word ≤ s.poleCfg.contactHi then
        { s.pole x with elevation := wordElevation word }
      else { s.pole x with elevation := wordElevation word, state := .suspect, confirmTimer := some 0 } := by
  rw [elevated_finish_at_rest hs hword (by rw [hstate]; decide) (by rw [hstate]; decide)]
  simp only [State.judgedPole, hstate, poleJump_iff, if_neg hjump, poleWindow_iff]
  split
  · rw [← hstate]
  · rfl

theorem elevation_suspect (hs : s.ps.supervising = true) (hword : word.toNat / 8192 = (elevChannel x).val)
    (hstate : (s.pole x).state = .suspect) (hjump : ¬(s.pole x).elevation + s.poleCfg.dropStep ≤ wordElevation word) :
    ((s.elevated x word line).finish s).pole x =
      if s.poleCfg.contactLo ≤ wordElevation word ∧ wordElevation word ≤ s.poleCfg.contactHi then
        { s.pole x with
          elevation := wordElevation word, state := .onWire, confirmTimer := none
          bounces := min 255 ((s.pole x).bounces + 1) }
      else { s.pole x with elevation := wordElevation word, confirmTimer := (s.pole x).confirmTimer <|> some 0 } := by
  rw [elevated_finish_at_rest hs hword (by rw [hstate]; decide) (by rw [hstate]; decide)]
  simp only [State.judgedPole, hstate, poleJump_iff, if_neg hjump, poleWindow_iff]
  split
  · rfl
  · rfl

theorem elevation_lowerWait (hs : s.ps.supervising = true) (hword : word.toNat / 8192 = (elevChannel x).val)
    (hstate : (s.pole x).state = .lowerWait) (hjump : ¬(s.pole x).elevation + s.poleCfg.dropStep ≤ wordElevation word) :
    ((s.elevated x word line).finish s).pole x =
      if s.poleCfg.contactLo ≤ wordElevation word ∧ wordElevation word ≤ s.poleCfg.contactHi then
        if (s.pole x).confirmTimer.isSome then
          { s.pole x with
            elevation := wordElevation word, confirmTimer := none, bounces := min 255 ((s.pole x).bounces + 1) }
        else { s.pole x with elevation := wordElevation word }
      else { s.pole x with elevation := wordElevation word, confirmTimer := (s.pole x).confirmTimer <|> some 0 } := by
  rw [elevated_finish_at_rest hs hword (by rw [hstate]; decide) (by rw [hstate]; decide)]
  simp only [State.judgedPole, hstate, poleJump_iff, if_neg hjump, poleWindow_iff]
  split
  · split
    · rw [← hstate]
    · rw [← hstate]
  · rw [← hstate]
    rfl

theorem elevation_down (hs : s.ps.supervising = true) (hword : word.toNat / 8192 = (elevChannel x).val)
    (hstate : (s.pole x).state = .stowed ∨ (s.pole x).state = .lowering ∨ (s.pole x).state = .stuck) :
    ((s.elevated x word line).finish s).pole x = { s.pole x with elevation := wordElevation word } := by
  have hr : (s.pole x).state ≠ .raising := by rcases hstate with h | h | h <;> rw [h] <;> decide
  have hi : (s.pole x).state ≠ .initial := by rcases hstate with h | h | h <;> rw [h] <;> decide
  have hjudged : s.judgedPole x (wordElevation word) = s.pole x := by
    unfold State.judgedPole
    dsimp only
    rcases hstate with h | h | h <;> rw [h]
  rw [elevated_finish_at_rest hs hword hr hi, hjudged]

/-! ### Held for qualification (R4, R8, R9) -/

/-- R8: a qualify timer started unless it runs already. -/
theorem qualify_started {r : Pole} (hq : r.qualified = false) :
    (if r.qualifyTimer.isSome || r.qualified then r else { r with qualifyTimer := Timer.started }) =
      { r with qualifyTimer := r.qualifyTimer <|> some 0 } := by
  obtain ⟨_, _, _, _, _, _, _, _, qualifyTimer, _, _⟩ := r
  cases hq
  cases qualifyTimer <;> rfl

/-- R8, R9: a pole held for qualification without its mark, examined. -/
theorem examinedPole_unmarked (hx : (s.pole x).isQualifying = true) (hq : (s.pole x).qualified = false) :
    s.examinedPole x =
      { s.pole x with
        qualifyTimer := if s.qualificationCondition x = true then (s.pole x).qualifyTimer <|> some 0 else none } := by
  unfold State.examinedPole
  dsimp only
  rw [hx, if_neg (by simp)]
  split
  · exact qualify_started hq
  · generalize s.pole x = r at hq ⊢
    obtain ⟨⟩ := r
    cases hq
    rfl

theorem ElevationMet.condition_iff (h : ElevationMet x e s v) :
    v.qualificationCondition x = true ↔
      (s.poleCfg.contactLo ≤ e ∧ e ≤ s.poleCfg.contactHi) ∧ s.ps.band ≠ .none := by
  rw [h.condition, Bool.and_eq_true, poleWindow_iff, bne_iff_ne]

/-- An event that lists nothing and keeps the mode ends no raise. -/
theorem elevated_abandons (h : (s.pole x).state = .raising ∨ (s.pole x).state = .initial) :
    (s.elevated x word line).abandons s = false := by
  obtain ⟨-, hps, halc, -, -⟩ := arrived_blocks s word line
  refine abandons_of_kept (elevated_mode s x word line).1 (newStop_of_alc ?_)
  rw [State.elevated, elevArrival_alc (by rw [pole_congr hps x]; exact h), halc]

theorem elevated_supervising (hs : s.ps.supervising = true) : (s.elevated x word line).ps.supervising = true := by
  obtain ⟨-, hps, -, -, -⟩ := arrived_blocks s word line
  rw [State.elevated, elevArrival_supervising, hps, hs]

theorem elevation_raising (hm : s.rsq.mode ≠ .config) (hp : s.role = .pole) (hs : s.ps.supervising = true)
    (hword : word.toNat / 8192 = (elevChannel x).val) (hstate : (s.pole x).state = .raising) {r : Pole}
    (hr : (s.arrived word line).examinedPole x = r) (hkept : r.state = (s.pole x).state) (hq : r.qualified = false) :
    ((s.elevated x word line).finish s).pole x = { r with elevation := wordElevation word } := by
  have hpole := elevated_pole_settled (line := line) hs hword (.inl (by rw [hstate]; decide))
  have hjudged : (s.arrived word line).judgedPole x (wordElevation word) = r := by
    unfold State.judgedPole
    dsimp only
    rw [(elevationMet_arrived hs hword).pole, hstate]
    exact hr
  rw [hjudged] at hpole
  rw [finish_pole (by rw [(elevated_mode s x word line).1]; exact hm)
    ((role_congr (elevated_mode s x word line).2).trans hp) (elevated_supervising hs)]
  exact endPole_of_rest (elevated_abandons (.inl hstate)) hpole (by dsimp only; rw [hkept, hstate]; decide) (.inr hq)

theorem elevation_raising_unmarked (hm : s.rsq.mode ≠ .config) (hp : s.role = .pole) (hs : s.ps.supervising = true)
    (hword : word.toNat / 8192 = (elevChannel x).val) (hstate : (s.pole x).state = .raising)
    (hq : (s.pole x).qualified = false) :
    ((s.elevated x word line).finish s).pole x =
      { s.pole x with
        elevation := wordElevation word
        qualifyTimer :=
          if (s.poleCfg.contactLo ≤ wordElevation word ∧ wordElevation word ≤ s.poleCfg.contactHi) ∧ s.ps.band ≠ .none then
            (s.pole x).qualifyTimer <|> some 0
          else none } := by
  have hmet := elevationMet_arrived (line := line) hs hword
  have hexamined := examinedPole_unmarked (s := s.arrived word line) (x := x)
    (by rw [hmet.pole]; simp [Pole.isQualifying, hstate]) (by rw [hmet.pole]; exact hq)
  simp only [hmet.pole, hmet.condition_iff] at hexamined
  exact elevation_raising hm hp hs hword hstate hexamined rfl hq

theorem elevation_raising_leaves (hm : s.rsq.mode ≠ .config) (hp : s.role = .pole) (hs : s.ps.supervising = true)
    (hword : word.toNat / 8192 = (elevChannel x).val) (hstate : (s.pole x).state = .raising)
    (hq : (s.pole x).qualified = true)
    (hin : ¬(s.poleCfg.contactLo ≤ wordElevation word ∧ wordElevation word ≤ s.poleCfg.contactHi)) :
    ((s.elevated x word line).finish s).pole x =
      { s.pole x with
        elevation := wordElevation word, qualifyTimer := none, qualified := false, stateTimer := some 0 } := by
  have hmet := elevationMet_arrived (line := line) hs hword
  have hcondition : ¬(s.arrived word line).qualificationCondition x = true := fun h => hin (hmet.condition_iff.1 h).1
  have hexamined : (s.arrived word line).examinedPole x =
      { s.pole x with qualifyTimer := none, qualified := false, stateTimer := some 0 } := by
    unfold State.examinedPole
    dsimp only
    rw [hmet.pole, if_neg (by simp [Pole.isQualifying, hstate]), if_neg hcondition, hq, hstate]
    rfl
  exact elevation_raising hm hp hs hword hstate hexamined rfl rfl

theorem elevation_initial_leaves (hs : s.ps.supervising = true) (hword : word.toNat / 8192 = (elevChannel x).val)
    (hstate : (s.pole x).state = .initial) (hqualifying : (s.pole x).qualifying = true)
    (hin : ¬(s.poleCfg.contactLo ≤ wordElevation word ∧ wordElevation word ≤ s.poleCfg.contactHi)) :
    ((s.elevated x word line).finish s).pole x =
      { (s.pole x).lowered (s.stowedClosed x) with elevation := wordElevation word } := by
  have hmet := elevationMet_arrived (line := line) hs hword
  have hpole := elevated_pole_settled (line := line) hs hword (.inr hqualifying)
  have hjudged : (s.arrived word line).judgedPole x (wordElevation word) = (s.pole x).lowered (s.stowedClosed x) := by
    unfold State.judgedPole
    dsimp only
    rw [hmet.pole, hmet.cfg, hmet.closed, hstate]
    dsimp only
    rw [if_pos hqualifying, if_neg fun h => hin (poleWindow_iff.1 h)]
  rw [hjudged] at hpole
  obtain ⟨hr', hi'⟩ := lowered_state (s.pole x) (s.stowedClosed x)
  rw [finish_pole_at_rest s x (by rw [hpole]; exact hr') (by rw [hpole]; exact hi'), hpole]

/-- R4: what an arrival makes of an unsettled pole before the elevation is judged. -/
theorem settledPole_met (hmet : ElevationMet x e s v) (hstate : (s.pole x).state = .initial)
    (hqualifying : (s.pole x).qualifying = false) (hknown : s.stowedKnown x = true) :
    v.settledPole x (s.pole x) =
      if s.stowedClosed x = true then (s.pole x).lowered true
      else if s.poleCfg.contactLo ≤ e ∧ e ≤ s.poleCfg.contactHi then { s.pole x with qualifying := true }
      else (s.pole x).lowered false := by
  have hhooked : (s.pole x).hooked = (s.pole x).lowered true := rfl
  have hdue : (v.ps.supervising && (s.pole x).state == .initial && !(s.pole x).qualifying && v.stowedKnown x &&
      v.fresh (elevChannel x)) = true := by
    simp [hmet.supervising, hstate, hqualifying, hmet.known, hknown, hmet.fresh]
  unfold State.settledPole
  rw [if_pos hdue, hmet.closed, hmet.cfg, hmet.value, hhooked]
  simp only [poleWindow_iff]
  cases s.stowedClosed x <;> rfl

/-- The record an elevation leaves of a pole that it settles first. -/
theorem elevated_pole_settling (hs : s.ps.supervising = true) (hword : word.toNat / 8192 = (elevChannel x).val) {r : Pole}
    (hr : (s.arrived word line).settledPole x (s.pole x) = r) :
    (s.elevated x word line).pole x =
      { ((s.arrived word line).withPole x r).judgedPole x (wordElevation word) with elevation := wordElevation word } := by
  have hmet := elevationMet_arrived (line := line) hs hword
  rw [State.elevated, elevArrival_pole, settle_eq, hmet.pole, hr]

theorem judgedPole_of_down {r : Pole} (h : s.pole x = r) (hr : r.state = .stowed ∨ r.state = .lowering) (e : Nat) :
    s.judgedPole x e = r := by
  unfold State.judgedPole
  dsimp only
  rw [h]
  rcases hr with hr | hr <;> rw [hr]

theorem elevation_settles_down (hs : s.ps.supervising = true) (hword : word.toNat / 8192 = (elevChannel x).val) {b : Bool}
    (hr : (s.arrived word line).settledPole x (s.pole x) = (s.pole x).lowered b) :
    ((s.elevated x word line).finish s).pole x = { (s.pole x).lowered b with elevation := wordElevation word } := by
  have hpole := elevated_pole_settling hs hword hr
  rw [judgedPole_of_down (withPole_pole_self _ _ _) (by cases b <;> simp [Pole.lowered])] at hpole
  obtain ⟨hr', hi'⟩ := lowered_state (s.pole x) b
  rw [finish_pole_at_rest s x (by rw [hpole]; exact hr') (by rw [hpole]; exact hi'), hpole]

theorem elevation_settles_held (hs : s.ps.supervising = true)
    (hword : word.toNat / 8192 = (elevChannel x).val) (hstate : (s.pole x).state = .initial)
    (hq : (s.pole x).qualified = false)
    (hin : s.poleCfg.contactLo ≤ wordElevation word ∧ wordElevation word ≤ s.poleCfg.contactHi)
    (hr : (s.arrived word line).settledPole x (s.pole x) = { s.pole x with qualifying := true }) :
    ((s.elevated x word line).finish s).pole x =
      { s.pole x with
        elevation := wordElevation word, qualifying := true
        qualifyTimer := if s.ps.band ≠ .none then (s.pole x).qualifyTimer <|> some 0 else none } := by
  have hmet := elevationMet_arrived (line := line) hs hword
  have hpole := elevated_pole_settling hs hword hr
  set w := (s.arrived word line).withPole x { s.pole x with qualifying := true } with hw
  have hwpole : w.pole x = { s.pole x with qualifying := true } := withPole_pole_self _ _ _
  have hband : w.ps.band = s.ps.band := (by cases x <;> rfl : w.ps.band = (s.arrived word line).ps.band).trans hmet.band
  have hcondition : w.qualificationCondition x = true ↔ s.ps.band ≠ .none := by
    have hsame : w.qualificationCondition x = (s.arrived word line).qualificationCondition x := by
      rw [State.qualificationCondition, hband, ← hmet.band]
      rfl
    rw [hsame, hmet.condition_iff, and_iff_right hin]
  have hjudged : w.judgedPole x (wordElevation word) = w.examinedPole x := by
    have hinside : poleWindow w.poleCfg (wordElevation word) = true := by
      have hcfg : w.poleCfg = s.poleCfg := hmet.cfg
      rw [hcfg]
      exact poleWindow_iff.2 hin
    unfold State.judgedPole
    dsimp only
    rw [hwpole, hstate]
    dsimp only
    rw [if_pos rfl, if_pos hinside]
  rw [hjudged, examinedPole_unmarked (by rw [hwpole]; simp [Pole.isQualifying, hstate]) (by rw [hwpole]; exact hq)] at hpole
  simp only [hwpole, hcondition] at hpole
  refine (finishBut_pole_steady none s x (fun h => ?_) (fun _ => ?_) (fun _ h => ?_)).trans hpole
  · rw [hpole] at h
    simp [hstate] at h
  · rw [hpole]
  · rw [hpole] at h
    simp [hq] at h

theorem elevation_settles (hs : s.ps.supervising = true) (hword : word.toNat / 8192 = (elevChannel x).val)
    (hstate : (s.pole x).state = .initial) (hqualifying : (s.pole x).qualifying = false)
    (hq : (s.pole x).qualified = false) (hknown : s.stowedKnown x = true) :
    ((s.elevated x word line).finish s).pole x =
      if s.stowedClosed x = true then { (s.pole x).lowered true with elevation := wordElevation word }
      else if s.poleCfg.contactLo ≤ wordElevation word ∧ wordElevation word ≤ s.poleCfg.contactHi then
        { s.pole x with
          elevation := wordElevation word, qualifying := true
          qualifyTimer := if s.ps.band ≠ .none then (s.pole x).qualifyTimer <|> some 0 else none }
      else { (s.pole x).lowered false with elevation := wordElevation word } := by
  have hr := settledPole_met (elevationMet_arrived (line := line) hs hword) hstate hqualifying hknown
  by_cases hclosed : s.stowedClosed x = true
  · rw [if_pos hclosed] at hr ⊢
    exact elevation_settles_down hs hword hr
  · rw [if_neg hclosed] at hr ⊢
    by_cases hin : s.poleCfg.contactLo ≤ wordElevation word ∧ wordElevation word ≤ s.poleCfg.contactHi
    · rw [if_pos hin] at hr ⊢
      exact elevation_settles_held hs hword hstate hq hin hr
    · rw [if_neg hin] at hr ⊢
      exact elevation_settles_down hs hword hr

end Judged

/-- Settles O40: the pole is settled, its elevation judged in its state, and the event's end leaves the record that gives. -/
theorem elevationJudged : Obligations.ElevationJudged := by
  intro s x word line hm hp hs hword
  exact ⟨_, exec_of_body (body_elevation hm hp hs hword), elevation_drops hm hs hword, elevation_onWire hs hword,
    elevation_suspect hs hword, elevation_lowerWait hs hword, elevation_down hs hword,
    elevation_raising_unmarked hm hp hs hword, elevation_raising_leaves hm hp hs hword, elevation_initial_leaves hs hword,
    elevation_settles hs hword⟩

end Machine
end Sys2Proof

/-!
PROOFS. What a debounced change delivers to the owner of the input's function (R34, R77, R78, R171, R173; O38).
-/

namespace Sys2Proof
namespace Machine

section Delivered

variable {s t u v old : State} {i : Fin 16} {active : Bool} {line : LineLevel}

/-! ### The state in which a change is delivered (R170, R172) -/

/-- R172: an input takes its new value, with the change set and INPUTS. -/
def State.revalue (i : Fin 16) (active : Bool) (s : State) : State :=
  let t := s.withInput i { cell s.iou.inputs i with value := levelOf active }
  (t.withIou { t.iou with changeSet := addBit t.iou.changeSet i.val }).setTopics { inputs := true }

theorem revalue_iou (s : State) (i : Fin 16) (active : Bool) :
    (s.revalue i active).iou =
      { s.iou with
        inputs := setCell s.iou.inputs i { cell s.iou.inputs i with value := levelOf active }
        changeSet := addBit s.iou.changeSet i.val } := rfl

/-- R172: what a debounced change leaves before its function's owner takes it. -/
def State.revalued (i : Fin 16) (active : Bool) (line : LineLevel) (s : State) : State :=
  ((s.sense line).settled i).revalue i active

/-- R171: the level rises. -/
def State.rises (i : Fin 16) (active : Bool) (s : State) : Bool := (cell s.iou.inputs i).value == .inactive && active

theorem rises_iff : s.rises i active = true ↔ (cell s.iou.inputs i).value = .inactive ∧ active = true := by
  rw [State.rises, Bool.and_eq_true, beq_iff_eq]

theorem activeStops_sense (s : State) (i : Fin 16) (line : LineLevel) :
    ((s.sense line).settled i).activeStops = s.activeStops := by
  have hiou : (s.sense line).iou = s.iou := by simp
  have hinputs : ((s.sense line).settled i).iou.inputs = s.iou.inputs := by
    rw [State.settled, hiou]
    rfl
  have hcfs : ((s.sense line).settled i).cfs = s.cfs := by simp
  simp only [State.activeStops, State.inputFn, State.inputActive, hinputs, hcfs]

theorem changed_eq (hm : s.rsq.mode ≠ .config) :
    s.changed i active line = (s.revalued i active line).deliver i (cell s.iou.inputs i).value active s.activeStops := by
  have hmode : ((s.sense line).settled i).rsq.mode ≠ .config := by simpa using hm
  have hvalue : (cell ((s.sense line).settled i).iou.inputs i).value = (cell s.iou.inputs i).value := by
    have hiou : (s.sense line).iou = s.iou := by simp
    rw [State.settled, hiou]
    rfl
  rw [State.changed, State.changeInput]
  dsimp only
  rw [if_neg hmode, activeStops_sense, hvalue]
  rfl

theorem revalued_frame (s : State) (i : Fin 16) (active : Bool) (line : LineLevel) :
    (s.revalued i active line).cfs = s.cfs ∧ (s.revalued i active line).li = (s.sense line).li ∧
      (s.revalued i active line).rsq = (s.sense line).rsq ∧ (s.revalued i active line).pt = s.pt ∧
      (s.revalued i active line).ps = s.ps ∧ (s.revalued i active line).alc = s.alc ∧
      (s.revalued i active line).ca = s.ca ∧ (s.revalued i active line).ll = s.ll := by
  unfold State.revalued State.revalue
  simp

theorem revalued_iou (s : State) (i : Fin 16) (active : Bool) (line : LineLevel) :
    (s.revalued i active line).iou =
      { s.iou with
        inputs := setCell s.iou.inputs i { cell s.iou.inputs i with value := levelOf active }
        changeSet := addBit s.iou.changeSet i.val
        settling := dropBit s.iou.settling i.val } := by
  have hiou : (s.sense line).iou = s.iou := by simp
  have hsettled : ((s.sense line).settled i).iou = { s.iou with settling := dropBit s.iou.settling i.val } := by
    rw [State.settled, hiou]
    rfl
  rw [State.revalued, revalue_iou, hsettled]

theorem inputFn_revalued (s : State) (i j : Fin 16) (active : Bool) (line : LineLevel) :
    (s.revalued i active line).inputFn j = s.inputFn j := by
  rw [State.inputFn, (revalued_frame s i active line).1]
  rfl

theorem inputActive_revalued (s : State) (i j : Fin 16) (active : Bool) (line : LineLevel) :
    (s.revalued i active line).inputActive j = if j = i then active else s.inputActive j := by
  rw [State.inputActive, revalued_iou]
  by_cases h : j = i
  · subst h
    rw [if_pos rfl, cell_setCell_self]
    cases active <;> rfl
  · rw [if_neg h, cell_setCell_ne _ _ h]
    rfl

theorem stowedInput_revalued (s : State) (i : Fin 16) (active : Bool) (line : LineLevel) (x : PoleId) :
    (s.revalued i active line).stowedInput x = s.stowedInput x := by
  simp only [State.stowedInput, inputFn_revalued]

theorem stowedInput_ne {x : PoleId} {j : Fin 16} (h : s.inputFn i ≠ .stowed x) (hj : s.stowedInput x = some j) : j ≠ i := by
  rintro rfl
  have hfound := List.find?_some hj
  exact h (by simpa using hfound)

/-- A change of an input that is no STOWED input of pole `x` leaves what the pole reads of the inputs. -/
theorem stowed_revalued {x : PoleId} (h : s.inputFn i ≠ .stowed x) :
    (s.revalued i active line).stowedKnown x = s.stowedKnown x ∧
      (s.revalued i active line).stowedClosed x = s.stowedClosed x := by
  unfold State.stowedKnown State.stowedClosed
  rw [stowedInput_revalued]
  cases hj : s.stowedInput x with
  | none => exact ⟨rfl, rfl⟩
  | some j =>
    have hne := stowedInput_ne h hj
    refine ⟨?_, ?_⟩
    · dsimp only
      rw [revalued_iou, cell_setCell_ne _ _ hne]
    · dsimp only
      rw [inputActive_revalued, if_neg hne]

theorem activeStops_revalued (h : s.inputFn i ≠ .stopButton) : (s.revalued i active line).activeStops = s.activeStops := by
  have hsame : (fun j => (s.revalued i active line).inputFn j == .stopButton && (s.revalued i active line).inputActive j) =
      fun j => s.inputFn j == .stopButton && s.inputActive j := by
    funext j
    rw [inputFn_revalued, inputActive_revalued]
    by_cases hj : j = i
    · subst hj
      have hfn : (s.inputFn j == .stopButton) = false := by simpa using h
      rw [hfn, Bool.false_and, Bool.false_and]
    · rw [if_neg hj]
  rw [State.activeStops, hsame]
  rfl

theorem reviewedAlike_revalued (h : s.inputFn i ≠ .stopButton) (hx : ∀ x, s.inputFn i ≠ .stowed x) :
    ReviewedAlike s (s.revalued i active line) := by
  obtain ⟨hcfs, -, hrsq, -, hps, halc, -, -⟩ := revalued_frame s i active line
  refine ⟨hcfs, hps, by rw [halc], by rw [revalued_iou], by simp [hrsq], fun x => (stowed_revalued (hx x)).1,
    fun x => (stowed_revalued (hx x)).2, activeStops_revalued h⟩

/-- Where nothing is to settle, an event that changes a button, a channel input or a GENERAL one leaves the rest. -/
theorem revalued_idle (hm : s.rsq.mode ≠ .config) (hs : Settled s) (h : ReviewedAlike s u)
    (hli : u.li = (s.sense line).li) (hpt : u.pt = s.pt) (hca : u.ca = s.ca) (hll : u.ll = s.ll) :
    (u.finish s).rsq = u.rsq ∧ (u.finish s).ps = u.ps ∧ (u.finish s).alc = u.alc ∧ (u.finish s).ca = u.ca ∧
      (u.finish s).ll = u.ll :=
  finishBut_idle none (blocksEnd_idle (endsIdle_of_settled hm hs) h (by rw [hli]; simp) hpt hca (by rw [hll]) hm)

/-! ### Notices placed (R128, R129) -/

theorem placed_placeInternal (n : Notice) (s : State) : Placed n s (s.placeInternal n) := by
  have hwaiting : s.noticeWaiting n = true ↔ n ∈ s.rsq.queue ∨ s.rsq.holding = some n := by
    simp [State.noticeWaiting]
  unfold Placed State.placeInternal
  by_cases hw : n ∈ s.rsq.queue ∨ s.rsq.holding = some n
  · rw [if_pos hw, if_pos (hwaiting.2 hw)]
  · rw [if_neg hw, if_neg fun h => hw (hwaiting.1 h)]
    by_cases hroom : s.rsq.queue.length < 8
    · rw [if_pos hroom, if_pos (show s.queueRoom = true from decide_eq_true hroom)]
      rfl
    · rw [if_neg hroom, if_neg (show ¬s.queueRoom = true from fun h => hroom (of_decide_eq_true h))]
      rfl

theorem mem_queue_of_placed {n : Notice} (h : Placed n s t) (hroom : s.rsq.queue.length < 8) (hheld : s.rsq.holding = none) :
    n ∈ t.rsq.queue := by
  rw [Placed, if_pos hroom] at h
  split at h
  next hw =>
    rw [h]
    rcases hw with hw | hw
    · exact hw
    · rw [hheld] at hw
      cases hw
  next =>
    rw [h]
    exact List.mem_append_right _ (List.mem_singleton.2 rfl)

theorem Placed.congr {n : Notice} (h : Placed n s t) (hs : v.rsq = s.rsq) (ht : u.rsq = t.rsq) : Placed n v u := by
  unfold Placed
  rw [hs, ht]
  exact h

/-- No event's end places a notice other than a CLEAR. -/
theorem mem_queue_of_finish {n : Notice} (hn : ∀ c, n ≠ .clear c) (h : n ∈ (u.finish old).rsq.queue) : n ∈ u.rsq.queue := by
  refine finishBut_alarms_keep (P := fun t => n ∈ t.rsq.queue → n ∈ u.rsq.queue) none old (fun t v hrsq _ _ ht => ?_)
    (fun t d ht => ?_) (fun t c _ ht hmem => ht ?_) id h
  · rw [hrsq]
    exact ht
  · simpa using ht
  · have hrsq : (t.withAlarms (removeEntry (.station t.own) c t.alarms)).rsq = t.rsq := rfl
    unfold State.clearOwn State.placeInternal at hmem
    split at hmem
    · exact hmem
    · split at hmem
      · rcases List.mem_append.1 hmem with hmem | hmem
        · exact hmem
        · exact absurd (List.mem_singleton.1 hmem) (hn c)
      · exact hmem

/-! ### The buttons (R109 to R111, R171) -/

theorem deliver_ackButton (h : s.inputFn i = .ackButton) (b : Debounced) (n : Nat) :
    s.deliver i b active n = if b == .inactive && active then s.placeInternal .ackAll else s := by
  rw [State.deliver, h]

theorem deliver_raiseButton (h : s.inputFn i = .raiseButton) (b : Debounced) (n : Nat) :
    s.deliver i b active n =
      if b == .inactive && active then (s.placeInternal (.command .raise .both)).commandPoles .raise .both else s := by
  rw [State.deliver, h]

theorem deliver_lowerButton (h : s.inputFn i = .lowerButton) (b : Debounced) (n : Nat) :
    s.deliver i b active n =
      if b == .inactive && active then (s.placeInternal (.command .lower .both)).commandPoles .lower .both else s := by
  rw [State.deliver, h]

theorem placeInternal_blocks (n : Notice) (s : State) :
    (s.placeInternal n).cfs = s.cfs ∧ (s.placeInternal n).li = s.li ∧ (s.placeInternal n).pt = s.pt ∧
      (s.placeInternal n).ps = s.ps ∧ (s.placeInternal n).alc = s.alc ∧ (s.placeInternal n).ca = s.ca ∧
      (s.placeInternal n).ll = s.ll ∧ (s.placeInternal n).iou = s.iou ∧
      (s.placeInternal n).rsq.mode = s.rsq.mode := by
  obtain ⟨hmode, -⟩ := (roundsKept_placeInternal s n).items
  exact ⟨by simp, by simp, by simp, by simp, by simp, by simp, by simp, by simp, hmode⟩

/-- A notice placed by a button is in the queue when there was room. -/
theorem placed_queued {n : Notice} (hroom : s.rsq.queue.length < 8) (hheld : s.rsq.holding = none)
    (hu : u.rsq = ((s.revalued i active line).placeInternal n).rsq) : n ∈ (u.finish s).rsq.queue := by
  obtain ⟨-, -, hrsq, -⟩ := revalued_frame s i active line
  have hqueue : (s.sense line).rsq.queue = s.rsq.queue ∧ (s.sense line).rsq.holding = s.rsq.holding := by simp
  refine mem_queue_finishBut none s ?_
  rw [hu]
  refine mem_queue_of_placed (placed_placeInternal n _) ?_ ?_
  · rw [hrsq, hqueue.1]
    exact hroom
  · rw [hrsq, hqueue.2]
    exact hheld

/-- A notice placed by a button of a station that does no more, where nothing is to settle. -/
theorem placed_settled {n : Notice} (hm : s.rsq.mode ≠ .config) (hs : Settled s) (h : s.inputFn i ≠ .stopButton)
    (hx : ∀ x, s.inputFn i ≠ .stowed x) :
    Placed n (s.sense line) (((s.revalued i active line).placeInternal n).finish s) := by
  obtain ⟨hcfs, hli, hrsq, hpt, hps, halc, hca, hll⟩ := revalued_frame s i active line
  have hr := reviewedAlike_revalued (active := active) (line := line) h hx
  obtain ⟨gcfs, gli, gpt, gps, galc, gca, gll, giou, gmode⟩ := placeInternal_blocks n (s.revalued i active line)
  have halike : ReviewedAlike s ((s.revalued i active line).placeInternal n) := by
    have hinputs := reviewedAlike_of_inputs (s := s.revalued i active line) gcfs gps (by rw [galc]) giou gmode
    exact ⟨hinputs.cfs.trans hr.cfs, hinputs.ps.trans hr.ps, by rw [galc, halc], hinputs.latches.trans hr.latches,
      hinputs.mode.trans hr.mode, fun x => (hinputs.known x).trans (hr.known x),
      fun x => (hinputs.closed x).trans (hr.closed x), hinputs.stops.trans hr.stops⟩
  obtain ⟨hend, -⟩ := revalued_idle hm hs halike (gli.trans hli) (gpt.trans hpt) (gca.trans hca) (gll.trans hll)
  exact (placed_placeInternal n _).congr hrsq.symm hend

theorem changed_ackButton (hm : s.rsq.mode ≠ .config) (hfn : s.inputFn i = .ackButton) :
    let t := (s.changed i active line).finish s
    let rising := (cell s.iou.inputs i).value = .inactive ∧ active = true
    (rising → s.rsq.queue.length < 8 → s.rsq.holding = none → .ackAll ∈ t.rsq.queue) ∧
      (rising → Settled s → Placed .ackAll (s.sense line) t) ∧
      (¬rising → (.ackAll ∈ t.rsq.queue ↔ .ackAll ∈ s.rsq.queue)) := by
  have hu := changed_eq (i := i) (active := active) (line := line) hm
  rw [deliver_ackButton ((inputFn_revalued s i i active line).trans hfn)] at hu
  change _ = if s.rises i active = true then _ else _ at hu
  obtain ⟨-, -, hrsq, -⟩ := revalued_frame s i active line
  refine ⟨fun hrise hroom hheld => ?_, fun hrise hs => ?_, fun hrise => ?_⟩
  · rw [if_pos (rises_iff.2 hrise)] at hu
    exact placed_queued hroom hheld (congrArg State.rsq hu)
  · rw [if_pos (rises_iff.2 hrise)] at hu
    rw [hu]
    exact placed_settled hm hs (by rw [hfn]; decide) (by rw [hfn]; simp)
  · rw [if_neg fun h => hrise (rises_iff.1 h)] at hu
    have hqueue : (s.changed i active line).rsq.queue = s.rsq.queue := by simp [hu, hrsq]
    rw [← hqueue]
    exact ⟨mem_queue_of_finish (by simp), mem_queue_finishBut none s⟩

theorem command_of_other_role {a : PoleAction} {ps : PoleSel} (h : s.role ≠ .pole) : s.commandPoles a ps = s := by
  unfold State.commandPoles
  exact if_neg h

/-- R6: a command that a button brings is judged in the state before the event. -/
theorem button_commands (hm : s.rsq.mode ≠ .config) (hp : s.role = .pole) (hx : ∀ x, s.inputFn i ≠ .stowed x)
    (a : PoleAction) (n : Notice) :
    Commanded a .both s ((((s.revalued i active line).placeInternal n).commandPoles a .both).finish s) := by
  obtain ⟨hcfs, -, hrsq, -, hps, halc, -, -⟩ := revalued_frame s i active line
  obtain ⟨gcfs, -, -, gps, galc, -, -, giou, gmode⟩ := placeInternal_blocks n (s.revalued i active line)
  set w := (s.revalued i active line).placeInternal n
  have hmode : w.rsq.mode = s.rsq.mode := gmode.trans (by simp [hrsq])
  have hmoved := polesMoved_commandPoles a .both w
  have hcommanded := commanded_finish (s := w) (old := s) a .both (by rw [hmode]; exact hm)
    ((role_congr (gcfs.trans hcfs)).trans hp)
    (abandons_of_kept (by rw [hmoved.rsq, hmode]) (newStop_of_alc (by rw [hmoved.alc, galc, halc])))
  refine hcommanded.reads (gcfs.trans hcfs).symm hmode.symm (gps.trans hps).symm (galc.trans halc).symm (fun x => ?_) ?_ rfl
  · exact ((stowedClosed_congr gcfs giou x).trans (stowed_revalued (hx x)).2).symm
  · have hlatches : (s.revalued i active line).iou.latches = s.iou.latches := by rw [revalued_iou]
    have hquiet : (s.revalued i active line).quietCondition = s.quietCondition := by
      have hcfg : (s.revalued i active line).poleCfg = s.poleCfg := by rw [State.poleCfg, hcfs]; rfl
      simp only [State.quietCondition, State.fresh, latch_congr hlatches, hcfg]
    exact ((quietCondition_congr gcfs giou).trans hquiet).symm

/-- What a rising RAISE_BUTTON or LOWER_BUTTON leaves. -/
theorem button_leaves (hm : s.rsq.mode ≠ .config) (h : s.inputFn i ≠ .stopButton) (hx : ∀ x, s.inputFn i ≠ .stowed x)
    (a : PoleAction) (n : Notice) (hrises : s.rises i active = true)
    (hu : s.changed i active line =
      if s.rises i active = true then ((s.revalued i active line).placeInternal n).commandPoles a .both
      else s.revalued i active line) :
    let t := (s.changed i active line).finish s
    (s.rsq.queue.length < 8 → s.rsq.holding = none → n ∈ t.rsq.queue) ∧
      (Settled s → s.role ≠ .pole → Placed n (s.sense line) t) ∧ (s.role = .pole → Commanded a .both s t) := by
  rw [if_pos hrises] at hu
  dsimp only
  rw [hu]
  refine ⟨fun hroom hheld => placed_queued hroom hheld (polesMoved_commandPoles a .both _).rsq, fun hs hrole => ?_,
    fun hp => button_commands hm hp hx a n⟩
  obtain ⟨hcfs, -⟩ := revalued_frame s i active line
  obtain ⟨gcfs, -⟩ := placeInternal_blocks n (s.revalued i active line)
  rw [command_of_other_role (by rw [role_congr (gcfs.trans hcfs)]; exact hrole)]
  exact placed_settled hm hs h hx

end Delivered

end Machine
end Sys2Proof

/-!
PROOFS. STOP_BUTTON, CHANNEL_REQ, STOWED and GENERAL inputs (R5, R17, R18, R34, R77 to R81, R171; O38).
-/

namespace Sys2Proof
namespace Machine

section Functions

variable {s t u old : State} {i : Fin 16} {active : Bool} {line : LineLevel} {k : Fin 8} {x : PoleId}

/-! ### STOP_BUTTON (R34) -/

theorem deliver_stopButton (h : s.inputFn i = .stopButton) (b : Debounced) (n : Nat) :
    s.deliver i b active n = if n = 0 && s.activeStops != 0 then s.raiseOwn .deskStop none else s := by
  rw [State.deliver, h]

theorem activeStops_ne_zero (hfn : s.inputFn i = .stopButton) (ha : s.inputActive i = true) : s.activeStops ≠ 0 := by
  intro h
  have hnil := List.length_eq_zero_iff.1 h
  exact List.filter_eq_nil_iff.1 hnil i (mem_sixteen i) (by simp [hfn, ha])

theorem stopEffect_of_listed {src : Source} (h : ListedPending src .deskStop s) : s.stopEffect = true := by
  obtain ⟨e, he, hkey, -⟩ := h
  rw [hasKey_iff, AlarmEntry.key, Prod.mk.injEq] at hkey
  exact List.any_eq_true.2 ⟨e, he, by rw [hkey.2]; rfl⟩

/-- R51, R58: a listed DESK_STOP leaves no budget and no allowance at the event's end. -/
theorem CurrentEnd.stopped (h : CurrentEnd u t) (hs : t.stopEffect = true) : t.ca.budget = 0 ∧ t.ca.allowance = 0 := by
  have hbudget : t.ca.budget = 0 := by rw [h.budget, State.formBudget, if_pos hs]
  refine ⟨hbudget, ?_⟩
  rw [h.allowance, h.share, hbudget, formShare_zero]
  split
  · exact Nat.min_zero _
  · rfl

theorem changed_stopButton (hm : s.rsq.mode ≠ .config) (hfn : s.inputFn i = .stopButton) :
    let t := (s.changed i active line).finish s
    active = true → s.activeStops = 0 → HasPlace (.station s.own) .deskStop s →
      ListedPending (.station s.own) .deskStop t ∧ t.ca.budget = 0 ∧ t.ca.allowance = 0 := by
  intro t hactive hstops hplace
  obtain ⟨hcfs, -, hrsq, -, -, halc, -, -⟩ := revalued_frame s i active line
  have hfn' := (inputFn_revalued s i i active line).trans hfn
  have hu := changed_eq (i := i) (active := active) (line := line) hm
  rw [deliver_stopButton hfn', if_pos] at hu
  · set w := s.revalued i active line
    have hown : w.own = s.own := own_congr hcfs
    have hplace' : HasPlace (.station w.own) .deskStop w := by
      rw [hown, HasPlace, State.listed, State.alarms, halc]
      exact hplace
    have hlisted : ListedPending (.station s.own) .deskStop t := by
      change ListedPending _ _ ((s.changed i active line).finish s)
      rw [← hown, hu]
      exact listedPending_raised none s hplace'
    have hmode : (s.changed i active line).rsq.mode ≠ .config := by
      have hkept : (w.raiseOwn .deskStop none).rsq.mode = s.rsq.mode := by simp [hrsq]
      rw [hu, hkept]
      exact hm
    exact ⟨hlisted, (currentEnd_finish s hmode).stopped (stopEffect_of_listed hlisted)⟩
  · have hstill : (s.revalued i active line).activeStops ≠ 0 :=
      activeStops_ne_zero hfn' (by rw [inputActive_revalued, if_pos rfl, hactive])
    simp [hstops, hstill]

/-! ### CHANNEL_REQ (R77 to R81) -/

theorem deliver_channelReq (h : s.inputFn i = .channelReq k) (b : Debounced) (n : Nat) :
    s.deliver i b active n = s.channelInput k (b == .inactive && active) := by
  rw [State.deliver, h]

theorem inputRequest_channel (s : State) (k : Fin 8) (f : Channel → Channel) :
    (s.inputRequest k f).channel k = f (s.channel k) := by
  have hon : (s.onChannel k f).channel k = f (s.channel k) := by simp [State.onChannel]
  unfold State.inputRequest
  dsimp only
  split <;> exact hon

/-- R79: a request flag that an input changes sets CHANNELS. -/
theorem inputRequest_tells {f : Channel → Channel} (h : (f (s.channel k)).requested ≠ (s.channel k).requested) :
    (s.inputRequest k f).sl.summary.channels = true := by
  have hon : (s.onChannel k f).channel k = f (s.channel k) := by simp [State.onChannel]
  unfold State.inputRequest
  dsimp only
  rw [if_neg (by rw [hon]; exact h), setTopics_sl]
  exact Bool.or_true _

theorem TopicsGrow.channels (h : TopicsGrow s t) (hs : s.sl.summary.channels = true) : t.sl.summary.channels = true := by
  rw [← h.2, Topics.union, hs, Bool.true_or]

/-- A channel request that an input makes or ends, for a channel it leaves other than ON. -/
theorem inputRequest_finish {f : Channel → Channel} (hm : s.rsq.mode ≠ .config)
    (hflag : (f (s.channel k)).requested ≠ (s.channel k).requested) (hon : (f (s.channel k)).state ≠ .on) :
    ((s.inputRequest k f).finish old).channel k = f (s.channel k) ∧
      ((s.inputRequest k f).finish old).sl.summary.channels = true := by
  have hchannel := inputRequest_channel s k f
  have hmode : (s.inputRequest k f).rsq.mode ≠ .config := by
    have hkept : (s.inputRequest k f).rsq = s.rsq := by simp
    rw [hkept]
    exact hm
  have hsheds := (currentEnd_finish old hmode).sheds k
  rw [hchannel] at hsheds
  exact ⟨hsheds.eq_of_not_on hon, (topicsGrow_finish _ old).channels (inputRequest_tells hflag)⟩

theorem request_off {c : Channel} (hstate : c.state = .off) (hflag : c.requested = false) :
    c.request = { c with requested := true, state := .waiting } := by
  simp [Channel.request, hstate, hflag]

theorem release_requested {c : Channel} (hflag : c.requested = true) :
    c.release.requested = false ∧ c.release.state ≠ .on := by
  rw [Channel.release, if_pos hflag]
  split
  · exact ⟨rfl, by simp⟩
  next h =>
    simp only [Bool.or_eq_true, decide_eq_true_eq, not_or] at h
    exact ⟨rfl, h.1.2⟩

theorem channelReqActive_iff : s.channelReqActive k = true ↔ ∃ j, s.inputFn j = .channelReq k ∧ s.inputActive j = true := by
  rw [State.channelReqActive, List.any_eq_true]
  simp [mem_sixteen]

theorem changed_channelReq (hm : s.rsq.mode ≠ .config) (hfn : s.inputFn i = .channelReq k) :
    let t := (s.changed i active line).finish s
    let rising := (cell s.iou.inputs i).value = .inactive ∧ active = true
    ((s.channelCfg k).source = .inputEdge → rising → (s.channel k).state = .off → (s.channel k).requested = false →
      t.channel k = { s.channel k with requested := true, state := .waiting } ∧ t.sl.summary.channels = true) ∧
    ((s.channelCfg k).source = .inputLevel → active = true → (s.channel k).state = .off →
      (s.channel k).requested = false →
      t.channel k = { s.channel k with requested := true, state := .waiting } ∧ t.sl.summary.channels = true) ∧
    ((s.channelCfg k).source = .inputLevel → active = false → (s.channel k).requested = true →
      (∀ j, j ≠ i → s.inputFn j = .channelReq k → s.inputActive j = false) →
      (t.channel k).requested = false ∧ (t.channel k).state ≠ .on ∧ t.sl.summary.channels = true) := by
  obtain ⟨hcfs, -, hrsq, -, -, -, -, hll⟩ := revalued_frame s i active line
  have hfn' := (inputFn_revalued s i i active line).trans hfn
  have hu := changed_eq (i := i) (active := active) (line := line) hm
  rw [deliver_channelReq hfn', State.channelInput] at hu
  have hactive : (s.revalued i active line).inputActive i = active := by rw [inputActive_revalued, if_pos rfl]
  have hothers (j : Fin 16) (hj : j ≠ i) : (s.revalued i active line).inputActive j = s.inputActive j := by
    rw [inputActive_revalued, if_neg hj]
  have hfns (j : Fin 16) := inputFn_revalued s i j active line
  set w := s.revalued i active line
  have hsource : (w.channelCfg k).source = (s.channelCfg k).source := by rw [channelCfg_congr hcfs]
  have hchannel : w.channel k = s.channel k := channel_congr hll k
  have hmode : w.rsq.mode ≠ .config := by simpa [hrsq] using hm
  have hrequested (hoff : (s.channel k).state = .off) (hflag : (s.channel k).requested = false) :
      ((w.inputRequest k Channel.request).finish s).channel k = { s.channel k with requested := true, state := .waiting } ∧
        ((w.inputRequest k Channel.request).finish s).sl.summary.channels = true := by
    have hrequest := request_off hoff hflag
    rw [← hchannel] at hrequest hflag ⊢
    rw [← hrequest]
    exact inputRequest_finish hmode (by rw [hrequest, hflag]; simp) (by rw [hrequest]; simp)
  refine ⟨fun hedge hrise hoff hflag => ?_, fun hlevel hon hoff hflag => ?_, fun hlevel hend hflag hlast => ?_⟩
  · rw [hsource, hedge] at hu
    dsimp only at hu
    rw [if_pos (show ((cell s.iou.inputs i).value == .inactive && active) = true from rises_iff.2 hrise)] at hu
    rw [hu]
    exact hrequested hoff hflag
  · rw [hsource, hlevel] at hu
    dsimp only at hu
    rw [if_pos (channelReqActive_iff.2 ⟨i, hfn', hactive.trans hon⟩)] at hu
    rw [hu]
    exact hrequested hoff hflag
  · rw [hsource, hlevel] at hu
    dsimp only at hu
    rw [if_neg fun h => ?_] at hu
    · obtain ⟨hnot, hoff⟩ := release_requested hflag
      rw [← hchannel] at hnot hoff hflag
      obtain ⟨hend', htells⟩ := inputRequest_finish (old := s) hmode (f := Channel.release) (by rw [hnot, hflag]; simp) hoff
      rw [hu, hend']
      exact ⟨hnot, hoff, htells⟩
    · obtain ⟨j, hj, hon⟩ := channelReqActive_iff.1 h
      by_cases hji : j = i
      · subst hji
        rw [hactive, hend] at hon
        cases hon
      · rw [hothers j hji, hlast j hji ((hfns j).symm.trans hj)] at hon
        cases hon

/-! ### GENERAL (R171) -/

theorem changed_general (hm : s.rsq.mode ≠ .config) (hfn : s.inputFn i = .general) :
    let t := (s.changed i active line).finish s
    SameRounds (s.sense line).rsq t ∧
      (Settled s → t.rsq = (s.sense line).rsq ∧ t.ps = s.ps ∧ t.alc = s.alc ∧ t.ll = s.ll ∧ t.ca = s.ca) := by
  have hu : s.changed i active line = s.revalued i active line := by
    rw [changed_eq hm, State.deliver, (inputFn_revalued s i i active line).trans hfn]
  obtain ⟨-, hli, hrsq, hpt, hps, halc, hca, hll⟩ := revalued_frame s i active line
  dsimp only
  rw [hu]
  refine ⟨?_, fun hs => ?_⟩
  · have hkept := roundsKept_finish (s.revalued i active line) s
    rwa [RoundsKept, hrsq] at hkept
  · obtain ⟨h1, h2, h3, h4, h5⟩ := revalued_idle hm hs
      (reviewedAlike_revalued (active := active) (line := line) (by rw [hfn]; decide) (by rw [hfn]; simp)) hli hpt hca hll
    exact ⟨h1.trans hrsq, h2.trans hps, h3.trans halc, h5.trans hll, h4.trans hca⟩

/-! ### STOWED (R5, R17, R18) -/

theorem deliver_stowed (h : s.inputFn i = .stowed x) (b : Debounced) (n : Nat) :
    s.deliver i b active n =
      if s.role = .pole && s.ps.supervising && s.stowedInput x == some i then s.stowedChange x b (levelOf active) else s := by
  rw [State.deliver, h]

theorem stowedChange_stands (h : (s.pole x).state = .onWire ∨ (s.pole x).state = .suspect ∨ (s.pole x).state = .lowerWait ∨
    (s.pole x).state = .raising) (b : Debounced) : s.stowedChange x b (levelOf active) = s := by
  unfold State.stowedChange
  rcases h with h | h | h | h <;> cases active <;> simp [levelOf, h]

theorem stowedChange_closes (h : (s.pole x).state = .lowering ∨ (s.pole x).state = .stuck ∨
    (s.pole x).state = .initial ∧ (s.pole x).qualifying = true) (b : Debounced) :
    s.stowedChange x b (levelOf true) = s.withPole x (s.pole x).hooked := by
  have htakes : (decide ((s.pole x).state = .lowering) || decide ((s.pole x).state = .stuck) ||
      ((s.pole x).state == .initial && (s.pole x).qualifying)) = true := by
    rcases h with h | h | ⟨h, hq⟩
    · simp [h]
    · simp [h]
    · simp [h, hq]
  exact if_pos htakes

theorem stowedChange_opens (h : (s.pole x).state = .stowed) : s.stowedChange x .active (levelOf false) = s.lower x :=
  if_pos (by simp [h])

theorem changed_stowed (hm : s.rsq.mode ≠ .config) (hfn : s.inputFn i = .stowed x) (hdue : ChangeDue i active s) :
    let t := (s.changed i active line).finish s
    SameRounds (s.sense line).rsq t ∧
      (s.role = .pole → s.ps.supervising = true → s.stowedInput x = some i →
        (active = true →
          (s.pole x).state = .lowering ∨ (s.pole x).state = .stuck ∨
            (s.pole x).state = .initial ∧ (s.pole x).qualifying = true →
          t.pole x =
            { s.pole x with
              state := .stowed, stateTimer := none, qualifyTimer := none, confirmTimer := none, quietTimer := none
              qualified := false, qualifying := false }) ∧
        ((cell s.iou.inputs i).value = .active → (s.pole x).state = .stowed →
          t.pole x =
            { s.pole x with
              state := .lowering, stateTimer := some 0, qualifyTimer := none, confirmTimer := none
              quietTimer := none, qualified := false, qualifying := false }) ∧
        ((s.pole x).state = .onWire ∨ (s.pole x).state = .suspect ∨ (s.pole x).state = .lowerWait ∨
          (s.pole x).state = .raising ∧ (s.pole x).qualified = false → t.pole x = s.pole x)) := by
  obtain ⟨hcfs, -, hrsq, -, hps, halc, -, -⟩ := revalued_frame s i active line
  have hu := changed_eq (i := i) (active := active) (line := line) hm
  rw [deliver_stowed ((inputFn_revalued s i i active line).trans hfn), stowedInput_revalued] at hu
  have hclosed (hinput : s.stowedInput x = some i) : (s.revalued i active line).stowedClosed x = active := by
    rw [State.stowedClosed, stowedInput_revalued, hinput]
    dsimp only
    rw [inputActive_revalued, if_pos rfl]
  set w := s.revalued i active line
  have hpole : w.pole x = s.pole x := pole_congr hps x
  refine ⟨?_, fun hp hs hinput => ?_⟩
  · have hsame : (s.changed i active line).rsq = (s.sense line).rsq := by
      rw [hu]
      split
      · simp [hrsq]
      · exact hrsq
    have hkept := roundsKept_finish (s.changed i active line) s
    rwa [RoundsKept, hsame] at hkept
  · rw [if_pos (by simp [role_congr hcfs, hp, hps, hs, hinput])] at hu
    refine ⟨fun hactive hstate => ?_, fun hvalue hstate => ?_, fun hstate => ?_⟩
    · have hhooked : (s.changed i active line).pole x = (s.pole x).lowered true := by
        rw [hu, hactive, stowedChange_closes (by rw [hpole]; exact hstate), withPole_pole_self, hpole]
        rfl
      exact finish_pole_lowered s hhooked
    · have hopens : active = false := by
        obtain ⟨-, -, -, hchanges⟩ := hdue
        cases active
        · rfl
        · exact absurd hvalue hchanges
      have hlowered : (s.changed i active line).pole x = (s.pole x).lowered false := by
        rw [hu, hvalue, hopens, stowedChange_opens (by rw [hpole]; exact hstate), lower_pole, hclosed hinput, hopens, hpole]
      exact finish_pole_lowered s hlowered
    · have hraising : (s.pole x).state = .onWire ∨ (s.pole x).state = .suspect ∨ (s.pole x).state = .lowerWait ∨
          (s.pole x).state = .raising := hstate.imp_right (.imp_right (.imp_right And.left))
      rw [stowedChange_stands (by rw [hpole]; exact hraising)] at hu
      have hstands : (s.changed i active line).pole x = s.pole x := by rw [hu, hpole]
      rcases hstate with h | h | h | ⟨h, hq⟩
      · exact (finish_pole_at_rest s x (by rw [hstands, h]; decide) (by rw [hstands, h]; decide)).trans hstands
      · exact (finish_pole_at_rest s x (by rw [hstands, h]; decide) (by rw [hstands, h]; decide)).trans hstands
      · exact (finish_pole_at_rest s x (by rw [hstands, h]; decide) (by rw [hstands, h]; decide)).trans hstands
      · have hmode : (s.changed i active line).rsq.mode = s.rsq.mode := by simp [hu, hrsq]
        rw [finish_pole (by rw [hmode]; exact hm) (by rw [hu, role_congr hcfs, hp]) (by rw [hu, hps, hs])]
        exact endPole_of_rest (abandons_of_kept hmode (newStop_of_alc (by rw [hu, halc]))) hstands (by rw [h]; decide)
          (.inr hq)

/-! ### RAISE_BUTTON and LOWER_BUTTON (R6, R110, R111) -/

/-- What the change of a button leaves that commands both poles. -/
theorem changed_commands (hm : s.rsq.mode ≠ .config) (h : s.inputFn i ≠ .stopButton) (hx : ∀ x, s.inputFn i ≠ .stowed x)
    (a : PoleAction)
    (hu : s.changed i active line =
      if s.rises i active = true then ((s.revalued i active line).placeInternal (.command a .both)).commandPoles a .both
      else s.revalued i active line) :
    let t := (s.changed i active line).finish s
    let rising := (cell s.iou.inputs i).value = .inactive ∧ active = true
    (rising → s.rsq.queue.length < 8 → s.rsq.holding = none → .command a .both ∈ t.rsq.queue) ∧
      (rising → Settled s → s.role ≠ .pole → Placed (.command a .both) (s.sense line) t) ∧
      (rising → s.role = .pole → Commanded a .both s t) := by
  have hleaves (hrise : (cell s.iou.inputs i).value = .inactive ∧ active = true) :=
    button_leaves hm h hx a (.command a .both) (rises_iff.2 hrise) hu
  exact ⟨fun hrise => (hleaves hrise).1, fun hrise => (hleaves hrise).2.1, fun hrise => (hleaves hrise).2.2⟩

theorem changed_raiseButton (hm : s.rsq.mode ≠ .config) (hfn : s.inputFn i = .raiseButton) :
    s.changed i active line =
      if s.rises i active = true then
        ((s.revalued i active line).placeInternal (.command .raise .both)).commandPoles .raise .both
      else s.revalued i active line := by
  rw [changed_eq hm, deliver_raiseButton ((inputFn_revalued s i i active line).trans hfn)]
  rfl

theorem changed_lowerButton (hm : s.rsq.mode ≠ .config) (hfn : s.inputFn i = .lowerButton) :
    s.changed i active line =
      if s.rises i active = true then
        ((s.revalued i active line).placeInternal (.command .lower .both)).commandPoles .lower .both
      else s.revalued i active line := by
  rw [changed_eq hm, deliver_lowerButton ((inputFn_revalued s i i active line).trans hfn)]
  rfl

end Functions

/-- Settles O38: the change is delivered by the function of its input, and the event's end keeps what its owner did. -/
theorem inputsDeliver : Obligations.InputsDeliver := by
  intro s i active line hdue hm
  refine ⟨_, exec_of_body (body_debouncedChange hdue), ?_⟩
  dsimp only
  cases hfn : s.inputFn i with
  | general => exact changed_general hm hfn
  | stowed x => exact changed_stowed hm hfn hdue
  | ackButton => exact changed_ackButton hm hfn
  | stopButton => exact changed_stopButton hm hfn
  | raiseButton =>
    exact changed_commands hm (by rw [hfn]; decide) (by rw [hfn]; simp) .raise (changed_raiseButton hm hfn)
  | lowerButton =>
    exact changed_commands hm (by rw [hfn]; decide) (by rw [hfn]; simp) .lower (changed_lowerButton hm hfn)
  | channelReq k => exact changed_channelReq hm hfn

end Machine
end Sys2Proof

/-!
PROOFS. The laws of a pole's record through every operation of the Pole Supervisor (the table of 1.3; R8 to R18, R20).
-/

namespace Sys2Proof
namespace Machine

section Records

variable {s t u : State} {r q p : Pole} {x : PoleId} {b : Bool}

/-! ### A record that agrees with its state (the table of 1.3) -/

/-- The timers and the mark that the record's state allows. -/
structure Pole.Fit (r : Pole) : Prop where
  stateTimer : r.stateTimer.isSome = true → r.state = .raising ∨ r.state = .lowerWait ∨ r.state = .lowering
  lowers : r.state = .lowerWait ∨ r.state = .lowering → r.stateTimer.isSome = true
  raises : r.state = .raising → r.stateTimer.isSome = !r.qualified
  qualifyTimer : r.qualifyTimer.isSome = true → r.isQualifying = true
  confirmTimer : r.confirmTimer.isSome = true → r.state = .suspect ∨ r.state = .lowerWait
  quietTimer : r.quietTimer.isSome = true → r.state = .lowerWait
  marked : r.qualified = true → r.isQualifying = true

/-- A change of a record that keeps it fit, sets no mark and raises no pole. -/
structure Pole.Moves (r q : Pole) : Prop where
  fit : r.Fit → q.Fit
  marks : q.qualified = true → r.qualified = true
  raises : q.state = .raising → r.state = .raising

theorem Pole.Moves.refl (r : Pole) : r.Moves r := ⟨id, id, id⟩

theorem Pole.Moves.trans (h : r.Moves q) (g : q.Moves p) : r.Moves p :=
  ⟨fun hr => g.fit (h.fit hr), fun hp => h.marks (g.marks hp), fun hp => h.raises (g.raises hp)⟩

theorem isQualifying_iff : r.isQualifying = true ↔ r.state = .raising ∨ r.state = .initial ∧ r.qualifying = true := by
  simp [Pole.isQualifying]

theorem lowered_fit (b : Bool) (r : Pole) : (r.lowered b).Fit := by
  cases b <;> constructor <;> simp [Pole.lowered, Timer.started]

theorem lowered_moves (b : Bool) (r : Pole) : r.Moves (r.lowered b) :=
  ⟨fun _ => lowered_fit b r, (fun h => nomatch h), fun h => absurd h (lowered_state r b).1⟩

theorem told_moves (o : CommandOutcome) (r : Pole) : r.Moves (r.told o) := ⟨fun h => { h with }, id, id⟩

theorem elevation_moves (e : Nat) (r : Pole) : r.Moves { r with elevation := e } := ⟨fun h => { h with }, id, id⟩

/-- R8, R9: a pole that was held goes on the wire. -/
theorem qualifiedOn_moves (hq : r.isQualifying = true) : r.Moves r.qualifiedOn where
  fit h := by
    have hstate := isQualifying_iff.1 hq
    have hconfirm : r.confirmTimer.isSome = false := Bool.eq_false_iff.2 fun hc => by
      rcases h.confirmTimer hc with hx | hx <;> rw [hx] at hstate <;> simp at hstate
    have hquiet : r.quietTimer.isSome = false := Bool.eq_false_iff.2 fun hc => by
      rw [h.quietTimer hc] at hstate
      simp at hstate
    constructor <;> simp [Pole.qualifiedOn, hconfirm, hquiet]
  marks h := nomatch h
  raises h := nomatch h

/-- R4: a pole settled. -/
theorem settledPole_moves (u : State) (x : PoleId) (r : Pole) : r.Moves (u.settledPole x r) := by
  unfold State.settledPole
  split
  next hc =>
    simp only [Bool.and_eq_true, beq_iff_eq, Bool.not_eq_true'] at hc
    obtain ⟨⟨⟨⟨-, hinitial⟩, -⟩, -⟩, -⟩ := hc
    split
    · exact lowered_moves true r
    · split
      · refine ⟨fun h => { h with qualifyTimer := fun _ => ?_, marked := fun _ => ?_ }, id, id⟩
        · exact isQualifying_iff.2 (.inr ⟨hinitial, rfl⟩)
        · exact isQualifying_iff.2 (.inr ⟨hinitial, rfl⟩)
      · exact lowered_moves _ r
  next => exact .refl r

/-- R8, R9: a pole examined. -/
theorem examinedPole_moves (s : State) (x : PoleId) : (s.pole x).Moves (s.examinedPole x) := by
  unfold State.examinedPole
  dsimp only
  split
  · exact .refl _
  next hq =>
    rw [Bool.not_eq_true', Bool.not_eq_false] at hq
    split
    · split
      · exact .refl _
      · exact ⟨fun h => { h with qualifyTimer := fun _ => hq }, id, id⟩
    · refine ⟨fun h => ⟨fun hs => ?_, fun hs => ?_, fun hs => ?_, (fun hc => nomatch hc), h.confirmTimer, h.quietTimer,
        fun hc => nomatch hc⟩, (fun hc => nomatch hc), id⟩
      · dsimp only at hs ⊢
        split at hs
        next hm =>
          simp only [Bool.and_eq_true, beq_iff_eq] at hm
          exact .inl hm.2
        next => exact h.stateTimer hs
      · dsimp only at hs ⊢
        split
        · rfl
        · exact h.lowers hs
      · dsimp only at hs ⊢
        rw [hs]
        have hstate := h.raises hs
        cases hm : (s.pole x).qualified with
        | true => rfl
        | false =>
          rw [hm] at hstate
          exact hstate

/-- R16: the quiet timer of a pole that waits to come down. -/
theorem quiet_moves (n : Timer) (h : r.state = .lowerWait) : r.Moves { r with quietTimer := n } :=
  ⟨fun hr => { hr with quietTimer := fun _ => h }, id, id⟩

theorem confirm_moves (n : Timer) (h : r.state = .suspect ∨ r.state = .lowerWait) (k : Nat) :
    r.Moves { r with confirmTimer := n, bounces := k } :=
  ⟨fun hr => { hr with confirmTimer := fun _ => h }, id, id⟩

/-- A record on the wire or in doubt: no timer but the confirm timer, no mark. -/
theorem onWire_fit {k : Nat} {n : Timer} (hr : r.Fit) (hstate : r.state = .onWire ∨ r.state = .suspect) :
    ({ r with state := .onWire, confirmTimer := none, bounces := k } : Pole).Fit ∧
      ({ r with state := .suspect, confirmTimer := n } : Pole).Fit := by
  have htimer : r.stateTimer.isSome = false := Bool.eq_false_iff.2 fun hs => by
    rcases hr.stateTimer hs with h | h | h <;> rw [h] at hstate <;> simp at hstate
  have hheld : r.isQualifying = false := Bool.eq_false_iff.2 fun hs => by
    rcases isQualifying_iff.1 hs with h | ⟨h, -⟩ <;> rw [h] at hstate <;> simp at hstate
  have hqualify : r.qualifyTimer.isSome = false := Bool.eq_false_iff.2 fun hs => by
    rw [hr.qualifyTimer hs] at hheld
    cases hheld
  have hmark : r.qualified = false := Bool.eq_false_iff.2 fun hs => by
    rw [hr.marked hs] at hheld
    cases hheld
  have hquiet : r.quietTimer.isSome = false := Bool.eq_false_iff.2 fun hs => by
    rw [hr.quietTimer hs] at hstate
    simp at hstate
  constructor <;> constructor <;> simp [htimer, hqualify, hmark, hquiet]

theorem onWire_moves {k : Nat} {n : Timer} (hstate : r.state = .onWire ∨ r.state = .suspect) :
    r.Moves { r with state := .onWire, confirmTimer := none, bounces := k } ∧
      r.Moves { r with state := .suspect, confirmTimer := n } :=
  ⟨⟨fun hr => (onWire_fit (n := n) hr hstate).1, id, fun h => nomatch h⟩,
    ⟨fun hr => (onWire_fit (k := k) hr hstate).2, id, fun h => nomatch h⟩⟩

theorem droppedPole_moves (s : State) (x : PoleId) : (s.pole x).Moves (s.droppedPole x) :=
  ⟨fun _ => lowered_fit _ _, (fun h => nomatch h), fun h => absurd h (lowered_state _ _).1⟩

/-- R5, R8, R11, R12, R15: a pole whose elevation is judged. -/
theorem judgedPole_moves (s : State) (x : PoleId) (e : Nat) : (s.pole x).Moves (s.judgedPole x e) := by
  unfold State.judgedPole
  dsimp only
  cases hstate : (s.pole x).state with
  | initial =>
    dsimp only
    split
    · split
      · exact examinedPole_moves s x
      · exact lowered_moves _ _
    · exact .refl _
  | raising => exact examinedPole_moves s x
  | onWire =>
    dsimp only
    split
    · exact droppedPole_moves s x
    · split
      · exact .refl _
      · exact (onWire_moves (k := 0) (.inl hstate)).2
  | suspect =>
    dsimp only
    split
    · exact droppedPole_moves s x
    · split
      · exact (onWire_moves (n := none) (.inr hstate)).1
      · have hmoves := confirm_moves ((s.pole x).confirmTimer <|> Timer.started) (.inl hstate) (s.pole x).bounces
        simp only [hstate] at hmoves
        exact hmoves
  | lowerWait =>
    dsimp only
    split
    · exact droppedPole_moves s x
    · split
      · split
        · have hmoves := confirm_moves none (.inr hstate) (min 255 ((s.pole x).bounces + 1))
          simp only [hstate] at hmoves
          exact hmoves
        · exact .refl _
      · have hmoves := confirm_moves ((s.pole x).confirmTimer <|> Timer.started) (.inr hstate) (s.pole x).bounces
        simp only [hstate] at hmoves
        exact hmoves
  | stowed | lowering | stuck => exact .refl _

/-! ### Commands (R7, R14) -/

/-- R7: a pole raised, which is the one change that makes a pole RAISING. -/
theorem raised_fit {o : CommandOutcome} (hr : r.Fit) (hstate : r.state = .stowed) :
    ({ r with state := .raising, stateTimer := Timer.started, qualifyTimer := none, qualified := false, outcome := o } : Pole).Fit := by
  have hconfirm : r.confirmTimer.isSome = false := Bool.eq_false_iff.2 fun hs => by
    have h := hr.confirmTimer hs
    rw [hstate] at h
    simp at h
  have hquiet : r.quietTimer.isSome = false := Bool.eq_false_iff.2 fun hs => by
    have h := hr.quietTimer hs
    rw [hstate] at h
    cases h
  constructor <;> simp [Timer.started, hconfirm, hquiet]

/-- R16: a pole ON_WIRE or SUSPECT commanded down. -/
theorem waiting_moves (n : Timer) (o : CommandOutcome) (hstate : r.state = .onWire ∨ r.state = .suspect) :
    r.Moves { r with state := .lowerWait, stateTimer := Timer.started, outcome := o, quietTimer := n } := by
  refine ⟨fun hr => ?_, id, fun h => nomatch h⟩
  have hheld : r.isQualifying = false := Bool.eq_false_iff.2 fun hs => by
    rcases isQualifying_iff.1 hs with h | ⟨h, -⟩ <;> rw [h] at hstate <;> simp at hstate
  have hqualify : r.qualifyTimer.isSome = false := Bool.eq_false_iff.2 fun hs => by
    rw [hr.qualifyTimer hs] at hheld
    cases hheld
  have hmark : r.qualified = false := Bool.eq_false_iff.2 fun hs => by
    rw [hr.marked hs] at hheld
    cases hheld
  constructor <;> simp [Timer.started, hqualify, hmark]

theorem loweredPole_moves (s : State) (x : PoleId) : (s.pole x).Moves (s.loweredPole x) := by
  unfold State.loweredPole
  dsimp only
  split
  · exact told_moves _ _
  · cases hstate : (s.pole x).state with
    | initial | raising => exact (lowered_moves _ _).trans (told_moves _ _)
    | stowed | stuck => exact told_moves _ _
    | onWire => exact waiting_moves _ _ (.inl hstate)
    | suspect => exact waiting_moves _ _ (.inr hstate)
    | lowerWait | lowering => exact .refl _

/-- What a command may make of a pole: a move, or a raise in RUN under no stop. -/
theorem commandedPole_moves (a : PoleAction) (s : State) (x : PoleId) (hr : (s.pole x).Fit) :
    (s.commandedPole a x).Fit ∧ ((s.commandedPole a x).qualified = true → (s.pole x).qualified = true) ∧
      ((s.commandedPole a x).state = .raising →
        (s.pole x).state = .raising ∨ s.rsq.mode = .run ∧ s.stopEffect = false) := by
  have hmove {q : Pole} (h : (s.pole x).Moves q) : q.Fit ∧ (q.qualified = true → (s.pole x).qualified = true) ∧
      (q.state = .raising → (s.pole x).state = .raising ∨ s.rsq.mode = .run ∧ s.stopEffect = false) :=
    ⟨h.fit hr, h.marks, fun hq => .inl (h.raises hq)⟩
  cases a with
  | lower => exact hmove (loweredPole_moves s x)
  | raise =>
    change (s.raisedPole x).Fit ∧ _
    simp only [State.commandedPole]
    unfold State.raisedPole
    dsimp only
    split
    · exact hmove (told_moves _ _)
    · split
      · exact hmove (.refl _)
      · split
        · exact hmove (told_moves _ _)
        next hstate =>
          simp only [Bool.or_eq_true, decide_eq_true_eq, not_or, not_not] at hstate
          split
          · exact hmove (told_moves _ _)
          next hstop =>
            simp only [Bool.or_eq_true, not_or, Bool.not_eq_true] at hstop
            exact ⟨raised_fit hr hstate.2, (fun h => nomatch h), fun _ => .inr ⟨hstate.1, hstop.2⟩⟩

end Records

end Machine
end Sys2Proof

/-!
PROOFS. What every event leaves of the poles before its end: records that agree with their states, marks that exclude each
other, no new raise but one commanded in RUN under no stop, and a station without supervision at rest (R1, R2, R8 to R18).
-/

namespace Sys2Proof
namespace Machine

section Supervisor

variable {old s t u v : State} {x : PoleId} {free : Prop} {r : Pole}

/-- The Pole Supervisor within an event that began in `old`; `free` is what a raise newly made in it has met. -/
structure PolesFit (old : State) (free : Prop) (s : State) : Prop where
  records : ∀ x, (s.pole x).Fit
  marks : ∀ x, (s.pole x).qualified = true → (s.pole x.other).qualified = false
  raises : ∀ x, (s.pole x).state = .raising → (old.pole x).state = .raising ∨ free
  gap : s.ps.gapTimer.isSome = true → s.ps.gapFlag = true
  others : s.role ≠ .pole → s.ps = {}
  rest : s.ps.supervising = false →
    s.ps =
      { band := s.ps.band, lineVoltage := s.ps.lineVoltage, poleP := { outcome := s.ps.poleP.outcome }
        poleN := { outcome := s.ps.poleN.outcome } }
  since : old.ps.supervising = true → s.ps.supervising = true

theorem PolesFit.same (h : PolesFit old free s) (hps : t.ps = s.ps) (hcfs : t.cfs = s.cfs) : PolesFit old free t := by
  have hpole (x : PoleId) : t.pole x = s.pole x := pole_congr hps x
  have hrole : t.role = s.role := role_congr hcfs
  refine ⟨fun x => ?_, fun x => ?_, fun x => ?_, ?_, ?_, ?_, ?_⟩
  · rw [hpole]; exact h.records x
  · rw [hpole, hpole]; exact h.marks x
  · rw [hpole]; exact h.raises x
  · rw [hps]; exact h.gap
  · rw [hrole, hps]; exact h.others
  · rw [hps]; exact h.rest
  · rw [hps]; exact h.since

theorem PolesFit.mono {free' : Prop} (h : PolesFit old free s) (hf : free → free') : PolesFit old free' s :=
  { h with raises := fun x hx => (h.raises x hx).imp_right hf }

theorem PolesFit.role (h : PolesFit old free s) (hs : s.ps.supervising = true) : s.role = .pole := by
  by_contra hr
  rw [h.others hr] at hs
  cases hs

/-- R1, R2: without supervision a pole holds its values after reset but for the outcome. -/
theorem PolesFit.idle (h : PolesFit old free s) (hs : s.ps.supervising = false) (x : PoleId) :
    s.pole x = { outcome := (s.pole x).outcome } := by
  have hrest := h.rest hs
  cases x
  · exact congrArg PoleSupervisor.poleP hrest
  · exact congrArg PoleSupervisor.poleN hrest

/-- A pole with something to do is under supervision. -/
theorem PolesFit.supervising_of (h : PolesFit old free s)
    (hx : (s.pole x).state ≠ .initial ∨ (s.pole x).qualifying = true) : s.ps.supervising = true := by
  by_contra hs
  have hidle := h.idle (Bool.eq_false_iff.2 hs) x
  rcases hx with hx | hx <;> rw [hidle] at hx
  · exact hx rfl
  · cases hx

theorem PolesFit.not_held (h : PolesFit old free s) (hs : s.ps.supervising = false) (x : PoleId) :
    (s.pole x).isQualifying = false := by
  rw [h.idle hs x]
  rfl

/-- A move of one pole under supervision. -/
theorem PolesFit.moved (h : PolesFit old free s) (hs : s.ps.supervising = true) (hr : (s.pole x).Moves r)
    (hps : t.ps = (s.withPole x r).ps) (hcfs : t.cfs = s.cfs) : PolesFit old free t := by
  have hpole (y : PoleId) : t.pole y = if y = x then r else s.pole y := (pole_congr hps y).trans (withPole_pole s x y r)
  have hsup : t.ps.supervising = true := by rw [hps, withPole_supervising, hs]
  have hmark (y : PoleId) (hy : (t.pole y).qualified = true) : (s.pole y).qualified = true := by
    rw [hpole] at hy
    split at hy
    next hxy =>
      rw [hxy]
      exact hr.marks hy
    next => exact hy
  refine ⟨fun y => ?_, fun y hy => ?_, fun y hy => ?_, fun hg => ?_, fun hrole => ?_, fun hnot => ?_, fun _ => hsup⟩
  · rw [hpole]
    split
    · exact hr.fit (h.records x)
    · exact h.records y
  · have hother := h.marks y (hmark y hy)
    exact Bool.eq_false_iff.2 fun ho => by
      rw [hmark _ ho] at hother
      cases hother
  · refine h.raises y ?_
    rw [hpole] at hy
    split at hy
    next hxy =>
      rw [hxy]
      exact hr.raises hy
    next => exact hy
  · have hgap : t.ps.gapTimer = s.ps.gapTimer ∧ t.ps.gapFlag = s.ps.gapFlag := by
      rw [hps]
      cases x <;> exact ⟨rfl, rfl⟩
    rw [hgap.2]
    rw [hgap.1] at hg
    exact h.gap hg
  · exact absurd ((role_congr hcfs).trans (h.role hs)) hrole
  · rw [hsup] at hnot
    cases hnot

theorem PolesFit.withPole (h : PolesFit old free s) (hs : s.ps.supervising = true) (hr : (s.pole x).Moves r) :
    PolesFit old free (s.withPole x r) := h.moved hs hr rfl (by simp)

theorem polesFit_lower (h : PolesFit old free s) (hs : s.ps.supervising = true) (x : PoleId) : PolesFit old free (s.lower x) :=
  h.withPole hs (lowered_moves _ _)

theorem polesFit_settle (h : PolesFit old free s) (x : PoleId) : PolesFit old free (s.settle x) := by
  cases hs : s.ps.supervising with
  | true =>
    rw [settle_eq]
    exact h.withPole hs (settledPole_moves s x _)
  | false =>
    unfold State.settle
    simp only [hs, Bool.false_and, Bool.false_eq_true, if_false]
    exact h

theorem polesFit_examineQualify (h : PolesFit old free s) (x : PoleId) : PolesFit old free (s.examineQualify x) := by
  cases hs : s.ps.supervising with
  | true =>
    rw [examineQualify_eq]
    exact h.withPole hs (examinedPole_moves s x)
  | false =>
    unfold State.examineQualify
    simp only [h.not_held hs x, Bool.not_false, if_true]
    exact h

theorem polesFit_examineQuiet (h : PolesFit old free s) (x : PoleId) : PolesFit old free (s.examineQuiet x) := by
  unfold State.examineQuiet
  dsimp only
  split
  next hx =>
    have hs := h.supervising_of (x := x) (.inl (by rw [hx]; decide))
    split
    · split
      · exact h
      · exact h.withPole hs (quiet_moves _ hx)
    · exact h.withPole hs (quiet_moves _ hx)
  next => exact h

theorem polesFit_drop (h : PolesFit old free s) (hs : s.ps.supervising = true) (x : PoleId) : PolesFit old free (s.drop x) := by
  have hcounted : (s.pole x).Moves { s.pole x with drops := satInc 255 (s.pole x).drops } := ⟨fun hr => { hr with }, id, id⟩
  have hsup : (s.withPole x { s.pole x with drops := satInc 255 (s.pole x).drops }).ps.supervising = true :=
    (withPole_supervising _ _ _).trans hs
  exact (polesFit_lower (h.withPole hs hcounted) hsup x).same (by simp [State.drop]) (by simp [State.drop])

theorem polesFit_judgeElevation (h : PolesFit old free s) (hs : s.ps.supervising = true) (x : PoleId) (e : Nat) :
    PolesFit old free (s.judgeElevation x e) := by
  have hexamined := polesFit_examineQualify h x
  have hlower := polesFit_lower h hs x
  have hdrop := polesFit_drop h hs x
  have hconfirm (n : Timer) (hstate : (s.pole x).state = .suspect ∨ (s.pole x).state = .lowerWait) (k : Nat) :
      PolesFit old free (s.withPole x { s.pole x with confirmTimer := n, bounces := k }) :=
    h.withPole hs (confirm_moves n hstate k)
  unfold State.judgeElevation
  dsimp only
  split
  · split
    · split
      · exact hexamined
      · exact hlower
    · exact h
  · exact h
  · exact hexamined
  next hstate =>
    split
    · exact hdrop
    · split
      · exact h
      · exact h.withPole hs (onWire_moves (k := 0) (.inl hstate)).2
  next hstate =>
    split
    · exact hdrop
    · split
      · exact h.withPole hs (onWire_moves (n := none) (.inr hstate)).1
      · split
        · exact h
        · exact hconfirm _ (.inl hstate) (s.pole x).bounces
  next hstate =>
    split
    · exact hdrop
    · split
      · split
        · exact hconfirm none (.inr hstate) _
        · exact h
      · split
        · exact h
        · exact hconfirm _ (.inr hstate) (s.pole x).bounces
  · exact h
  · exact h

theorem polesFit_elevArrival (h : PolesFit old free s) (hs : s.ps.supervising = true) (x : PoleId) (e : Nat) :
    PolesFit old free (s.elevArrival x e) := by
  have hsettled : (s.settle x).ps.supervising = true := by rw [settle_eq, withPole_supervising, hs]
  have hjudged := polesFit_judgeElevation (polesFit_settle h x) hsettled x e
  have hsup : (s.elevArrival x e).ps.supervising = true := (elevArrival_supervising s x e).trans hs
  unfold State.elevArrival at hsup ⊢
  dsimp only at hsup ⊢
  rw [withPole_supervising] at hsup
  exact hjudged.withPole hsup (elevation_moves e _)

theorem polesFit_lineArrival (h : PolesFit old free s) (hrole : s.role = .pole) (v : Nat) :
    PolesFit old free (s.lineArrival v) := by
  have hline : PolesFit old free (s.withPs { s.ps with lineVoltage := v, band := nextBand s.poleCfg s.ps.band v }) := by
    have hpole (x : PoleId) : (s.withPs { s.ps with lineVoltage := v, band := nextBand s.poleCfg s.ps.band v }).pole x = s.pole x := by
      cases x <;> rfl
    refine ⟨fun x => ?_, fun x => ?_, fun x => ?_, h.gap, fun hne => absurd hrole hne, fun hs => ?_, h.since⟩
    · rw [hpole]; exact h.records x
    · rw [hpole, hpole]; exact h.marks x
    · rw [hpole]; exact h.raises x
    · have hrest := h.rest hs
      change ({ s.ps with lineVoltage := v, band := nextBand s.poleCfg s.ps.band v } : PoleSupervisor) = _
      rw [hrest]
      rfl
  unfold State.lineArrival
  dsimp only
  split
  · exact hline
  · exact polesFit_examineQualify (polesFit_examineQualify hline .p) .n

theorem polesFit_poleArrival (h : PolesFit old free s) (c : Fin 8) : PolesFit old free (s.poleArrival c) := by
  unfold State.poleArrival
  dsimp only
  split
  · exact h
  next hjoined =>
    have hrole : s.role = .pole := by
      simp only [Bool.or_eq_true, decide_eq_true_eq, not_or, not_not] at hjoined
      exact hjoined.2
    split
    · exact polesFit_lineArrival h hrole _
    · split
      next hs => exact polesFit_elevArrival h hs _ _
      · exact h
    · split
      next hs => exact polesFit_elevArrival h hs _ _
      · exact h
    · split
      · exact polesFit_examineQuiet (polesFit_examineQuiet h _) _
      · exact h
    · split
      · exact polesFit_examineQuiet (polesFit_examineQuiet h _) _
      · exact h
    · exact h

theorem polesFit_poleStale (h : PolesFit old free s) (hs : s.ps.supervising = true) (c : Fin 8) :
    PolesFit old free (s.poleStale c) := by
  by_cases hc : ∃ y, c = elevChannel y
  · obtain ⟨y, rfl⟩ := hc
    rw [poleStale_elev]
    have hconfirm : (s.examinedPole y).Moves { s.examinedPole y with confirmTimer := none } :=
      ⟨fun hr => { hr with confirmTimer := (fun hn => nomatch hn) }, id, id⟩
    exact h.withPole hs ((examinedPole_moves s y).trans hconfirm)
  · rcases poleStale_other s fun y hy => hc ⟨y, hy⟩ with hsame | hquiet
    · rw [hsame]
      exact h
    · rw [hquiet]
      exact polesFit_examineQuiet (polesFit_examineQuiet h _) _

theorem polesFit_latchExpires (h : PolesFit old free s) (c : Fin 8) : PolesFit old free (s.latchExpires c) := by
  have hstale : PolesFit old free (s.withLatch c { s.latch c with stale := true }) := h.same (by simp) (by simp)
  unfold State.latchExpires
  dsimp only
  split
  · split
    next hwatch =>
      rw [Bool.and_eq_true] at hwatch
      exact polesFit_poleStale hstale hwatch.2 c
    · exact hstale
  · exact h

theorem polesFit_stowedChange (h : PolesFit old free s) (hs : s.ps.supervising = true) (x : PoleId) (before after : Debounced) :
    PolesFit old free (s.stowedChange x before after) := by
  unfold State.stowedChange
  dsimp only
  split
  · split
    · exact h.withPole hs (lowered_moves true _)
    · exact h
  · split
    · exact polesFit_lower h hs x
    · exact h
  · exact h

/-- R1: the station enters RUN; a POLE station is under supervision from then on. -/
theorem polesFit_enterRun (h : PolesFit old free s) : PolesFit old free s.enterRun := by
  have hpole (x : PoleId) : s.enterRun.pole x = s.pole x := by cases x <;> rfl
  have hsup : s.enterRun.ps.supervising = (s.ps.supervising || s.role == .pole) := rfl
  have hkept (hnot : s.role ≠ .pole) : s.enterRun.ps = s.ps := by
    have hrole : (s.role == Role.pole) = false := by simpa using hnot
    change ({ s.ps with supervising := s.ps.supervising || s.role == .pole } : PoleSupervisor) = s.ps
    rw [hrole, Bool.or_false]
  refine ⟨fun x => ?_, fun x => ?_, fun x => ?_, h.gap, fun hnot => (hkept hnot).trans (h.others hnot), fun hs => ?_, fun hs => ?_⟩
  · rw [hpole]; exact h.records x
  · rw [hpole, hpole]; exact h.marks x
  · rw [hpole]; exact h.raises x
  · rw [hsup, Bool.or_eq_false_iff] at hs
    rw [hkept (by simpa using hs.2)]
    exact h.rest hs.1
  · rw [hsup, h.since hs]
    rfl

/-! ### Commands (R6, R7, R14) -/

/-- R6: the poles after a command; a pole it raises is raised in RUN under no stop. -/
theorem polesFit_commandPoles (h : PolesFit old free s) (a : PoleAction) (ps : PoleSel) :
    PolesFit old (free ∨ s.rsq.mode = .run ∧ s.stopEffect = false) (s.commandPoles a ps) := by
  by_cases hp : s.role = .pole
  · obtain ⟨hmoved, hpoles⟩ := commandPoles_spec a ps hp
    have hpole (x : PoleId) : (s.commandPoles a ps).pole x = s.pole x ∨
        (s.commandPoles a ps).pole x = s.commandedPole a x := by
      rw [hpoles]
      split
      · exact .inr rfl
      · exact .inl rfl
    have hmark (x : PoleId) (hx : ((s.commandPoles a ps).pole x).qualified = true) : (s.pole x).qualified = true := by
      rcases hpole x with e | e <;> rw [e] at hx
      · exact hx
      · obtain ⟨-, hkeeps, -⟩ := commandedPole_moves a s x (h.records x)
        exact hkeeps hx
    have hrole : (s.commandPoles a ps).role = .pole := (role_congr hmoved.cfs).trans hp
    have hps := hmoved.ps
    refine ⟨fun x => ?_, fun x hx => ?_, fun x hx => ?_, ?_, fun hne => absurd hrole hne, fun hs => ?_, fun hs => ?_⟩
    · rcases hpole x with e | e <;> rw [e]
      · exact h.records x
      · exact (commandedPole_moves a s x (h.records x)).1
    · have hother := h.marks x (hmark x hx)
      exact Bool.eq_false_iff.2 fun ho => by
        rw [hmark _ ho] at hother
        cases hother
    · rcases hpole x with e | e <;> rw [e] at hx
      · exact (h.raises x hx).imp_right .inl
      · obtain ⟨-, -, hraise⟩ := commandedPole_moves a s x (h.records x)
        rcases hraise hx with hraising | hmet
        · exact (h.raises x hraising).imp_right .inl
        · exact .inr (.inr hmet)
    · rw [hps]
      exact h.gap
    · have hs' : s.ps.supervising = false := by rw [hps] at hs; exact hs
      have htold (x : PoleId) : (s.commandPoles a ps).pole x = { outcome := ((s.commandPoles a ps).pole x).outcome } := by
        rcases hpole x with e | e
        · rw [e]
          exact h.idle hs' x
        · have hidle := h.idle hs' x
          have hout : s.commandedPole a x = (s.pole x).told .ignoredState := by
            cases a <;> simp [State.commandedPole, State.raisedPole, State.loweredPole, hs']
          rw [e, hout, hidle]
          rfl
      have hrest := h.rest hs'
      have hP : (s.commandPoles a ps).ps.poleP = { outcome := (s.commandPoles a ps).ps.poleP.outcome } := htold .p
      have hN : (s.commandPoles a ps).ps.poleN = { outcome := (s.commandPoles a ps).ps.poleN.outcome } := htold .n
      generalize (s.commandPoles a ps).ps = q at hps hP hN ⊢
      rw [hps, hrest, hP, hN]
    · rw [hmoved.supervising]
      exact h.since hs
  · rw [command_of_other_role hp]
    exact h.mono .inl

/-- The poles when an event's own effect is done: a raise made in it has been met by RUN and no stop, which still stand. -/
def PolesAfter (old u : State) : Prop := PolesFit old (u.rsq.mode = .run ∧ u.stopEffect = false) u

theorem PolesFit.after (h : PolesFit old False s) : PolesAfter old s := h.mono False.elim

theorem polesAfter_commandPoles (h : PolesFit old False s) (a : PoleAction) (ps : PoleSel) :
    PolesAfter old (s.commandPoles a ps) := by
  have hmoved := polesMoved_commandPoles a ps s
  refine (polesFit_commandPoles h a ps).mono ?_
  rintro (hf | hmet)
  · exact hf.elim
  · rw [hmoved.rsq, State.stopEffect, State.alarms, hmoved.alc]
    exact hmet

theorem polesAfter_applyNotice (h : PolesFit old False s) (a : Fin 16) (n : Notice) : PolesAfter old (s.applyNotice a n) := by
  cases n with
  | command act ps => exact polesAfter_commandPoles h act ps
  | _ => exact (h.same (by simp [State.applyNotice]) (by simp [State.applyNotice])).after

theorem polesAfter_deliver (h : PolesFit old False s) (i : Fin 16) (before : Debounced) (active : Bool) (n : Nat) :
    PolesAfter old (s.deliver i before active n) := by
  unfold State.deliver
  dsimp only
  split
  · exact h.after
  · split
    next hwatch =>
      simp only [Bool.and_eq_true] at hwatch
      exact (polesFit_stowedChange h hwatch.1.2 _ _ _).after
    · exact h.after
  · split
    · exact (h.same (by simp) (by simp)).after
    · exact h.after
  · split
    · exact (h.same (by simp) (by simp)).after
    · exact h.after
  · split
    · exact polesAfter_commandPoles (h.same (by simp) (by simp)) _ _
    · exact h.after
  · split
    · exact polesAfter_commandPoles (h.same (by simp) (by simp)) _ _
    · exact h.after
  · exact (h.same (by simp) (by simp)).after

theorem polesAfter_changeInput (h : PolesFit old False s) (i : Fin 16) (active : Bool) :
    PolesAfter old (s.changeInput i active) := by
  unfold State.changeInput
  dsimp only
  split
  · exact (h.same (by simp) (by simp)).after
  · exact polesAfter_deliver (h.same (by simp) (by simp)) _ _ _ _

theorem polesAfter_sampleInput (h : PolesFit old False s) (i : Fin 16) (active : Bool) :
    PolesAfter old (s.sampleInput i active) := by
  unfold State.sampleInput State.takeSample
  dsimp only
  split
  · exact (h.same (by simp) (by simp)).after
  · split
    · exact polesAfter_changeInput (h.same (by simp) (by simp)) _ _
    · exact (h.same (by simp) (by simp)).after

theorem polesFit_followFrame (h : PolesFit old free s) (a : Fin 16) : PolesFit old free (s.followFrame a) := by
  unfold State.followFrame
  split
  · exact h
  · split
    · exact polesFit_enterRun h
    · exact (polesFit_enterRun h).same (by simp) (by simp)
  · exact h.same (by split <;> simp) (by split <;> simp)
  · exact h.same (by split <;> simp) (by split <;> simp)

/-! ### Timers (R8, R10, R12, R15 to R17) -/

theorem eq_other_of_ne {y : PoleId} (h : y ≠ x) : y = x.other := by
  revert h
  cases x <;> cases y <;> simp [PoleId.other]

/-- R8: a qualified pole takes its mark and waits for the other. -/
theorem polesFit_marked (h : PolesFit old free s) (hs : s.ps.supervising = true) (hheld : (s.pole x).isQualifying = true)
    (hother : (s.pole x.other).qualified = false) :
    PolesFit old free (s.withPole x { s.pole x with qualified := true, qualifyTimer := none, stateTimer := none }) := by
  have hpole (y : PoleId) := withPole_pole s x y { s.pole x with qualified := true, qualifyTimer := none, stateTimer := none }
  have hne : x.other ≠ x := by cases x <;> decide
  have hsup : (s.withPole x { s.pole x with qualified := true, qualifyTimer := none, stateTimer := none }).ps.supervising = true :=
    (withPole_supervising _ _ _).trans hs
  refine ⟨fun y => ?_, fun y hy => ?_, fun y hy => ?_, fun hg => ?_, fun hrole => absurd (h.role hs) hrole, fun hnot => ?_,
    fun _ => hsup⟩
  · rw [hpole]
    split
    · obtain ⟨-, -, -, -, hconfirm, hquiet, -⟩ := h.records x
      have hstate := isQualifying_iff.1 hheld
      refine ⟨(fun hn => nomatch hn), fun hn => ?_, fun _ => rfl, (fun hn => nomatch hn), hconfirm, hquiet, fun _ => hheld⟩
      rcases hn with hn | hn <;> rw [show (s.pole x).state = _ from hn] at hstate <;> simp at hstate
    · exact h.records y
  · rw [hpole] at hy ⊢
    by_cases hyx : y = x
    · subst hyx
      rw [if_neg hne]
      exact hother
    · rw [if_neg hyx, eq_other_of_ne hyx, hother] at hy
      cases hy
  · rw [hpole] at hy
    split at hy
    next hyx =>
      rw [hyx]
      exact h.raises x hy
    next => exact h.raises y hy
  · cases x <;> exact h.gap hg
  · rw [hsup] at hnot
    cases hnot

theorem polesFit_qualifyExpired (h : PolesFit old free s) (x : PoleId) : PolesFit old free (s.qualifyExpired x) := by
  unfold State.qualifyExpired
  dsimp only
  split
  next hdue =>
    rw [Bool.and_eq_true] at hdue
    have hheld := hdue.1
    have hs := h.supervising_of (x := x) ((isQualifying_iff.1 hheld).imp (fun e => by rw [e]; decide) And.right)
    have hon : PolesFit old free (s.putOnWire x) := h.withPole hs (qualifiedOn_moves hheld)
    have hsup : (s.putOnWire x).ps.supervising = true := (withPole_supervising _ _ _).trans hs
    have hother : (s.putOnWire x).pole x.other = s.pole x.other := by
      rw [State.putOnWire, withPole_pole, if_neg (by cases x <;> decide)]
    split
    · exact hon
    next hwaits =>
      rw [Bool.not_eq_true', Bool.not_eq_false] at hwaits
      split
      · exact hon.withPole hsup (qualifiedOn_moves (by rw [hother]; exact hwaits))
      next hunmarked =>
        exact polesFit_marked h hs hheld (Bool.eq_false_iff.2 hunmarked)
  next => exact h

theorem polesFit_raiseMaxExpired (h : PolesFit old free s) (x : PoleId) : PolesFit old free (s.raiseMaxExpired x) := by
  unfold State.raiseMaxExpired
  dsimp only
  split
  next hdue =>
    simp only [Bool.and_eq_true, decide_eq_true_eq] at hdue
    have hs := h.supervising_of (x := x) (.inl (by rw [hdue.1]; decide))
    exact polesFit_lower (h.withPole hs (told_moves .raiseFailed _)) ((withPole_supervising _ _ _).trans hs) x
  next => exact h

theorem polesFit_confirmExpired (h : PolesFit old free s) (x : PoleId) : PolesFit old free (s.confirmExpired x) := by
  unfold State.confirmExpired
  dsimp only
  split
  next hdue =>
    simp only [Bool.and_eq_true, Bool.or_eq_true, decide_eq_true_eq] at hdue
    exact polesFit_drop h (h.supervising_of (x := x) (.inl (by rcases hdue.1 with e | e <;> rw [e] <;> decide))) x
  next => exact h

theorem polesFit_quietExpired (h : PolesFit old free s) (x : PoleId) : PolesFit old free (s.quietExpired x) := by
  unfold State.quietExpired
  dsimp only
  split
  next hdue =>
    simp only [Bool.and_eq_true, decide_eq_true_eq] at hdue
    exact polesFit_lower h (h.supervising_of (x := x) (.inl (by rw [hdue.1]; decide))) x
  next => exact h

theorem polesFit_lowerWaitExpired (h : PolesFit old free s) (x : PoleId) : PolesFit old free (s.lowerWaitExpired x) := by
  unfold State.lowerWaitExpired
  dsimp only
  split
  next hdue =>
    simp only [Bool.and_eq_true, decide_eq_true_eq] at hdue
    exact polesFit_lower h (h.supervising_of (x := x) (.inl (by rw [hdue.1]; decide))) x
  next => exact h

/-- R17: a pole that does not come down is STUCK. -/
theorem stuck_moves (o : CommandOutcome) (hstate : r.state = .lowering) :
    r.Moves { r with state := .stuck, stateTimer := none, outcome := o } := by
  refine ⟨fun hr => ?_, id, (fun hn => nomatch hn)⟩
  have hheld : r.isQualifying = false := by simp [Pole.isQualifying, hstate]
  have hqualify : r.qualifyTimer.isSome = false := Bool.eq_false_iff.2 fun hs => by
    rw [hr.qualifyTimer hs] at hheld
    cases hheld
  have hmark : r.qualified = false := Bool.eq_false_iff.2 fun hs => by
    rw [hr.marked hs] at hheld
    cases hheld
  have hconfirm : r.confirmTimer.isSome = false := Bool.eq_false_iff.2 fun hs => by
    have h := hr.confirmTimer hs
    rw [hstate] at h
    simp at h
  have hquiet : r.quietTimer.isSome = false := Bool.eq_false_iff.2 fun hs => by
    have h := hr.quietTimer hs
    rw [hstate] at h
    cases h
  constructor <;> simp [hqualify, hmark, hconfirm, hquiet]

theorem polesFit_lowerMaxExpired (h : PolesFit old free s) (x : PoleId) : PolesFit old free (s.lowerMaxExpired x) := by
  unfold State.lowerMaxExpired
  dsimp only
  split
  next hdue =>
    simp only [Bool.and_eq_true, decide_eq_true_eq] at hdue
    exact h.withPole (h.supervising_of (x := x) (.inl (by rw [hdue.1]; decide))) (stuck_moves .lowerFailed hdue.1)
  next => exact h

/-- A timer of the line loss stopped (R22, R23). -/
theorem PolesFit.stopped (h : PolesFit old free s) (hs : s.ps.supervising = true) (hcfs : t.cfs = s.cfs) {g q : Timer}
    (hps : t.ps = { s.ps with gapTimer := g, restoreQualifyTimer := q }) (hg : g.isSome = true → s.ps.gapTimer.isSome = true) :
    PolesFit old free t := by
  have hpole (x : PoleId) : t.pole x = s.pole x := by cases x <;> simp only [State.pole, PoleSupervisor.pole, hps]
  have hsup : t.ps.supervising = true := by rw [hps]; exact hs
  refine ⟨fun x => ?_, fun x => ?_, fun x => ?_, fun ht => ?_, fun hne => ?_, fun hnot => ?_, fun _ => hsup⟩
  · rw [hpole]; exact h.records x
  · rw [hpole, hpole]; exact h.marks x
  · rw [hpole]; exact h.raises x
  · rw [hps] at ht ⊢
    exact h.gap (hg ht)
  · exact absurd ((role_congr hcfs).trans (h.role hs)) hne
  · rw [hsup] at hnot
    cases hnot

theorem supervising_of_gapTimer (h : PolesFit old free s) (hg : s.ps.gapTimer.isSome = true) : s.ps.supervising = true := by
  by_contra hs
  rw [h.rest (Bool.eq_false_iff.2 hs)] at hg
  cases hg

theorem supervising_of_restoreQualifyTimer (h : PolesFit old free s) (hq : s.ps.restoreQualifyTimer.isSome = true) :
    s.ps.supervising = true := by
  by_contra hs
  rw [h.rest (Bool.eq_false_iff.2 hs)] at hq
  cases hq

theorem polesFit_gapExpired (h : PolesFit old free s) : PolesFit old free s.gapExpired := by
  unfold State.gapExpired
  split
  next hg =>
    refine h.stopped (g := none) (q := s.ps.restoreQualifyTimer) (supervising_of_gapTimer h hg) (by simp) ?_ (fun hn => nomatch hn)
    simp
  next => exact h

theorem polesFit_restoreQualifyExpired (h : PolesFit old free s) : PolesFit old free s.restoreQualifyExpired := by
  unfold State.restoreQualifyExpired
  dsimp only
  split
  next hq =>
    have hs := supervising_of_restoreQualifyTimer h hq
    split
    · exact h.stopped (g := s.ps.gapTimer) (q := none) hs (by simp) (by simp) id
    · exact h.stopped (g := s.ps.gapTimer) (q := none) hs (by simp) (by simp) id
  next => exact h

/-! ### Every event (R1 to R24) -/

theorem body_polesAfter {c : Instr} (hb : s.body c = some u) (h : PolesFit s False s) : PolesAfter s u := by
  have hsame {t : State} (hps : t.ps = s.ps) (hcfs : t.cfs = s.cfs) : PolesFit s False t := h.same hps hcfs
  cases c with
  | debouncedChange i a l =>
    obtain ⟨-, rfl⟩ := some_of_ite hb
    exact polesAfter_changeInput (hsame (by simp) (by simp)) i a
  | inputSample i a =>
    cases hb
    exact polesAfter_sampleInput h i a
  | sampleWord w l =>
    cases hb
    exact (polesFit_poleArrival (hsame (by simp) (by simp)) _).after
  | latchStale m l =>
    cases hb
    exact (latchFold_keeps (PolesFit s False) m (fun t c ht => polesFit_latchExpires ht c) _
      (hsame (by simp) (by simp))).after
  | qualifyTimerExpiry x =>
    obtain ⟨-, rfl⟩ := some_of_ite hb
    exact (polesFit_qualifyExpired h x).after
  | raiseMaxExpiry x =>
    obtain ⟨-, rfl⟩ := some_of_ite hb
    exact (polesFit_raiseMaxExpired h x).after
  | confirmTimerExpiry x l =>
    obtain ⟨-, rfl⟩ := some_of_ite hb
    exact (polesFit_confirmExpired (hsame (by simp) (by simp)) x).after
  | quietTimerExpiry x =>
    obtain ⟨-, rfl⟩ := some_of_ite hb
    exact (polesFit_quietExpired h x).after
  | lowerWaitMaxExpiry x =>
    obtain ⟨-, rfl⟩ := some_of_ite hb
    exact (polesFit_lowerWaitExpired h x).after
  | lowerMaxExpiry x =>
    obtain ⟨-, rfl⟩ := some_of_ite hb
    exact (polesFit_lowerMaxExpired h x).after
  | gapTimerExpiry l =>
    obtain ⟨-, rfl⟩ := some_of_ite hb
    exact (polesFit_gapExpired (hsame (by simp) (by simp))).after
  | restoreQualifyExpiry =>
    obtain ⟨-, rfl⟩ := some_of_ite hb
    exact (polesFit_restoreQualifyExpired h).after
  | statusReceived a b =>
    obtain ⟨-, rfl⟩ := some_of_ite hb
    exact ((polesFit_followFrame h a).same (by simp [State.hearStatus]) (by simp [State.hearStatus])).after
  | noticeReceived a b =>
    obtain ⟨-, rfl⟩ := some_of_ite hb
    have hf : PolesFit s False (((s.followFrame a).receiverTo .idle).refreshPeer a) :=
      (polesFit_followFrame h a).same (by simp) (by simp)
    unfold State.hearNotice
    dsimp only
    split
    · exact polesAfter_applyNotice hf a _
    · exact hf.after
  | ownNoticeComplete =>
    obtain ⟨-, rfl⟩ := some_of_ite hb
    unfold State.ownNoticeSent
    dsimp only
    split
    · exact polesAfter_applyNotice (hsame (by simp) (by simp)) _ _
    · exact (hsame (by simp) (by simp)).after
  | idleCountExpiry =>
    obtain ⟨-, rfl⟩ := some_of_ite hb
    have hr : PolesFit s False (s.receiverTo .idle) := hsame (by simp) (by simp)
    exact ((polesFit_enterRun hr).same (by simp) (by simp)).after
  | receiveError chars ending =>
    simp only [State.body] at hb
    split at hb
    · cases hb
      exact (hsame (by simp) (by simp)).after
    · split at hb
      · cases hb
        exact (hsame (by simp) (by simp)).after
      · cases hb
  | breakAssert =>
    cases hb
    exact (hsame (by simp) (by simp)).after
  | unclaimedHoldExpiry | alarmReceived | duplicateAddress | ownAlarmComplete | breakDetection | breakEnd | windowComplete
  | roundEnd | demandHoldExpiry | overdrawTimerExpiry | restoreTimerExpiry | peerStale | peerLost | muteTimerExpiry
  | lineActivityEnd | ownSlotStart | skipInterval | ownStatusComplete | echoMismatch | abortJudgedError | breakRelease
  | claimPositionStart | stuckLine =>
    obtain ⟨-, rfl⟩ := some_of_ite hb
    exact (hsame (by simp) (by simp)).after
  | _ => cases hb

end Supervisor

end Machine
end Sys2Proof

/-!
PROOFS. A station without supervision lists no own entry of the Pole Supervisor (R32, PolesAtRest).
-/

namespace Sys2Proof
namespace Machine

section Keys

variable {old s t u : State} {o : Fin 16} {free : Prop}

/-! ### The keys an event may list (R29, R35 to R37) -/

/-- A cause the Pole Supervisor raises. -/
def PoleCause (c : Cause) : Prop := c = .poleDropP ∨ c = .poleDropN ∨ c = .lineLoss ∨ c = .sensorLoss

/-- No key of the station at `o` with a cause of the Pole Supervisor. -/
def KeyClear (o : Fin 16) (e : AlarmEntry) : Prop := e.source = .station o → ¬PoleCause e.cause

/-- No entry of the station at `o` with a cause of the Pole Supervisor. -/
def KeysClear (o : Fin 16) (s : State) : Prop := ∀ e ∈ s.alarms, KeyClear o e

theorem KeysClear.of_alarms (h : KeysClear o s) (ha : t.alarms = s.alarms) : KeysClear o t := by
  unfold KeysClear
  rw [ha]
  exact h

theorem KeysClear.of_alc (h : KeysClear o s) (ha : t.alc = s.alc) : KeysClear o t := h.of_alarms (alarms_congr ha)

theorem keysClear_iff (s : State) : KeysClear s.own s ↔ ∀ c, PoleCause c → s.ownListed c = false := by
  constructor
  · intro h c hc
    refine List.any_eq_false.2 fun e he hkey => ?_
    rw [hasKey_iff, AlarmEntry.key, Prod.mk.injEq] at hkey
    exact h e he hkey.1 (by rw [hkey.2]; exact hc)
  · intro h e he hsrc hc
    exact List.any_eq_false.1 (h e.cause hc) e he ((hasKey_iff _ _ _).2 (Prod.ext hsrc rfl))

theorem keys_map {l : List AlarmEntry} {f : AlarmEntry → AlarmEntry} (hl : ∀ e ∈ l, KeyClear o e)
    (hf : ∀ e, (f e).source = e.source ∧ (f e).cause = e.cause) : ∀ e ∈ l.map f, KeyClear o e := by
  intro e he
  obtain ⟨e', he', rfl⟩ := List.mem_map.1 he
  unfold KeyClear
  rw [(hf e').1, (hf e').2]
  exact hl e' he'

theorem keys_update (h : KeysClear o s) (src : Source) (c : Cause) {f : AlarmEntry → AlarmEntry}
    (hf : ∀ e, (f e).source = e.source ∧ (f e).cause = e.cause) : KeysClear o (s.withAlarms (updateEntry src c f s.alarms)) :=
  keys_map h fun e => by
    split
    · exact hf e
    · exact ⟨rfl, rfl⟩

theorem keys_filter (h : KeysClear o s) (p : AlarmEntry → Bool) : KeysClear o (s.withAlarms (s.alarms.filter p)) :=
  fun e he => h e (List.mem_of_mem_filter he)

theorem keys_append {l : List AlarmEntry} {e : AlarmEntry} (hl : ∀ x ∈ l, KeyClear o x) (he : KeyClear o e) :
    ∀ x ∈ l ++ [e], KeyClear o x := by
  intro x hx
  rcases List.mem_append.1 hx with hx | hx
  · exact hl x hx
  · exact List.mem_singleton.1 hx ▸ he

theorem acknowledge_key (e : AlarmEntry) : e.acknowledge.source = e.source ∧ e.acknowledge.cause = e.cause := by
  unfold AlarmEntry.acknowledge
  split <;> exact ⟨rfl, rfl⟩

theorem keysClear_placeEntry (h : KeysClear o s) {e : AlarmEntry} (he : KeyClear o e) : KeysClear o (s.placeEntry e) := by
  unfold State.placeEntry
  split
  · exact keys_append h he
  · exact h

theorem keyClear_other {a : Fin 16} (ha : a ≠ o) (c : Cause) (st : AlarmState) (by' : LearnedBy) (d : Option SensorDetail) :
    KeyClear o (newEntry (.station a) c st by' d) := fun hsrc => absurd (Source.station.inj hsrc) ha

theorem keysClear_raiseStop (h : KeysClear o s) (d : Option SensorDetail) : KeysClear o (s.raiseOwn .deskStop d) := by
  have hnew : KeyClear o (newEntry (.station s.own) .deskStop .pending .localRaise d) := fun _ hc => by
    rcases hc with hc | hc | hc | hc <;> cases hc
  unfold State.raiseOwn
  dsimp only
  split
  · exact keys_update h _ _ fun e => ⟨rfl, rfl⟩
  · split
    · exact keys_append h hnew
    · split
      · exact keys_append (fun x hx => h x (List.mem_of_mem_eraseP hx)) hnew
      · exact h

theorem keysClear_learnAlarms (h : KeysClear o s) {a : Fin 16} (ha : a ≠ o) (m : Byte) (d : Option SensorDetail) :
    KeysClear o (s.learnAlarms a m d) := by
  refine foldl_keeps (KeysClear o) _ (fun t c ht => ?_) _ _ h
  split
  · unfold State.learnAlarm
    dsimp only
    split
    · exact keys_update ht _ _ fun e => ⟨rfl, rfl⟩
    · exact keysClear_placeEntry ht (keyClear_other ha _ _ _ _)
  · exact ht

theorem keysClear_compareCauses (h : KeysClear o s) {a : Fin 16} (ha : a ≠ o) (m : Byte) : KeysClear o (s.compareCauses a m) := by
  refine foldl_keeps (KeysClear o) _ (fun t c ht => ?_) _ _ (keys_filter h _)
  split
  · exact keysClear_placeEntry ht (keyClear_other ha _ _ _ _)
  · exact ht

theorem keysClear_unclaimedWindow (h : KeysClear o s) : KeysClear o s.unclaimedWindow := by
  have hplaced := keysClear_placeEntry (o := o) h (e := newEntry .unknown .unclaimed .announced .localRaise none) fun hsrc => nomatch hsrc
  unfold State.unclaimedWindow
  dsimp only
  split
  · exact keys_update h .unknown .unclaimed fun e => ⟨rfl, rfl⟩
  · exact hplaced

theorem keysClear_clearOwn (h : KeysClear o s) (c : Cause) : KeysClear o (s.clearOwn c) :=
  (keys_filter h fun e => !e.hasKey (.station s.own) c).of_alc (by simp [State.clearOwn, removeEntry])

theorem keysClear_applyNotice (h : KeysClear o s) (a : Fin 16) (n : Notice) : KeysClear o (s.applyNotice a n) := by
  cases n with
  | ack src c => exact keys_update h src c acknowledge_key
  | ackAll => exact keys_map h acknowledge_key
  | clear c =>
    unfold State.applyNotice State.clearFrom
    dsimp only
    split
    · exact h
    · exact keys_filter h _
  | clearLost => exact keys_filter h _
  | command act ps => exact h.of_alc (by simp [State.applyNotice])

theorem keysClear_deliver (h : KeysClear o s) (i : Fin 16) (before : Debounced) (active : Bool) (n : Nat) :
    KeysClear o (s.deliver i before active n) := by
  unfold State.deliver
  dsimp only
  split
  · exact h
  · split <;> exact h.of_alc (by simp)
  · split <;> exact h.of_alc (by simp)
  · split
    · exact keysClear_raiseStop h _
    · exact h
  · split <;> exact h.of_alc (by simp)
  · split <;> exact h.of_alc (by simp)
  · exact h.of_alc (by simp)

theorem keysClear_changeInput (h : KeysClear o s) (i : Fin 16) (active : Bool) : KeysClear o (s.changeInput i active) := by
  unfold State.changeInput
  dsimp only
  split
  · exact h.of_alc (by simp)
  · exact keysClear_deliver (h.of_alc (by simp)) _ _ _ _

theorem keysClear_sampleInput (h : KeysClear o s) (i : Fin 16) (active : Bool) : KeysClear o (s.sampleInput i active) := by
  unfold State.sampleInput State.takeSample
  dsimp only
  split
  · exact h.of_alc (by simp)
  · split
    · exact keysClear_changeInput (h.of_alc (by simp)) _ _
    · exact h.of_alc (by simp)

/-! ### A station without supervision (R1, R2) -/

theorem poleArrival_alc_of_not (hs : s.ps.supervising = false) (c : Fin 8) : (s.poleArrival c).alc = s.alc := by
  unfold State.poleArrival
  dsimp only
  rw [hs]
  split
  · rfl
  · split
    · simp
    · rfl
    · rfl
    · rfl
    · rfl
    · rfl

theorem keysClear_finishBut (skip : Option (Fin 8)) (hs : u.ps.supervising = false) (h : KeysClear o u) (old : State) :
    KeysClear o (u.finishBut skip old) := by
  obtain ⟨-, -, -, halc, -⟩ := finishBut_blocks skip u old
  by_cases hm : u.rsq.mode = .config
  · rw [blocksEnd_of_config hm] at halc
    exact h.of_alc halc
  · rw [blocksEnd_of_joined hm] at halc
    have hreviewed : KeysClear o (u.reviewed old) := by
      rw [reviewed_eq, polesEnd_of_not (by rw [hs]; simp)]
      unfold State.clearIf
      split
      · exact keysClear_clearOwn h _
      · exact h
    exact hreviewed.of_alc (by rw [halc]; simp)

theorem body_keysClear {c : Instr} (hb : s.body c = some u) (hfit : PolesFit s False s) (hs : s.ps.supervising = false)
    (h : KeysClear s.own s) : KeysClear s.own u := by
  have hsame {t : State} (halc : t.alc = s.alc) : KeysClear s.own t := h.of_alc halc
  cases c with
  | debouncedChange i a l =>
    obtain ⟨-, rfl⟩ := some_of_ite hb
    exact keysClear_changeInput (hsame (by simp)) i a
  | inputSample i a =>
    cases hb
    exact keysClear_sampleInput h i a
  | sampleWord w l =>
    cases hb
    exact hsame ((poleArrival_alc_of_not (by simpa using hs) _).trans (by simp))
  | latchStale m l =>
    cases hb
    exact latchFold_keeps (KeysClear s.own) m (fun t c ht => ht.of_alc (by simp)) _ (hsame (by simp))
  | breakAssert =>
    cases hb
    exact hsame (by simp)
  | confirmTimerExpiry x l =>
    obtain ⟨-, rfl⟩ := some_of_ite hb
    have hstands : (s.sense l).confirmExpired x = s.sense l := by
      have hpole : (s.sense l).pole x = { outcome := (s.pole x).outcome } :=
        (pole_congr (by simp) x).trans (hfit.idle hs x)
      unfold State.confirmExpired
      dsimp only
      rw [hpole]
      rfl
    rw [hstands]
    exact hsame (by simp)
  | gapTimerExpiry l =>
    obtain ⟨-, rfl⟩ := some_of_ite hb
    have hstands : (s.sense l).gapExpired = s.sense l := by
      have hps : (s.sense l).ps = s.ps := by simp
      have htimer : s.ps.gapTimer.isSome = false := by rw [hfit.rest hs]; rfl
      rw [State.gapExpired, if_neg (by rw [hps, htimer]; simp)]
    rw [hstands]
    exact hsame (by simp)
  | restoreQualifyExpiry =>
    obtain ⟨-, rfl⟩ := some_of_ite hb
    have hstands : s.restoreQualifyExpired = s := by
      have htimer : s.ps.restoreQualifyTimer.isSome = false := by rw [hfit.rest hs]; rfl
      rw [State.restoreQualifyExpired, if_neg (by rw [htimer]; simp)]
    rw [hstands]
    exact h
  | unclaimedHoldExpiry =>
    obtain ⟨-, rfl⟩ := some_of_ite hb
    exact keys_filter h _
  | statusReceived a b =>
    obtain ⟨hg, rfl⟩ := some_of_ite hb
    rw [Bool.and_eq_true, bne_iff_ne] at hg
    exact keysClear_compareCauses (hsame (by simp)) hg.2 b.causes
  | noticeReceived a b =>
    obtain ⟨-, rfl⟩ := some_of_ite hb
    have hf : KeysClear s.own (((s.followFrame a).receiverTo .idle).refreshPeer a) := hsame (by simp)
    unfold State.hearNotice
    dsimp only
    split
    · exact keysClear_applyNotice hf a _
    · exact hf
  | alarmReceived a b =>
    obtain ⟨hg, rfl⟩ := some_of_ite hb
    rw [Bool.and_eq_true, bne_iff_ne] at hg
    have hl : KeysClear s.own (s.receiverTo .idle).restartIdle := hsame (by simp)
    exact keysClear_learnAlarms (hl.of_alarms (claimHeard_alarms _)) hg.2 _ _
  | duplicateAddress b =>
    obtain ⟨-, rfl⟩ := some_of_ite hb
    have hu : KeysClear s.own ((if s.rsq.muteCause = .duplicate then s else
        s.muteDuplicate.followDuplicate b s.rsq.mode).receiverTo .idle) := by
      refine hsame ?_
      split <;> simp
    unfold State.hearDuplicate
    dsimp only
    split
    · exact hu.of_alarms (claimHeard_alarms _)
    · exact hu
  | ownNoticeComplete =>
    obtain ⟨-, rfl⟩ := some_of_ite hb
    unfold State.ownNoticeSent
    dsimp only
    split
    · exact keysClear_applyNotice (hsame (by simp)) _ _
    · exact hsame (by simp)
  | ownAlarmComplete =>
    obtain ⟨-, rfl⟩ := some_of_ite hb
    have hann (m : Byte) : KeysClear s.own (s.frameDone.announce m) := by
      have hdone : KeysClear s.own s.frameDone := hsame (by simp)
      refine keys_map hdone fun e => ?_
      split <;> exact ⟨rfl, rfl⟩
    exact (hann _).of_alarms (claimHeard_alarms _)
  | breakDetection chars =>
    obtain ⟨-, rfl⟩ := some_of_ite hb
    refine h.of_alarms ?_
    unfold State.detectBreak State.breakFound
    dsimp only
    split
    · exact alarms_congr (by simp)
    · split <;> simp [State.alarms]
  | breakEnd =>
    obtain ⟨-, rfl⟩ := some_of_ite hb
    refine h.of_alarms ?_
    unfold State.endBreak State.beginWindow
    dsimp only
    split
    · exact alarms_congr (by simp)
    · simp [State.alarms]
  | windowComplete =>
    obtain ⟨-, rfl⟩ := some_of_ite hb
    unfold State.endWindow
    dsimp only
    split
    · exact h
    · refine KeysClear.of_alarms (keysClear_unclaimedWindow ?_) rfl
      exact h
  | idleCountExpiry =>
    obtain ⟨-, rfl⟩ := some_of_ite hb
    exact h.of_alarms ((takeRoundEnd_alarms _).trans (alarms_congr (by simp)))
  | roundEnd =>
    obtain ⟨-, rfl⟩ := some_of_ite hb
    exact h.of_alarms (roundEnds_alarms s)
  | receiveError chars ending =>
    simp only [State.body] at hb
    split at hb
    · cases hb
      exact hsame (by simp)
    · split at hb
      · cases hb
        exact hsame (by simp)
      · cases hb
  | qualifyTimerExpiry | raiseMaxExpiry | quietTimerExpiry | lowerWaitMaxExpiry | lowerMaxExpiry | demandHoldExpiry
  | overdrawTimerExpiry | restoreTimerExpiry | peerStale | peerLost | muteTimerExpiry | lineActivityEnd | ownSlotStart
  | skipInterval | ownStatusComplete | echoMismatch | abortJudgedError | breakRelease | claimPositionStart | stuckLine =>
    obtain ⟨-, rfl⟩ := some_of_ite hb
    exact hsame (by simp)
  | _ => cases hb

end Keys

end Machine
end Sys2Proof

/-!
PROOFS. What an event's end makes of the poles, the gap, the line loss and the acknowledged entries, and the laws of the
poles through every step (R4, R9, R10, R21, R23, R25, R26, R34; O8).
-/

namespace Sys2Proof
namespace Machine

section PolesEnd

variable {old s t u : State} {c d : Cause} {x : PoleId} {gone : Bool} {free : Prop}

/-! ### The poles as an event's end places them (R4, R9, R10) -/

theorem placedPole_moves (u old : State) (x : PoleId) : (u.pole x).Moves (u.placedPole old x) := by
  refine Pole.Moves.trans ?_ (settledPole_moves u x _)
  unfold State.abandonedPole
  split
  · exact lowered_moves _ _
  · exact .refl _

theorem waited_moves (r o : Pole) : r.Moves (r.waited o) := by
  unfold Pole.waited
  split
  next hc =>
    simp only [Bool.and_eq_true] at hc
    exact qualifiedOn_moves hc.1.1
  next => exact .refl r

theorem endPole_moves (u old : State) (x : PoleId) : (u.pole x).Moves (u.endPole old x) :=
  (placedPole_moves u old x).trans (waited_moves _ _)

/-- R9: a pole that waits at an event's end waits for one that is still held, without its mark. -/
theorem endPole_waits (hmarks : ∀ x, (u.pole x).qualified = true → (u.pole x.other).qualified = false)
    (hfit : ∀ x, (u.pole x).Fit) (h : (u.endPole old x).qualified = true) :
    (u.endPole old x).isQualifying = true ∧ (u.endPole old x.other).isQualifying = true ∧
      (u.endPole old x.other).qualified = false := by
  have hmark := (endPole_moves u old x).marks h
  have hother : (u.endPole old x.other).qualified = false := Bool.eq_false_iff.2 fun ho => by
    have hno := hmarks x hmark
    rw [(endPole_moves u old x.other).marks ho] at hno
    cases hno
  have hheld : (u.placedPole old x.other).isQualifying = true := by
    by_contra hnot
    rw [Bool.not_eq_true] at hnot
    unfold State.endPole Pole.waited at h
    split at h
    · cases h
    next hc =>
      have hfits := ((placedPole_moves u old x).fit (hfit x)).marked h
      exact hc (by rw [hfits, h, hnot]; rfl)
  have hstays : u.endPole old x = u.placedPole old x := by
    unfold State.endPole Pole.waited
    rw [if_neg (by rw [hheld]; simp)]
  have hqualifying : (u.placedPole old x).isQualifying = true := by
    rw [← hstays]
    exact ((endPole_moves u old x).fit (hfit x)).marked h
  have hotherStays : u.endPole old x.other = u.placedPole old x.other := by
    have hback : x.other.other = x := by cases x <;> rfl
    unfold State.endPole Pole.waited
    rw [hback, if_neg (by rw [hqualifying]; simp)]
  exact ⟨by rw [hstays]; exact hqualifying, by rw [hotherStays]; exact hheld, hother⟩

/-- R10: a pole RAISING at an event's end was so before it, and the event ends no raise. -/
theorem endPole_raising (h : (u.endPole old x).state = .raising) :
    (u.pole x).state = .raising ∧ u.abandons old = false := by
  have hraising := (endPole_moves u old x).raises h
  refine ⟨hraising, Bool.eq_false_iff.2 fun ha => ?_⟩
  have habandoned : u.abandonedPole old x = (u.pole x).lowered (u.stowedClosed x) := by
    rw [State.abandonedPole, ha, hraising]
    rfl
  have hplaced := (waited_moves (u.placedPole old x) (u.placedPole old x.other)).raises h
  have hlowered := (settledPole_moves u x (u.abandonedPole old x)).raises hplaced
  rw [habandoned] at hlowered
  exact (lowered_state _ _).1 hlowered

/-! ### Stops (R10, R66) -/

theorem stopEffect_iff : s.stopEffect = true ↔ ∃ e ∈ s.alarms, e.cause = .deskStop := by
  rw [State.stopEffect, List.any_eq_true]
  simp

/-- No event's end lists a stop. -/
theorem stopEffect_of_finish (h : (u.finish old).stopEffect = true) : u.stopEffect = true := by
  rw [stopEffect_iff] at h ⊢
  refine finishBut_alarms_keep (u := u)
    (P := fun t => (∃ e ∈ t.alarms, e.cause = .deskStop) → ∃ e ∈ u.alarms, e.cause = .deskStop) none old
    (fun t v _ halc _ ht => ?_) (fun t d ht => ?_) (fun t c _ ht => ?_) id h
  · rw [alarms_congr halc]
    exact ht
  · rintro ⟨e, he, hc⟩
    rcases mem_raiseOwn d he with hmem | ⟨hkey, -⟩
    · exact ht ⟨e, hmem, hc⟩
    · rw [AlarmEntry.key, Prod.mk.injEq, hc] at hkey
      cases hkey.2
  · rintro ⟨e, he, hc⟩
    exact ht ⟨e, mem_clearOwn he, hc⟩

/-- R10: an event that ends no raise lists no stop where none was listed. -/
theorem stopEffect_of_not_abandons (ha : u.abandons old = false) (hold : old.stopEffect = false) : u.stopEffect = false := by
  refine Bool.eq_false_iff.2 fun h => ?_
  obtain ⟨e, he, hc⟩ := stopEffect_iff.1 h
  rw [State.abandons, Bool.or_eq_false_iff] at ha
  refine List.any_eq_false.1 ha.2 e he ?_
  have hlisted : old.listed e.source .deskStop = false := by
    refine List.any_eq_false.2 fun e' he' hkey => ?_
    rw [hasKey_iff, AlarmEntry.key, Prod.mk.injEq] at hkey
    rw [Bool.eq_false_iff] at hold
    exact hold (stopEffect_iff.2 ⟨e', he', hkey.2⟩)
  simp [hc, hlisted]

/-! ### The gap (R21) -/

theorem gapRule_flag {ps : PoleSupervisor} (h : ps.gapTimer.isSome = true → ps.gapFlag = true) :
    (ps.gapRule.gapFlag = true → ps.band = .none ∧ ps.poleP.onOrSuspect = true ∧ ps.poleN.onOrSuspect = true) ∧
      (ps.gapRule.gapTimer.isSome = true → ps.gapRule.gapFlag = true) := by
  unfold PoleSupervisor.gapRule
  split
  next hflag =>
    split
    · exact ⟨fun hn => (nomatch hn), fun hn => (nomatch hn)⟩
    next hc =>
      simp only [Bool.or_eq_true, not_or, Bool.not_eq_true, Bool.not_eq_false', Bool.and_eq_true, bne_eq_false_iff_eq] at hc
      exact ⟨fun _ => hc, fun _ => hflag⟩
  next hflag =>
    split
    next hc =>
      simp only [Bool.and_eq_true, beq_iff_eq] at hc
      exact ⟨fun _ => ⟨hc.2, by simp [Pole.onOrSuspect, hc.1.1], by simp [Pole.onOrSuspect, hc.1.2]⟩, fun _ => rfl⟩
    next => exact ⟨fun hn => absurd hn hflag, fun hn => absurd (h hn) hflag⟩

/-! ### Acknowledged entries (R25, R26, R34) -/

/-- R25, R26, R34: an own entry that an event's end leaves ACKNOWLEDGED has its reason still. -/
theorem clearIf_acknowledged (h : (s.clearIf c gone).ownAcknowledged c = true) : gone = false := by
  unfold State.clearIf at h
  split at h
  · rw [ownAcknowledged_eq, ownEntries_clearOwn, if_pos rfl] at h
    cases h
  next hc =>
    rw [h, Bool.true_and] at hc
    exact Bool.eq_false_iff.2 hc

theorem ownEntries_finish_reviewed (hm : u.rsq.mode ≠ .config) (old : State) (c : Cause) :
    (u.finish old).ownEntries c = (u.reviewed old).ownEntries c := by
  obtain ⟨-, -, -, halc, -⟩ := finishBut_blocks none u old
  rw [blocksEnd_of_joined hm] at halc
  refine ownEntries_congr (halc.trans ?_) ?_ c
  · simp
  · simp [State.reviewed]

theorem inputs_finish (u old : State) : (u.finish old).iou.inputs = u.iou.inputs ∧ (u.finish old).iou.latches = u.iou.latches := by
  rw [finish_iou]
  exact ⟨rfl, rfl⟩

theorem activeStops_inputs (hcfs : t.cfs = s.cfs) (hinputs : t.iou.inputs = s.iou.inputs) : t.activeStops = s.activeStops := by
  simp only [State.activeStops, State.inputFn, State.inputActive, hcfs, hinputs]

theorem fresh_latches (h : t.iou.latches = s.iou.latches) (k : Fin 8) : t.fresh k = s.fresh k := by
  rw [State.fresh, State.fresh, latch_congr h]

/-- R34: a stop acknowledged at an event's end has an active button. -/
theorem stop_acknowledged_finish (hm : u.rsq.mode ≠ .config) (h : (u.finish old).ownAcknowledged .deskStop = true) :
    (u.finish old).activeStops ≠ 0 := by
  rw [ownAcknowledged_congr (ownEntries_finish_reviewed hm old _), reviewed_eq] at h
  have hgone := clearIf_acknowledged h
  rw [beq_eq_false_iff_ne] at hgone
  rwa [activeStops_inputs (s := u) (by simp) (inputs_finish u old).1]

section Supervised

variable (hm : u.rsq.mode ≠ .config) (hp : u.role = .pole) (hs : u.ps.supervising = true)
include hm hp hs

/-- The own entries of a cause of the Pole Supervisor as its own rules leave them. -/
theorem ownEntries_finish_listed (old : State) (hc : c ≠ .deskStop) :
    (u.finish old).ownEntries c = ((u.polesPlaced old).polesListed old).ownEntries c := by
  rw [ownEntries_finish_reviewed hm, reviewed_eq, ownEntries_clearIf hc, polesEnd_of_supervising hp hs,
    ownEntries_restoreQualifyRule]

/-- R25: a SENSOR_LOSS acknowledged at an event's end has a stale sensor. -/
theorem sensor_acknowledged_finish (h : (u.finish old).ownAcknowledged .sensorLoss = true) :
    (u.finish old).fresh elevPChannel = false ∨ (u.finish old).fresh elevNChannel = false ∨
      (u.finish old).fresh lineVChannel = false := by
  have hentries := ownEntries_finish_listed (c := .sensorLoss) hm hp hs old (by decide)
  rw [polesListed_eq, ownEntries_clearIf (by decide), ownEntries_clearIf (by decide)] at hentries
  rw [ownAcknowledged_congr hentries] at h
  have hgone := clearIf_acknowledged h
  have hfresh (k : Fin 8) : (u.polesPlaced old).fresh k = (u.finish old).fresh k :=
    fresh_latches (by rw [(inputs_finish u old).2]; simp) k
  rw [hfresh, hfresh, hfresh, Bool.and_eq_false_iff, Bool.and_eq_false_iff] at hgone
  exact or_assoc.1 hgone

/-- R26: a drop acknowledged at an event's end is of a pole that is not down yet. -/
theorem drop_acknowledged_finish (h : (u.finish old).ownAcknowledged (dropCause x) = true) :
    ((u.finish old).pole x).state ≠ .stowed := by
  have hentries := ownEntries_finish_listed (c := dropCause x) hm hp hs old (by cases x <;> decide)
  have hpole : (u.polesPlaced old).pole x = (u.finish old).pole x := by
    rw [polesPlaced_pole, finish_pole hm hp hs]
    rfl
  rw [polesListed_eq] at hentries
  have hgone : ((u.polesPlaced old).pole x).state ≠ .stowed := by
    cases x with
    | p =>
      rw [ownEntries_clearIf (by decide)] at hentries
      rw [ownAcknowledged_congr hentries] at h
      have hstate := clearIf_acknowledged h
      rw [beq_eq_false_iff_ne] at hstate
      exact hstate
    | n =>
      rw [ownAcknowledged_congr hentries] at h
      have hstate := clearIf_acknowledged h
      rw [beq_eq_false_iff_ne] at hstate
      exact hstate
  rwa [← hpole]

/-- R23: the restore-qualify timer at an event's end has its reason. -/
theorem restoreQualify_finish (h : (u.finish old).ps.restoreQualifyTimer.isSome = true) :
    (u.finish old).ownListed .lineLoss = true ∧ (u.finish old).ps.band ≠ .none := by
  have hps := finishBut_ps none old hm hp hs
  obtain ⟨-, -, -, htimer⟩ := gapRule_frame
    { u.ps with poleP := u.endPole old .p, poleN := u.endPole old .n, restoreQualifyTimer := u.endRestoreQualify }
  have hrule : (u.finish old).ps.restoreQualifyTimer = u.endRestoreQualify := (congrArg _ hps).trans htimer
  rw [hrule, State.endRestoreQualify] at h
  split at h
  next hc =>
    rw [Bool.and_eq_true, bne_iff_ne] at hc
    refine ⟨(ownListed_congr (ownEntries_finish hm (.inl rfl) (fun hn => nomatch hn))).trans hc.1, ?_⟩
    have hband : (u.finish old).ps.band = u.ps.band := (finishBut_line_voltage none u old).1
    rw [hband]
    exact hc.2
  next => cases h

end Supervised

end PolesEnd

end Machine
end Sys2Proof

/-!
PROOFS. The laws of the poles at an event's end (R1, R2, R8 to R10, R17, R21, R23, R25, R26, R32, R34; O8).
-/

namespace Sys2Proof
namespace Machine

section AtEnd

variable {old s t u : State} {x : PoleId} {r : Pole} {free : Prop}

/-- The laws of the poles stand on these items alone. -/
theorem polesKept_same (h : PolesKept s) (hps : t.ps = s.ps) (hmode : t.rsq.mode = s.rsq.mode) (halc : t.alc = s.alc)
    (hcfs : t.cfs = s.cfs) (hinputs : t.iou.inputs = s.iou.inputs) (hlatches : t.iou.latches = s.iou.latches) : PolesKept t := by
  have hpole (x : PoleId) : t.pole x = s.pole x := pole_congr hps x
  have hstop : t.stopEffect = s.stopEffect := by rw [State.stopEffect, State.stopEffect, alarms_congr halc]
  have hlisted (c : Cause) : t.ownListed c = s.ownListed c := ownListed_congr (ownEntries_congr halc hcfs c)
  have hacknowledged (c : Cause) : t.ownAcknowledged c = s.ownAcknowledged c := ownAcknowledged_congr (ownEntries_congr halc hcfs c)
  have hfresh (k : Fin 8) : t.fresh k = s.fresh k := fresh_latches hlatches k
  unfold PolesKept PolesAtRest at h ⊢
  simp only [hpole, hps, hmode, hstop, hlisted, hacknowledged, hfresh, activeStops_inputs hcfs hinputs, role_congr hcfs]
  exact h

/-! ### From the laws to the records, and back -/

theorem ownAcknowledged_listed {c : Cause} (h : s.ownAcknowledged c = true) : s.ownListed c = true := by
  obtain ⟨e, he, hc⟩ := List.any_eq_true.1 h
  rw [Bool.and_eq_true] at hc
  exact List.any_eq_true.2 ⟨e, he, hc.1⟩

theorem polesFit_of_kept (h : PolesKept s) : PolesFit s False s := by
  obtain ⟨hpoles, -, hgap, -, -, -, -, hothers, hrest⟩ := h
  refine ⟨fun x => ?_, fun x hx => ?_, fun x hx => .inl hx, hgap, hothers, fun hs => (hrest hs).1, id⟩
  · obtain ⟨htimer, hlowers, hraises, hqualify, hconfirm, hquiet, hmarked, -⟩ := hpoles x
    exact ⟨htimer, hlowers, hraises, fun hq => isQualifying_iff.2 (hqualify hq), hconfirm, hquiet,
      fun hq => isQualifying_iff.2 (hmarked hq).1⟩
  · obtain ⟨-, -, -, -, -, -, hmarked, -⟩ := hpoles x
    exact (hmarked hx).2.2

theorem keysClear_of_kept (h : PolesKept s) (hs : s.ps.supervising = false) : KeysClear s.own s := by
  obtain ⟨-, -, -, -, -, -, -, -, hrest⟩ := h
  exact (keysClear_iff s).2 (hrest hs).2

/-- R10: a pole is RAISING only in RUN and under no stop. -/
theorem PolesKept.raising (h : PolesKept s) (hx : (s.pole x).state = .raising) : s.rsq.mode = .run ∧ s.stopEffect = false := by
  obtain ⟨hpoles, -⟩ := h
  obtain ⟨-, -, -, -, -, -, -, hraising, -⟩ := hpoles x
  exact hraising hx

/-- A station without supervision and with nothing of the Pole Supervisor listed meets the laws of the poles. -/
theorem polesKept_of_rest (hfit : PolesFit old free s) (hs : s.ps.supervising = false) (hclear : KeysClear s.own s)
    (hstop : s.ownAcknowledged .deskStop = true → s.activeStops ≠ 0) : PolesKept s := by
  have hidle := hfit.idle hs
  have hrest := hfit.rest hs
  have hunlisted := (keysClear_iff s).1 hclear
  have hnot {c : Cause} (hc : PoleCause c) : ¬s.ownAcknowledged c = true := fun ha => by
    have hl := ownAcknowledged_listed ha
    rw [hunlisted c hc] at hl
    cases hl
  refine ⟨fun x => ?_, fun hg => ?_, hfit.gap, fun hq => ?_, fun ha => absurd ha (hnot (.inr (.inr (.inr rfl)))),
    fun x ha => absurd ha (hnot ?_), hstop, hfit.others, fun _ => ⟨hrest, hunlisted⟩⟩
  · rw [hidle x]
    simp
  · rw [hrest] at hg
    cases hg
  · rw [hrest] at hq
    cases hq
  · cases x
    · exact .inl rfl
    · exact .inr (.inl rfl)

/-! ### At an event's end -/

/-- R10: no pole is RAISING at an event's end but in RUN and under no stop. -/
theorem raising_finish (hfit : PolesAfter old u)
    (hold : ∀ x, (old.pole x).state = .raising → old.rsq.mode = .run ∧ old.stopEffect = false)
    (h : (u.endPole old x).state = .raising) : (u.finish old).rsq.mode = .run ∧ (u.finish old).stopEffect = false := by
  obtain ⟨hraising, hgoes⟩ := endPole_raising h
  have hmet : u.rsq.mode = .run ∧ u.stopEffect = false := by
    rcases hfit.raises x hraising with hx | hmet
    · obtain ⟨hrun, hstop⟩ := hold x hx
      refine ⟨?_, stopEffect_of_not_abandons hgoes hstop⟩
      rw [State.abandons, Bool.or_eq_false_iff] at hgoes
      simpa [hrun] using hgoes.1
    · exact hmet
  exact ⟨(finish_rounds u old).1.trans hmet.1, Bool.eq_false_iff.2 fun hs => by
    rw [stopEffect_of_finish hs] at hmet
    cases hmet.2⟩

theorem onOrSuspect_iff : r.onOrSuspect = true ↔ r.state = .onWire ∨ r.state = .suspect := by simp [Pole.onOrSuspect]

/-- R21: the gap flag and its timer at an event's end. -/
theorem gap_finish (hm : u.rsq.mode ≠ .config) (hp : u.role = .pole) (hs : u.ps.supervising = true)
    (hgap : u.ps.gapTimer.isSome = true → u.ps.gapFlag = true) :
    ((u.finish old).ps.gapFlag = true → (u.finish old).ps.band = .none ∧
        ∀ x, ((u.finish old).pole x).state = .onWire ∨ ((u.finish old).pole x).state = .suspect) ∧
      ((u.finish old).ps.gapTimer.isSome = true → (u.finish old).ps.gapFlag = true) := by
  have hps := finishBut_ps none old hm hp hs
  obtain ⟨hflag, htimer⟩ := gapRule_flag
    (ps := { u.ps with poleP := u.endPole old .p, poleN := u.endPole old .n, restoreQualifyTimer := u.endRestoreQualify }) hgap
  have hband : (u.finish old).ps.band = u.ps.band := (finishBut_line_voltage none u old).1
  rw [State.finish, hps] at *
  refine ⟨fun h => ?_, htimer⟩
  obtain ⟨hnone, hP, hN⟩ := hflag h
  refine ⟨hband.trans hnone, fun x => ?_⟩
  have hpole := finish_pole hm hp hs old x
  rw [State.finish] at hpole
  rw [hpole]
  cases x
  · exact onOrSuspect_iff.1 hP
  · exact onOrSuspect_iff.1 hN

/-- The records of the poles at an event's end under supervision. -/
theorem records_finish (hfit : PolesAfter old u)
    (hold : ∀ x, (old.pole x).state = .raising → old.rsq.mode = .run ∧ old.stopEffect = false)
    (hm : u.rsq.mode ≠ .config) (hs : u.ps.supervising = true) (x : PoleId) :
    ((u.finish old).pole x).Fit ∧
      (((u.finish old).pole x).qualified = true → ((u.finish old).pole x).isQualifying = true ∧
        ((u.finish old).pole x.other).isQualifying = true ∧ ((u.finish old).pole x.other).qualified = false) ∧
      (((u.finish old).pole x).state = .raising → (u.finish old).rsq.mode = .run ∧ (u.finish old).stopEffect = false) := by
  have hp := hfit.role hs
  rw [finish_pole hm hp hs, finish_pole hm hp hs]
  exact ⟨(endPole_moves u old x).fit (hfit.records x), endPole_waits hfit.marks hfit.records, raising_finish hfit hold⟩

/-- The laws of the poles at an event's end. -/
theorem polesKept_finish (hfit : PolesAfter old u)
    (hold : ∀ x, (old.pole x).state = .raising → old.rsq.mode = .run ∧ old.stopEffect = false)
    (hclear : u.ps.supervising = false → KeysClear u.own u) (hm : u.rsq.mode ≠ .config) : PolesKept (u.finish old) := by
  have hstop := stop_acknowledged_finish (old := old) hm
  have hcfs : (u.finish old).cfs = u.cfs := by simp
  cases hs : u.ps.supervising with
  | true =>
    have hp := hfit.role hs
    have hrecords := records_finish hfit hold hm hs
    obtain ⟨hflag, htimer⟩ := gap_finish (old := old) hm hp hs hfit.gap
    have hsup : (u.finish old).ps.supervising = true := by
      rw [State.finish, finishBut_ps none old hm hp hs]
      exact (gapRule_frame _).2.2.1.trans hs
    refine ⟨fun x => ?_, hflag, htimer, restoreQualify_finish hm hp hs, sensor_acknowledged_finish hm hp hs,
      fun x => drop_acknowledged_finish hm hp hs, hstop, fun hne => absurd ((role_congr hcfs).trans hp) hne,
      fun hnot => ?_⟩
    · obtain ⟨hrecord, hmark, hraise⟩ := hrecords x
      exact ⟨hrecord.stateTimer, hrecord.lowers, hrecord.raises, fun hq => isQualifying_iff.1 (hrecord.qualifyTimer hq),
        hrecord.confirmTimer, hrecord.quietTimer,
        fun hq => (hmark hq).imp isQualifying_iff.1 (And.imp_left isQualifying_iff.1), hraise,
        fun hnot => by rw [hsup] at hnot; cases hnot⟩
    · rw [hsup] at hnot
      cases hnot
  | false =>
    have hps : (u.finish old).ps = u.ps := finishBut_ps_of_not none old fun h => by
      rw [hs] at h
      cases h.2.2
    have hkeys : KeysClear (u.finish old).own (u.finish old) := by
      rw [own_congr hcfs]
      exact keysClear_finishBut none hs (hclear hs) old
    exact polesKept_of_rest (hfit.same hps hcfs) (by rw [hps]; exact hs) hkeys hstop

/-- A finish that leaves out a channel's topic settles the poles like any other. -/
theorem polesKept_finishBut (skip : Option (Fin 8)) (h : PolesKept (u.finish old)) : PolesKept (u.finishBut skip old) := by
  obtain ⟨-, -, hps, halc, -⟩ := finishBut_blocks skip u old
  obtain ⟨-, -, hps', halc', -⟩ := finishBut_blocks none u old
  refine polesKept_same h (hps.trans hps'.symm) ((finishBut_rounds skip u old).1.trans (finish_rounds u old).1.symm)
    (halc.trans halc'.symm) (by simp) ?_ ?_
  · rw [finishBut_iou, (inputs_finish u old).1]
  · rw [finishBut_iou, (inputs_finish u old).2]

end AtEnd

end Machine
end Sys2Proof

/-!
PROOFS. The laws of the poles hold through every step (R1, R2, R8 to R10, R17, R21, R23, R25, R26, R32, R34; O8).
-/

namespace Sys2Proof
namespace Machine

section ThroughSteps

variable {old s t u : State}

/-! ### In CONFIG and after a reset (R1, R202) -/

theorem polesFit_atReset {free : Prop} (hps : t.ps = {}) (hold : old.ps.supervising = false) : PolesFit old free t := by
  have hpole (x : PoleId) : t.pole x = {} := by cases x <;> rw [State.pole, hps] <;> rfl
  refine ⟨fun x => ?_, fun x hx => ?_, fun x hx => ?_, fun hg => ?_, fun _ => hps, fun _ => ?_, fun hs => ?_⟩
  · rw [hpole]
    constructor <;> simp
  · rw [hpole] at hx
    cases hx
  · rw [hpole] at hx
    cases hx
  · rw [hps] at hg
    cases hg
  · rw [hps]
  · rw [hold] at hs
    cases hs

theorem keysClear_of_empty {o : Fin 16} (h : s.alc = {}) : KeysClear o s := fun e he => by
  rw [State.alarms, h] at he
  cases he

theorem polesKept_quiet (h : Quiet s) : PolesKept s := by
  have hsup : s.ps.supervising = false := by rw [h.poles]
  refine polesKept_of_rest (old := s) (free := False) (polesFit_atReset h.poles hsup) hsup (keysClear_of_empty h.alarms) fun ha => ?_
  rw [State.ownAcknowledged, State.alarms, h.alarms] at ha
  cases ha

/-! ### The laws of CONFIG and of the poles together -/

/-- The laws of the poles, with those of CONFIG, under which they hold through every step. -/
structure PolesSound (s : State) : Prop where
  quiet : ConfigQuiet s
  poles : PolesKept s

theorem polesSound_quiet (h : Quiet s) : PolesSound s := ⟨configQuiet_of_quiet h, polesKept_quiet h⟩

theorem PolesSound.same (h : PolesSound s) (hq : ConfigQuiet t) (hps : t.ps = s.ps) (hmode : t.rsq.mode = s.rsq.mode)
    (halc : t.alc = s.alc) (hcfs : t.cfs = s.cfs) (hinputs : t.iou.inputs = s.iou.inputs)
    (hlatches : t.iou.latches = s.iou.latches) : PolesSound t :=
  ⟨hq, polesKept_same h.poles hps hmode halc hcfs hinputs hlatches⟩

theorem polesKept_event {c : Instr} (hb : s.body c = some u) (h : PolesKept s) (hu : u.rsq.mode ≠ .config) :
    PolesKept (u.finish s) := by
  have hfit := polesFit_of_kept h
  have hafter := body_polesAfter hb hfit
  refine polesKept_finish hafter (fun x hx => h.raising hx) (fun hs => ?_) hu
  have hnot : s.ps.supervising = false := Bool.eq_false_iff.2 fun hsup => by
    rw [hafter.since hsup] at hs
    cases hs
  rw [own_congr (body_cfs hb)]
  exact body_keysClear hb hfit hnot (keysClear_of_kept h hnot)

theorem polesSound_event {c : Instr} (hb : s.body c = some u) (h : PolesSound s) : PolesSound (u.finish s) := by
  by_cases hm : s.rsq.mode = .config
  · exact polesSound_quiet (quiet_finishBut none (body_quiet hb ((configQuiet_iff s).1 h.quiet hm)) s)
  · exact ⟨body_configQuiet hb h.quiet s, polesKept_event hb h.poles fun hu => hm ((body_config hb).1 hu)⟩

/-! ### Requests (R6, R189 to R203) -/

/-- A request that leaves the poles and the alarm list and ends its event. -/
theorem polesKept_settled (skip : Option (Fin 8)) (h : PolesKept s) (hps : u.ps = s.ps) (halc : u.alc = s.alc)
    (hcfs : u.cfs = s.cfs) (hm : u.rsq.mode ≠ .config) : PolesKept (u.finishBut skip s) := by
  refine polesKept_finishBut skip (polesKept_finish ((polesFit_of_kept h).same hps hcfs).after (fun x hx => h.raising hx)
    (fun hs => ?_) hm)
  rw [own_congr hcfs]
  exact (keysClear_of_kept h (by rw [← hps]; exact hs)).of_alc halc

/-- R6: the poles after a POLE_COMMAND's event. -/
theorem polesKept_commanded (a : PoleAction) (ps : PoleSel) (h : PolesKept s) (hm : s.rsq.mode ≠ .config) :
    PolesKept ((s.commandPoles a ps).finish s) := by
  refine polesKept_finish (polesAfter_commandPoles (polesFit_of_kept h) a ps) (fun x hx => h.raising hx) (fun hs => ?_)
    (by simpa using hm)
  rw [own_congr (t := s.commandPoles a ps) (s := s) (by simp)]
  refine (keysClear_of_kept h ?_).of_alc (by simp)
  rw [← hs, (polesMoved_commandPoles a ps s).supervising]

/-- R34, R201: JOIN lists at most a stop, and begins no supervision. -/
theorem polesKept_join (h : Quiet s) : PolesKept (s.join.finish s) := by
  have hps : s.join.ps = {} := by
    rw [join_eq]
    simp [h.poles]
  have hsup : s.ps.supervising = false := by rw [h.poles]
  have hraising (x : PoleId) : ¬(s.pole x).state = .raising := fun hx => by
    cases x <;> rw [State.pole, h.poles] at hx <;> cases hx
  have hlisted : KeysClear s.join.own s.joinListed := by
    have hbegun : KeysClear s.join.own s.joinBegun := keysClear_of_empty h.alarms
    unfold State.joinListed
    split
    · exact hbegun
    · exact keysClear_raiseStop hbegun none
  refine polesKept_finish (polesFit_atReset hps hsup) (fun x hx => absurd hx (hraising x))
    (fun _ => hlisted.of_alc ?_) ?_
  · rw [join_eq]
    simp
  · rw [join_eq]
    simp

theorem polesSound_effect {r : Request} (hj : s.judge r = none) (h : PolesSound s) : PolesSound (s.effect r) := by
  have hq := configQuiet_effect hj h.quiet
  cases r with
  | configWrite record items =>
    have hm : s.rsq.mode = .config := by simpa [modeOk] using judge_mode hj
    refine polesSound_quiet ((configQuiet_iff _).1 hq ?_)
    simp only [State.effect]
    split
    · exact hm
    · simpa using hm
  | join =>
    have hm : s.rsq.mode = .config := by simpa [modeOk] using judge_mode hj
    exact ⟨hq, polesKept_join ((configQuiet_iff s).1 h.quiet hm)⟩
  | setDemand a =>
    have hm : s.rsq.mode ≠ .config := by simpa [modeOk] using judge_mode hj
    exact ⟨hq, polesKept_settled none h.poles (by simp) (by simp) (by simp) (by simpa using hm)⟩
  | setChannel k a =>
    have hm : s.rsq.mode ≠ .config := by simpa [modeOk] using judge_mode hj
    exact ⟨hq, polesKept_settled _ h.poles (by simp) (by simp) (by simp) (by simpa using hm)⟩
  | poleCommand a ps =>
    have hm : s.rsq.mode ≠ .config := by simpa [modeOk] using judge_mode hj
    exact ⟨hq, polesKept_commanded a ps h.poles hm⟩
  | reset => exact polesSound_quiet (quiet_restarted _ _ s)
  | readStation | readAlarms | readPoles | readChannels => exact h
  | readPeer | readIo | readChanges | setAttnMask =>
    exact h.same hq (by simp [State.effect]) (by simp [State.effect]) (by simp [State.effect]) (by simp [State.effect])
      (by simp [State.effect]) (by simp [State.effect])
  | setOutput o on =>
    exact h.same hq (by simp [State.effect]) (by simp [State.effect]) (by simp [State.effect]) (by simp [State.effect])
      rfl rfl
  | sendNotice n =>
    simp only [State.effect] at hq ⊢
    split at hq
    next hw =>
      rw [if_pos hw]
      exact h
    next hw =>
      rw [if_neg hw]
      exact h.same hq rfl rfl rfl rfl rfl rfl

theorem kept_polesSound : Kept PolesSound where
  link s x h := h.same (kept_configQuiet.link s x h.quiet) rfl rfl rfl rfl rfl rfl
  strap s high cts h := h.same (kept_configQuiet.strap s high cts h.quiet) rfl rfl rfl rfl rfl rfl
  sense s l h := h.same (kept_configQuiet.sense s l h.quiet) (by simp) (by simp) (by simp) (by simp) (by simp) (by simp)
  brk s h := h.same (kept_configQuiet.brk s h.quiet) (by simp) (by simp) (by simp) (by simp) (by simp) (by simp)
  effect s r h hj := polesSound_effect hj h
  power s high _ := polesSound_quiet (quiet_restarted _ _ s)
  pin s high _ := polesSound_quiet (quiet_restarted _ _ s)
  sampleError s h := h.same (kept_configQuiet.sampleError s h.quiet) rfl rfl rfl rfl rfl rfl

/-! ### The millisecond -/

@[simp] theorem tick_isSome (n : Timer) : n.tick.isSome = n.isSome := Option.isSome_map

/-- A millisecond ages timers and entries alone: none starts, stops or changes its state. -/
theorem polesKept_tick (h : PolesKept s) : PolesKept s.tick := by
  have hstop : s.tick.stopEffect = s.stopEffect := by
    rw [State.stopEffect, State.stopEffect, tick_alarms, List.any_map]
    rfl
  have hlisted (c : Cause) : s.tick.ownListed c = s.ownListed c := by
    rw [State.ownListed, State.listed, tick_alarms, List.any_map]
    rfl
  have hacknowledged (c : Cause) : s.tick.ownAcknowledged c = s.ownAcknowledged c := by
    rw [State.ownAcknowledged, tick_alarms, List.any_map]
    rfl
  have hfresh (k : Fin 8) : s.tick.fresh k = s.fresh k := by rw [State.fresh, tick_latch, State.fresh]
  have hactive (i : Fin 16) : s.tick.inputActive i = s.inputActive i := by
    rw [State.inputActive, input_tick, State.inputActive]
    unfold State.inputTicked Input.sampled
    split
    · rfl
    · split <;> rfl
  have hstops : s.tick.activeStops = s.activeStops := by
    simp only [State.activeStops, hactive]
    rfl
  obtain ⟨hpoles, hflag, hgap, hqualify, hsensor, hdrop, hbutton, hothers, hrest⟩ := h
  have hpole (x : PoleId) := pole_tick s x
  refine ⟨fun x => ?_, fun hg => ?_, fun hg => ?_, fun hg => ?_, ?_, fun x => ?_, ?_, fun hr => ?_, fun hs => ⟨?_, fun c hc => ?_⟩⟩
  · have hkept := hpoles x
    simp only [hpole, hstop, Pole.ticked, tick_isSome]
    exact hkept
  · have hkept := hflag hg
    simp only [hpole, Pole.ticked]
    exact hkept
  · exact hgap (by rwa [← tick_isSome])
  · rw [hlisted]
    exact hqualify (by rwa [← tick_isSome])
  · rw [hacknowledged, hfresh, hfresh, hfresh]
    exact hsensor
  · rw [hacknowledged, hpole]
    exact hdrop x
  · rw [hacknowledged, hstops]
    exact hbutton
  · have hps := hothers hr
    show ({ s.ps with
        poleP := s.ps.poleP.ticked, poleN := s.ps.poleN.ticked, gapTimer := s.ps.gapTimer.tick,
        restoreQualifyTimer := s.ps.restoreQualifyTimer.tick } : PoleSupervisor) = {}
    simp [hps, Timer.tick, Pole.ticked]
  · have hps := (hrest hs).1
    show ({ s.ps with
        poleP := s.ps.poleP.ticked, poleN := s.ps.poleN.ticked, gapTimer := s.ps.gapTimer.tick,
        restoreQualifyTimer := s.ps.restoreQualifyTimer.tick } : PoleSupervisor) =
      { band := s.ps.band, lineVoltage := s.ps.lineVoltage, poleP := { outcome := s.ps.poleP.outcome }
        poleN := { outcome := s.ps.poleN.outcome } }
    rw [hps]
    rfl
  · rw [hlisted]
    exact (hrest hs).2 c hc

theorem polesSound_step (h : PolesSound s) (ht : step s = .next t) : PolesSound t :=
  kept_polesSound.step (fun _ _ _ hs hb => polesSound_event hb hs)
    (fun _ _ hs => hs.same hs.quiet rfl rfl rfl rfl rfl rfl)
    (fun _ hs => ⟨configQuiet_tick hs.quiet, polesKept_tick hs.poles⟩) ht h

/-- Settles O8: within an event every operation keeps the records fit for their states, and the event's end places the poles,
the gap and the acknowledged entries by their reasons. -/
theorem stepKeepsPoles : Obligations.StepKeepsPoles := fun s t h hpoles ht => by
  obtain ⟨-, -, -, -, -, -, -, -, -, -, -, -, hquiet⟩ := h
  have hsound := polesSound_step ⟨hquiet, hpoles⟩ ht
  exact hsound.poles

end ThroughSteps

end Machine
end Sys2Proof
